-- ==== Sys2Proof/Word.lean ====
section
/-! DEFINITION. The plain types every other file speaks in: bytes, the numbers that name a lane, a book, a table
entry, and the sets of lanes and of match entries that the layouts of spec/10 show as bits. -/

namespace Sys2Proof

/-- One byte as it stands in a frame, a message or a record (spec/10, R200). -/
abbrev Byte := BitVec 8

/-- A run of bytes, the one sent first at the head. -/
abbrev Bytes := List Byte

/-- Lanes are numbered 0 to 3 (spec/00, section 4). -/
abbrev LaneId := Fin 4

/-- Books are numbered 0 to 7 (R94). -/
abbrev BookId := Fin 8

/-- Class records are numbered 0 to 15 (R75). -/
abbrev ClassId := Fin 16

/-- Match entries are numbered 0 to 31 (R75). -/
abbrev EntryId := Fin 32

/-- A set of lanes: lane n is a member when bit n is set (R200). -/
abbrev LaneSet := BitVec 4

/-- A set of match entries: entry n is a member when bit n is set (R200). -/
abbrev EntrySet := BitVec 32

/-- One of the two reference lines (spec/00, section 2.1). -/
inductive RefLine where
  | a | b
  deriving DecidableEq, Repr

/-- The reference line that is not the given one. -/
def RefLine.other : RefLine → RefLine
  | .a => .b
  | .b => .a

/-- Whether lane `l` is a member of the set. -/
def LaneSet.has (m : LaneSet) (l : LaneId) : Bool := m.getLsbD l.val

/-- Whether match entry `n` is a member of the set. -/
def EntrySet.has (m : EntrySet) (n : EntryId) : Bool := m.getLsbD n.val

/-- All four lanes in ascending number. -/
def allLanes : List LaneId := [0, 1, 2, 3]

/-- All eight books in ascending number. -/
def allBooks : List BookId := [0, 1, 2, 3, 4, 5, 6, 7]

/-- Add one, holding at `limit` (spec/00, section 5, Saturation). -/
def saturatingSucc (limit n : Nat) : Nat := min (n + 1) limit

/-- Limit an integer to the range from `-n` to `n` (spec/00, section 5, Arithmetic). -/
def clampSym (n : Nat) (v : Int) : Int := max (-(n : Int)) (min v (n : Int))

/-- Division rounded up; the divisor is never 0 where this is used. -/
def ceilDiv (a b : Nat) : Nat := (a + (b - 1)) / b

end Sys2Proof
end

