-- ==== Sys2Proof/Syntax.lean ====
section
/-! DEFINITION. The commands of the part: one constructor per row of spec/opcode_table.json, in its order.

A frame operand is the whole frame as it stands on the link, from the first byte of the destination address to the
last byte of the frame check. A message operand is what the reference line delivers. The rows that are requests
taken by the Control Handler have no operand: R183 says that the handler reads the request id and the fields from
the frame in the request queue when it takes it, and R186 says which frame that is (log 4). -/

namespace Sys2Proof

/-- One command: a row of the opcode table with the row's operands. -/
inductive Instr where
  /-- The reset input (R42 and the power-on rules of every chapter). -/
  | powerOnReset
  /-- An announcement message reaches the Reference Monitor of the line (R3). -/
  | announcementReceived (ref : RefLine) (message : Bytes)
  /-- A marker edge on the line (R6). -/
  | markerEdge (ref : RefLine)
  /-- The arm expiry of the line's capture unit (R8). -/
  | armExpiry (ref : RefLine)
  /-- The announcement expiry of the line's capture unit (R5). -/
  | announcementExpiry (ref : RefLine)
  /-- The guard expiry of the line's capture unit (R9). -/
  | guardExpiry (ref : RefLine)
  /-- The growth expiry (R34). -/
  | growthExpiry
  /-- The A link goes DOWN (R46). -/
  | aLinkLost (lane : LaneId)
  /-- The A link comes UP (R46). -/
  | aLinkReturned (lane : LaneId)
  /-- The B link goes DOWN; `inReception` says whether a frame was in reception on the B port (R47, log 6). -/
  | bLinkLost (lane : LaneId) (inReception : Bool)
  /-- The B link comes UP (R47). -/
  | bLinkReturned (lane : LaneId)
  /-- The start-of-frame delimiter of a frame on the A port (R48). -/
  | startOfFrame (lane : LaneId)
  /-- The frame in reception on the A port ends oversize, short or with a failed check (R49). -/
  | aFrameDiscarded (lane : LaneId) (frame : Bytes)
  /-- The frame in reception on the A port completes and is an entry frame (R53 to R55). -/
  | entryFrame (lane : LaneId) (frame : Bytes)
  /-- The frame in reception on the A port completes and is a foreign frame (R52). -/
  | foreignFrame (lane : LaneId) (frame : Bytes)
  /-- The frame in reception on the A port completes and is a control frame other than a probe (R51). -/
  | aControlFrame (lane : LaneId) (frame : Bytes)
  /-- The frame in reception on the A port completes and is a returning probe (R64). -/
  | probeReturn (lane : LaneId) (frame : Bytes)
  /-- The probe timeout (R67). -/
  | probeTimeout (lane : LaneId)
  /-- A frame on the B port ends oversize, short or with a failed check (R71). -/
  | bFrameDiscarded (lane : LaneId) (frame : Bytes)
  /-- A complete frame on the B port that is no control frame (R146). -/
  | reportFrame (lane : LaneId) (frame : Bytes)
  /-- A complete request on the B port (R184). -/
  | controlRequestArrival (lane : LaneId) (frame : Bytes)
  /-- A complete control frame with no kind on the B port (R183). -/
  | shortControlFrame (lane : LaneId) (frame : Bytes)
  /-- A complete control frame of a kind the part sends, on the B port (R71). -/
  | bControlDiscarded (lane : LaneId) (frame : Bytes)
  /-- A complete CREDIT_GRANT frame on the B port (R134). -/
  | creditGrant (lane : LaneId) (frame : Bytes)
  /-- A complete UNCROSS_DONE frame on the B port (R116). -/
  | uncrossDone (lane : LaneId) (frame : Bytes)
  /-- The release expiry of the lane's hold list (R130). -/
  | releaseExpiry (lane : LaneId)
  /-- The placement expiry of the lane's pending trigger for the book (R139). -/
  | placementExpiry (lane : LaneId) (book : BookId)
  /-- The B egress is free and the engine egress arbiter chooses (R144). -/
  | engineEgressChoice (lane : LaneId)
  /-- The A egress is free and the gateway egress arbiter chooses (R147). -/
  | gatewayEgressChoice (lane : LaneId)
  /-- The call start of the book (R100). -/
  | tcExpiry (book : BookId)
  /-- The window start of the book (R101). -/
  | twExpiry (book : BookId)
  /-- The end instant of the book (R102). -/
  | eExpiry (book : BookId)
  /-- The uncross instant E + D of the book (R103). -/
  | uncrossExpiry (book : BookId)
  /-- The uncross timeout of the book (R117). -/
  | uncrossTimeout (book : BookId)
  /-- The flush expiry of the exporter (R162). -/
  | flushExpiry
  /-- The snapshot expiry of the Evidence Unit (R179). -/
  | snapshotExpiry
  /-- TABLE_WRITE on the MATCH table (R85). -/
  | tableWriteMatch
  /-- TABLE_WRITE on the CLASS table (R88). -/
  | tableWriteClass
  /-- TABLE_WRITE on the LANE table (R191). -/
  | tableWriteLane
  /-- TABLE_WRITE on the STAMPING table, setting H (R41). -/
  | tableWriteH
  /-- TABLE_WRITE on the STAMPING table, setting L (R41). -/
  | tableWriteL
  /-- TABLE_WRITE on the STAMPING table, the day origin (R60). -/
  | tableWriteDayOrigin
  /-- TABLE_WRITE on the STAMPING table, the entry frame type (R60). -/
  | tableWriteEntryFrameType
  /-- TABLE_WRITE on the STAMPING table, the delay quantum q (R90). -/
  | tableWriteQ
  /-- TABLE_WRITE on the CLOCK table, a numeric setting (R190). -/
  | tableWriteClockSetting
  /-- TABLE_WRITE on the CLOCK table, auto-switch (R190). -/
  | tableWriteAutoSwitch
  /-- TABLE_WRITE on the CLOCK table, reference enable A or B (R13). -/
  | tableWriteReferenceEnable
  /-- TABLE_WRITE on the JOURNAL table, the export lane (R164). -/
  | tableWriteExportLane
  /-- TABLE_WRITE on the JOURNAL table, the flush interval (R164). -/
  | tableWriteFlushInterval
  /-- TABLE_WRITE on the COUNTER table, a counter or a residence monitor (R178). -/
  | tableWriteCounter
  /-- TABLE_WRITE on the COUNTER table, the snapshot period P (R179). -/
  | tableWriteSnapshotPeriod
  /-- TABLE_READ on any table (R192). -/
  | tableRead
  /-- BOOK_ARM (R97). -/
  | bookArm
  /-- BOOK_DISARM (R119). -/
  | bookDisarm
  /-- BOOK_EXTEND (R112). -/
  | bookExtend
  /-- BOOK_SEED (R108). -/
  | bookSeed
  /-- CLOCK_COMMAND ACQUIRE (R21). -/
  | acquire
  /-- CLOCK_COMMAND RELEASE (R21). -/
  | release
  /-- CLOCK_COMMAND SELECT_A (R22). -/
  | selectA
  /-- CLOCK_COMMAND SELECT_B (R22). -/
  | selectB
  /-- CLOCK_COMMAND CLEAR_MISSING (R14). -/
  | clearMissing
  /-- LANE_COMMAND ENABLE (R43). -/
  | enable
  /-- LANE_COMMAND DRAIN (R44). -/
  | drain
  /-- LANE_COMMAND DISABLE (R43). -/
  | disable
  /-- LANE_COMMAND PROBE (R45). -/
  | probe
  /-- JOURNAL_RELEASE (R166). -/
  | journalRelease
  /-- JOURNAL_RESEND (R168). -/
  | journalResend
  /-- COUNTER_READ (R181). -/
  | counterRead
  /-- COUNTER_CLEAR (R182). -/
  | counterClear
  /-- STATUS_READ (R196). -/
  | statusRead
  /-- DATAPATH_RESET (R197). -/
  | datapathReset
  /-- A request of a kind the handler does not know (R187). -/
  | unknownRequest
  deriving DecidableEq, Repr

end Sys2Proof
end

