-- ==== Sys2Proof/Config.lean ====
section
/-! DEFINITION. What the manual fixes for every part (capacities, lengths of expiries, widths) and the free values:
constants without a body, of which nothing can be proved, for what the manual leaves open. -/

namespace Sys2Proof.Config

/-- Nanoseconds in a second. -/
def second : Nat := 1000000000

/-- Nanoseconds in a millisecond. -/
def milli : Nat := 1000000

/-- Uncertainties saturate here: one second or more (spec/00, section 5; R29). -/
def uncertaintyMax : Nat := 1000000000

/-- The applied rate is clamped to plus or minus this, in ppb (R2). -/
def rateLimit : Nat := 200000

/-- The frequency term is clamped to plus or minus this, in ppb (R2). -/
def freqLimit : Nat := 150000

/-- Length of the announcement expiry and of the arm expiry: 1,000 ms of the oscillator (R5). -/
def captureExpiry : Nat := 1000000000

/-- Length of the probe timeout: 10 ms of LT (R62). -/
def probeTimeout : Nat := 10000000

/-- Where a 32-bit saturating count holds (R73, R199). -/
def count32Max : Nat := 4294967295

/-- Where the missing and consecutive-good counts hold (R4). -/
def count8Max : Nat := 255

/-- Where an evidence counter and a monitor's count hold (R173, R176). -/
def count48Max : Nat := 281474976710655

/-- Where a monitor's sum holds (R176). -/
def sumMax : Nat := 18446744073709551615

/-- Largest C_lane and U_lane (R42). -/
def compMax : Nat := 65535

/-- Largest asymmetry allowance, in per cent (R42). -/
def allowanceMax : Nat := 50

/-- FRAME entries a hold list can hold (R129). -/
def holdFrames : Nat := 64

/-- Most credits of a lane (R134). -/
def creditMax : Nat := 32

/-- Places of a notice queue (R125). -/
def noticeMax : Nat := 16

/-- Places of a report FIFO (R146). -/
def reportMax : Nat := 32

/-- At this many reports or more the report goes before a notice (R147). -/
def reportPressure : Nat := 24

/-- Where the notice-share count holds (R147). -/
def noticeShareMax : Nat := 4

/-- Where the engine egress wait count turns the choice (R145). -/
def engineWaitMax : Nat := 8

/-- Places of a request queue and of a reply queue (R184, R185). -/
def requestMax : Nat := 8

/-- Slots of the journal's ring (R157). -/
def ringSlots : Nat := 4096

/-- Most records of one export frame (R163). -/
def exportMax : Nat := 16

/-- Most milliseconds that extensions add to one arming (R112). -/
def extensionMax : Nat := 3600000

/-- Longest link frame accepted, in bytes (R49). -/
def frameMax : Nat := 2048

/-- Shortest link frame accepted, in bytes (R49). -/
def frameMin : Nat := 18

/-- Longest entry frame accepted, in bytes (R55). -/
def entryFrameMax : Nat := 1518

/-- Bytes of the link header: destination, source, type (R49). -/
def linkHeader : Nat := 14

/-- Type of every control frame (R204). -/
def controlType : Nat := 0x9A4C

/-- The lead value of an announcement (R3). -/
def leadValue : Nat := 0x5D

/-- A free value: what a layout field of `width` bytes carries when the value it should carry does not fit into it
(LT, an offset or a record number beyond the field of chapter 10). The manual states the field's size and the
value's unlimited range and not what is sent. DESIGN CHOICE, log 8. -/
opaque fieldOverflow (width : Nat) (value : Int) : Nat

/-- A free value: which of the free hold-list slots an admitted frame takes, at its `n`-th drawing. The manual says
only that a slot is taken (R127). DESIGN CHOICE, log 7. -/
opaque slotChoice (n : Nat) : Nat

end Sys2Proof.Config
end

