-- ==== Sys2Proof/Machine/State.lean ====
section
/-! DEFINITION. Every piece of state the manual gives the part, as plain data, the state after power-on, and the
reasons a step could stop. Instants and LT are natural numbers of nanoseconds (log 19); counts are natural numbers
held to their limits by the operations. -/

namespace Sys2Proof.Machine

/-! ### Time path (spec/01, spec/02) -/

/-- The Timebase (R1, R2). `osc` and `carry` are the model's own (log 2). -/
structure Timebase where
  /-- Local trading time, whole nanoseconds. -/
  lt : Nat
  /-- The sub-nanosecond fraction in units of 1/65,536 ns. -/
  frac : BitVec 16
  /-- The applied rate in ppb. -/
  r : Int
  /-- Oscillator nanoseconds since reset. -/
  osc : Nat
  /-- What is below one unit of the fraction, in units of 1/(65,536 × 10⁹) ns. -/
  carry : Nat
  deriving DecidableEq, Repr

/-- The pending announcement of an ARMED capture unit (section 1.4). -/
structure Announcement where
  seconds : Nat
  grade : Fin 8
  source : BitVec 16
  deriving DecidableEq, Repr

/-- The capture unit's state with what it holds in it (R4, R5, R9): the running expiry is an instant of the
oscillator. The announcement expiry is absent while the reference is DISABLED (R13). -/
inductive CaptureUnit where
  | idle (announcementExpiry : Option Nat)
  | armed (pending : Announcement) (armExpiry : Nat)
  | guard (guardExpiry : Nat)
  deriving DecidableEq, Repr

/-- The reference states (R4). -/
inductive RefState where
  | disabled | listening | healthy | lost
  deriving DecidableEq, Repr

/-- The last accepted marker record (R4). -/
structure Marker where
  captured : Nat
  seconds : Nat
  grade : Fin 8
  source : BitVec 16
  theta : Int
  deriving DecidableEq, Repr

/-- One Reference Monitor (R4). The reference state is the enable setting too (R13, log 25). -/
structure Monitor where
  unit : CaptureUnit
  refState : RefState
  missing : Nat
  good : Nat
  last : Option Marker
  announcementDiscards : Nat
  orphanEdges : Nat
  deriving DecidableEq, Repr

/-- Why a marker is refused (R5 to R8). -/
inductive RefusalReason where
  | noAnnouncement | gradeUnusable | window | overrun | noEdge
  deriving DecidableEq, Repr

/-- The discipline states (section 1.6). -/
inductive DisciplineState where
  | free | acquire | locked | holdover
  deriving DecidableEq, Repr

/-- The Discipline Controller (R15). -/
structure Discipline where
  state : DisciplineState
  selected : RefLine
  /-- The frequency term F in ppb. -/
  freq : Int
  lockCount : Nat
  stepPending : Bool
  autoSwitch : Bool
  deriving DecidableEq, Repr

/-- Clock grade and stamp grade (R29, R39). -/
inductive Grade where
  | traceable | degraded | untraceable
  deriving DecidableEq, Repr

/-- The Uncertainty Unit (R29). -/
structure Uncertainty where
  uBase : Nat
  ltMark : Nat
  evaluated : Bool
  grade : Grade
  growthExpiry : Option Nat
  deriving DecidableEq, Repr

/-- The numeric clock settings of R23. -/
structure ClockSettings where
  gi : Nat
  gp : Nat
  tLock : Nat
  k : Nat
  s : Nat
  wc : Nat
  guardMs : Nat
  m : Nat
  deriving DecidableEq, Repr

/-- The stamping settings (section 4.8). -/
structure Stamping where
  dayOrigin : Nat
  h : Nat
  l : Nat
  q : Nat
  entryType : Nat
  deriving DecidableEq, Repr

/-! ### Lanes (spec/03, spec/06, spec/09) -/

/-- UP or DOWN (R42). -/
inductive Link where
  | down | up
  deriving DecidableEq, Repr

/-- The state a lane returns to after a probe (R42). -/
inductive ReturnState where
  | disabled | active
  deriving DecidableEq, Repr

/-- The lane states; the state to return to is present in PROBING only (R42). -/
inductive LaneState where
  | disabled | active | draining
  | probing (ret : ReturnState)
  deriving DecidableEq, Repr

/-- The frame in reception on an A port: what the capture formed (R42, R48). -/
structure Reception where
  captured : Nat
  stamp : Nat
  uStamp : Nat
  grade : Grade
  dayOrigin : Nat
  deriving DecidableEq, Repr

/-- The probe of a lane: none, queued for the A egress, or outstanding since T1 (R62). -/
inductive Probe where
  | none | queued
  | outstanding (t1 : Nat)
  deriving DecidableEq, Repr

/-- The message kinds (R203). -/
inductive MessageKind where
  | other | new | modify | cancel | massCancel | heartbeat
  deriving DecidableEq, Repr

/-- The entry header as the lane reads it (section 3.5). -/
structure EntryHeader where
  version : Nat
  kind : MessageKind
  declared : Nat
  session : Nat
  member : Nat
  instrument : Nat
  clientRef : Nat
  deriving DecidableEq, Repr

/-- The order key of a FRAME entry (R128). -/
inductive OrderKey where
  | order (session clientRef : Nat)
  | sessionWide (session : Nat)
  deriving DecidableEq, Repr

/-- What a FRAME entry holds beside the common fields (R127). -/
structure HeldFrame where
  key : Option OrderKey
  book : Option BookId
  cls : Option ClassId
  captured : Nat
  slot : Nat
  frame : Bytes
  deriving DecidableEq, Repr

/-- The two kinds of hold-list entries (R127). -/
inductive HoldBody where
  | frame (f : HeldFrame)
  | trigger (book : BookId) (endInstant : Nat)
  deriving DecidableEq, Repr

/-- One entry of a hold list (R127). -/
structure HoldEntry where
  body : HoldBody
  release : Nat
  conflictWaited : Bool
  creditWaited : Bool
  deriving DecidableEq, Repr

/-- Gating phases (R82). -/
inductive Gating where
  | opened | call | window | freeze | post
  deriving DecidableEq, Repr

/-- Why an entry frame is refused (R123). -/
inductive EntryRefusal where
  | auctionExcluded | lateRefused | overflow | malformed | laneDraining | laneProbing
  deriving DecidableEq, Repr

/-- The disposition of an entry frame (section 6.1). -/
inductive Disposition where
  | pass | late
  | refused (reason : EntryRefusal)
  deriving DecidableEq, Repr

/-- A refusal notice as formed (R124). -/
structure Notice where
  number : Nat
  lane : LaneId
  reason : EntryRefusal
  stamp : Nat
  header : EntryHeader
  cls : Option ClassId
  book : Option BookId
  gating : Gating
  deriving DecidableEq, Repr

/-- A pending trigger of a lane with its placement expiry, if set (R139). -/
structure PendingTrigger where
  book : BookId
  endInstant : Nat
  expiry : Option Nat
  deriving DecidableEq, Repr

/-- The twelve lane counts (R73). -/
structure LaneCounts where
  aOversize : Nat
  aFcsError : Nat
  aTruncated : Nat
  aControlDiscarded : Nat
  probeStale : Nat
  disabledDiscarded : Nat
  foreignOverflow : Nat
  bOversize : Nat
  bFcsError : Nat
  bTruncated : Nat
  bControlDiscarded : Nat
  requestNoPermission : Nat
  deriving DecidableEq, Repr

/-- The lane commands (R194). -/
inductive LaneCommand where
  | enable | drain | disable | probe
  deriving DecidableEq, Repr

/-- The status codes of replies (R188). -/
inductive Status where
  | ok | okClamped | busy | refusedState | locked | badIndex | badValue | tooLate | notTraceable
  | unknownRequest | superseded
  deriving DecidableEq, Repr

/-- A reply is completed, or deferred until the commanded lane completes it (R185, R194). -/
inductive ReplyBody where
  | completed (status : Status) (content : Bytes)
  | deferred (lane : LaneId) (command : LaneCommand)
  deriving DecidableEq, Repr

/-- One place of a reply queue (R185). -/
structure Reply where
  id : Nat
  kind : Nat
  body : ReplyBody
  deriving DecidableEq, Repr

/-- A frame in transmission on a B egress; a released FRAME entry keeps its slot meanwhile (R137, logs 5 and 30). -/
structure Sending where
  frame : Bytes
  slot : Option Nat
  deriving DecidableEq, Repr

/-- One Lane Unit (R42) with its queues (chapters 6 and 9). -/
structure LaneUnit where
  state : LaneState
  aLink : Link
  bLink : Link
  rx : Option Reception
  cLane : Nat
  uLane : Nat
  allowance : Nat
  permission : Bool
  pendingC : Option Nat
  pendingU : Option Nat
  lastProbeId : Nat
  probe : Probe
  hold : List HoldEntry
  releaseExpiry : Option Nat
  credits : Nat
  notices : List Notice
  reports : List Bytes
  pendingTriggers : List PendingTrigger
  engineWait : Nat
  noticeShare : Nat
  counts : LaneCounts
  requests : List Bytes
  replies : List Reply
  requestOverflow : Nat
  shortControl : Nat
  /-- The frame in transmission on the A egress (log 5). -/
  aTx : Option Bytes
  /-- The frame in transmission on the B egress, with the slot it is sent from (R137, log 5). -/
  bTx : Option Sending
  deriving DecidableEq, Repr

/-! ### Classifier (spec/04) -/

/-- Which header field a match entry looks at (R76). -/
inductive Selector where
  | session | member | instrument | kind
  deriving DecidableEq, Repr

/-- One match entry (R76). -/
structure MatchEntry where
  selector : Selector
  value : BitVec 32
  mask : BitVec 32
  enabled : Bool
  deriving DecidableEq, Repr

/-- FULL or COMPACT trailer (R78). -/
inductive StampFormat where
  | full | compact
  deriving DecidableEq, Repr

/-- Treatment in call and window (R78): `accept` is ADMIT. -/
inductive Admission where
  | accept | refuse
  deriving DecidableEq, Repr

/-- Treatment once the end has passed (R78). -/
inductive LateAction where
  | mark | refuse
  deriving DecidableEq, Repr

/-- One class record (R78). -/
structure ClassRecord where
  anyOf : EntrySet
  allOf : EntrySet
  book : Option BookId
  format : StampFormat
  delayUnits : Nat
  admission : Admission
  lateAction : LateAction
  deriving DecidableEq, Repr

/-! ### Book Unit (spec/05) -/

/-- Book phases (R94). -/
inductive Phase where
  | idle | armed | call | window | freeze | uncross | closed
  deriving DecidableEq, Repr

/-- The fields a book holds from its arming (R94). Tc and Tw are LT in nanoseconds, the lengths milliseconds. -/
structure Arming where
  tc : Nat
  tw : Nat
  w : Nat
  d : Nat
  timeoutMs : Nat
  lanes : LaneSet
  extension : Nat
  deriving DecidableEq, Repr

/-- The fields a book holds from its draw (R94). -/
structure Draw where
  x : BitVec 32
  offset : Nat
  endInstant : Nat
  unseeded : Bool
  deriving DecidableEq, Repr

/-- The confirmation results (R116). -/
inductive ConfirmResult where
  | done | noCross | aborted
  deriving DecidableEq, Repr

/-- The trigger states (R115). -/
inductive TriggerState where
  | none | pending | held | released
  deriving DecidableEq, Repr

/-- One book record (R94). -/
structure Book where
  phase : Phase
  arming : Option Arming
  draw : Option Draw
  uncrossAt : Option Nat
  result : Option ConfirmResult
  triggers : Vector TriggerState 4
  deriving DecidableEq, Repr

/-- What the Book Unit holds besides the records (R95). -/
structure BookUnit where
  generator : BitVec 32
  unseeded : Bool
  seedCount : Nat
  unexpected : Nat
  malformed : Nat
  deriving DecidableEq, Repr

/-! ### Journal (spec/07) -/

/-- Events of CLOCK records (R28). -/
inductive ClockEvent where
  | state | select | switch | step | stepDeferred | sourceChange | referenceListening | referenceHealthy
  | referenceLost | referenceDisabled | gradeChange
  deriving DecidableEq, Repr

/-- A CLOCK record's fields (section 1.8). -/
structure ClockRecord where
  event : ClockEvent
  ref : RefLine
  theta : Option Int
  freq : Int
  r : Int
  uncertainty : Nat
  state : DisciplineState
  deriving DecidableEq, Repr

/-- Events of BOOK records (R120). -/
inductive BookEvent where
  | armed | lateArm | call | window | draw | uncross | extended | triggerReleased | confirmed | lateConfirmation
  | unexpectedConfirmation | unconfirmed | disarmed
  deriving DecidableEq, Repr

/-- A BOOK record's fields (R154): each optional field absent unless its event gives it (R120). -/
structure BookRecord where
  book : BookId
  event : BookEvent
  tc : Option Nat := Option.none
  tw : Option Nat := Option.none
  w : Option Nat := Option.none
  d : Option Nat := Option.none
  timeoutMs : Option Nat := Option.none
  lanes : Option LaneSet := Option.none
  x : Option (BitVec 32) := Option.none
  offset : Option Nat := Option.none
  endInstant : Option Nat := Option.none
  unseeded : Option Bool := Option.none
  uncrossAt : Option Nat := Option.none
  applied : Option Nat := Option.none
  phase : Option Phase := Option.none
  result : Option ConfirmResult := Option.none
  lane : Option LaneId := Option.none
  byStep : Bool := false
  deriving DecidableEq, Repr

/-- Events of LANE records (R72). -/
inductive LaneEvent where
  | enabled | drainStarted | disabled | probing | probeStarted | probeOk | probeFailed | aLinkLost | aLinkReturned
  | bLinkLost | bLinkReturned | flushed
  deriving DecidableEq, Repr

/-- The compensation field of a LANE record (R208). -/
structure CompChange where
  oldC : Nat
  newC : Nat
  oldU : Nat
  newU : Nat
  deriving DecidableEq, Repr

/-- A LANE record's fields (R154). -/
structure LaneRecord where
  lane : LaneId
  event : LaneEvent
  roundTrip : Option Nat := Option.none
  comp : Option CompChange := Option.none
  flushed : Option Nat := Option.none
  deriving DecidableEq, Repr

/-- Notice outcomes (R125). -/
inductive NoticeOutcome where
  | queued | suppressed
  deriving DecidableEq, Repr

/-- An ENTRY record's fields (R154, R155). -/
structure EntryRecord where
  lane : LaneId
  stamp : Nat
  uStamp : Nat
  grade : Grade
  cls : Option ClassId
  book : Option BookId
  gating : Gating
  disposition : Disposition
  notice : Option NoticeOutcome
  header : EntryHeader
  deriving DecidableEq, Repr

/-- The seven tables (R189). -/
inductive TableId where
  | matchTable | classTable | lane | stamping | clock | journal | counter
  deriving DecidableEq, Repr

/-- The values of a residence monitor (R176). -/
structure MonitorValues where
  count : Nat
  sum : Nat
  maximum : Nat
  deriving DecidableEq, Repr

/-- The values COUNTER_READ and a snapshot carry (R180, R181). -/
structure EvidenceValues where
  counters : List Nat
  monitors : List MonitorValues
  deriving DecidableEq, Repr

/-- The content of a record, by kind (R154). TABLE content stands in its record form as bytes (R207). -/
inductive RecordBody where
  | entry (e : EntryRecord)
  | clock (c : ClockRecord)
  | book (b : BookRecord)
  | table (table : TableId) (index : Nat) (content : Bytes)
  | lane (l : LaneRecord)
  | snapshot (v : EvidenceValues)
  | cleared
  | seed (count : Nat)
  | gapFull (first count : Nat)
  | gapVoid
  deriving DecidableEq, Repr

/-- What a held position of the ring is: a bound slot that is still FREE, or a record with its write LT (R157). -/
inductive SlotContent where
  | bound
  | written (writeLt : Nat) (body : RecordBody)
  | exported (writeLt : Nat) (body : RecordBody)
  deriving DecidableEq, Repr

/-- One held position of the ring: its number, its slot, its content (R157). -/
structure Held where
  number : Nat
  slot : Nat
  content : SlotContent
  deriving DecidableEq, Repr

/-- A reserved number and whether it was lost at the reservation (R152, R170). -/
structure Reservation where
  number : Nat
  lost : Bool
  deriving DecidableEq, Repr

/-- A pending gap (R159). -/
structure Gap where
  first : Nat
  count : Nat
  deriving DecidableEq, Repr

/-- The Journal (R148). A slot that is no position of `held` is FREE and unbound. -/
structure Journal where
  counter : Nat
  /-- The positions in the order of their numbers. -/
  held : List Held
  reservations : Vector (Option Reservation) 4
  gap : Option Gap
  lostTotal : Nat
  highestExported : Option Nat
  flushExpiry : Option Nat
  flushDue : Bool
  resend : Option Nat
  exportLane : LaneId
  flushInterval : Nat
  deriving DecidableEq, Repr

/-! ### Evidence Unit (spec/08) -/

/-- The sixteen kinds of evidence events (R171). -/
inductive EvidenceKind where
  | entryPass | entryLate | entryRefused | entryMalformed | overflow | noticeSuppressed | frameReleased
  | conflictWait | creditWait | creditExcess | foreign | discardedDisabled | reportDropped | markerAccepted
  | markerMissing | recordLost
  deriving DecidableEq, Repr

/-- One evidence counter: its value and its setting; an absent filter is ANY (R173). -/
structure Counter where
  value : Nat
  kind : EvidenceKind
  lanes : Option LaneSet
  cls : Option ClassId
  book : Option BookId
  deriving DecidableEq, Repr

/-- One residence monitor: its setting and its values (R176). -/
structure ResidenceMonitor where
  lanes : Option LaneSet
  cls : Option ClassId
  values : MonitorValues
  deriving DecidableEq, Repr

/-- The Evidence Unit (R173, R176, R179): eight counters and two monitors. -/
structure Evidence where
  counters : Vector Counter 8
  monitors : Vector ResidenceMonitor 2
  /-- The snapshot period P in seconds. -/
  period : Nat
  snapshotExpiry : Option Nat
  deriving DecidableEq, Repr

/-! ### The whole part -/

/-- The state of the part. `pending` (the commands waiting) and `freeIndex` (how many free values have been drawn)
are the model's own. -/
structure State where
  timebase : Timebase
  monitorA : Monitor
  monitorB : Monitor
  discipline : Discipline
  uncertainty : Uncertainty
  clock : ClockSettings
  stamping : Stamping
  lanes : Vector LaneUnit 4
  matchTable : Vector MatchEntry 32
  classTable : Vector ClassRecord 16
  books : Vector Book 8
  bookUnit : BookUnit
  journal : Journal
  evidence : Evidence
  /-- The Control Handler's round-robin pointer (R186). -/
  pointer : LaneId
  pending : List Instr
  freeIndex : Nat
  deriving DecidableEq, Repr

/-- Why the machine would stop with a fault. No rule of the manual stops the part, so nothing raises a fault: the
type has no constructor, and every claim about a fault is empty (safe). -/
inductive Fault where
  deriving DecidableEq, Repr

/-- Why a command would have no meaning. -/
inductive Refusal where
  /-- Raised by an arm of `exec` whose command has no meaning yet; safe, since nothing can be proved of it. No arm
  raises it now. -/
  | notModelled (mnemonic : String)
  deriving DecidableEq, Repr

/-! ### Power-on (R1, R2, R4, R15, R23, R29, R42, R75, R95, R148, R173, R176, R179, R199) -/

/-- A Reference Monitor at power-on (R4): IDLE with the announcement expiry started at oscillator time 0. -/
def Monitor.reset : Monitor where
  unit := .idle (some Config.captureExpiry)
  refState := .listening
  missing := 0
  good := 0
  last := none
  announcementDiscards := 0
  orphanEdges := 0

/-- The lane counts at power-on (R73). -/
def LaneCounts.zero : LaneCounts := ⟨0, 0, 0, 0, 0, 0, 0, 0, 0, 0, 0, 0⟩

/-- A Lane Unit at power-on (R42, section 6.10, R199); only the permission differs between lanes. -/
def LaneUnit.reset (permission : Bool) : LaneUnit where
  state := .disabled
  aLink := .down
  bLink := .down
  rx := none
  cLane := 0
  uLane := 0
  allowance := 10
  permission := permission
  pendingC := none
  pendingU := none
  lastProbeId := 0
  probe := .none
  hold := []
  releaseExpiry := none
  credits := 0
  notices := []
  reports := []
  pendingTriggers := []
  engineWait := 0
  noticeShare := 0
  counts := .zero
  requests := []
  replies := []
  requestOverflow := 0
  shortControl := 0
  aTx := none
  bTx := none

/-- A match entry at power-on (R75). -/
def MatchEntry.reset : MatchEntry := ⟨.session, 0, 0, false⟩

/-- A class record at power-on (R75). -/
def ClassRecord.reset : ClassRecord := ⟨0, 0, none, .full, 0, .accept, .mark⟩

/-- An IDLE book record (R94): every optional field absent, every trigger state NONE. -/
def Book.idle : Book := ⟨.idle, none, none, none, none, Vector.replicate 4 .none⟩

/-- The Journal at power-on (R148). -/
def Journal.reset : Journal where
  counter := 0
  held := []
  reservations := Vector.replicate 4 none
  gap := none
  lostTotal := 0
  highestExported := none
  flushExpiry := none
  flushDue := false
  resend := none
  exportLane := 0
  flushInterval := 10

/-- The Evidence Unit at power-on (R173, R176, R179). -/
def Evidence.reset : Evidence where
  counters := Vector.replicate 8 ⟨0, .entryPass, none, none, none⟩
  monitors := Vector.replicate 2 ⟨none, none, ⟨0, 0, 0⟩⟩
  period := 0
  snapshotExpiry := none

/-- The part right after power-on, with no command waiting. -/
def State.reset : State where
  timebase := ⟨0, 0, 0, 0, 0⟩
  monitorA := Monitor.reset
  monitorB := Monitor.reset
  discipline := ⟨.free, .a, 0, 0, false, false⟩
  uncertainty := ⟨Config.uncertaintyMax, 0, false, .untraceable, none⟩
  clock := ⟨3, 1, 500, 4, 1000000, 2000000, 100, 3⟩
  stamping := ⟨0, 50, 100000, 50000, 0x9A4B⟩
  lanes := (Vector.replicate 4 (LaneUnit.reset false)).set 0 (LaneUnit.reset true)
  matchTable := Vector.replicate 32 MatchEntry.reset
  classTable := Vector.replicate 16 ClassRecord.reset
  books := Vector.replicate 8 Book.idle
  bookUnit := ⟨1, true, 0, 0, 0⟩
  journal := Journal.reset
  evidence := Evidence.reset
  pointer := 0
  pending := []
  freeIndex := 0

end Sys2Proof.Machine
end

