-- ==== Sys2Proof/Machine/Bytes.lean ====
section
/-! DEFINITION. Byte order, field encodings and the frame check: the conventions of spec/10 (R200, R201) and of R61. -/

namespace Sys2Proof.Machine

/-- The number that bytes spell, most significant byte first (R200). -/
def beNat (bs : Bytes) : Nat := bs.foldl (fun acc b => acc * 256 + b.toNat) 0

/-- The low `width` bytes of a number, most significant byte first (R200). -/
def beBytes : Nat → Nat → Bytes
  | 0, _ => []
  | width + 1, v => BitVec.ofNat 8 (v / 256 ^ width) :: beBytes width v

/-- An unsigned field of `width` bytes (R200); a value that does not fit is sent as a free value (log 8). -/
def uField (width v : Nat) : Bytes :=
  beBytes width (if v < 256 ^ width then v else Config.fieldOverflow width v)

/-- A two's-complement field of `width` bytes (R200); a value that does not fit is sent as a free value (log 8). -/
def sField (width : Nat) (v : Int) : Bytes :=
  if -((256 ^ width : Nat) : Int) ≤ 2 * v ∧ 2 * v < ((256 ^ width : Nat) : Int) then
    beBytes width (v % ((256 ^ width : Nat) : Int)).toNat
  else beBytes width (Config.fieldOverflow width v)

/-- A flag or an on/off setting: 1 for set or on, 0 for clear or off (R206). -/
def flagByte (f : Bool) : Bytes := uField 1 (if f then 1 else 0)

/-- Zero fill (R200). -/
def fill (width : Nat) : Bytes := List.replicate width 0

/-- An optional field: a presence byte, then the value bytes, zero fill when absent (R200). -/
def optField {α : Type} (width : Nat) (enc : α → Bytes) : Option α → Bytes
  | none => 0 :: fill width
  | some v => 1 :: enc v

/-- A time as seconds and nanoseconds: 6 bytes, then 4 bytes (R200). -/
def timeField (t : Nat) : Bytes := uField 6 (t / Config.second) ++ uField 4 (t % Config.second)

/-- A book time as seconds and milliseconds: 6 bytes, then 2 bytes (R200). -/
def milliField (t : Nat) : Bytes :=
  uField 6 (t / Config.second) ++ uField 2 (t % Config.second / Config.milli)

/-- The unsigned number in the `width` bytes at `offset`. -/
def field (bs : Bytes) (offset width : Nat) : Nat := beNat ((bs.drop offset).take width)

/-- One bit of the check register against the reflected polynomial (R61). -/
def crcBit (c : BitVec 32) : BitVec 32 :=
  if c.getLsbD 0 then (c >>> 1) ^^^ 0xEDB88320#32 else c >>> 1

/-- One byte into the check register, least significant bit first (R61). -/
def crcByte (c : BitVec 32) (b : Byte) : BitVec 32 :=
  crcBit (crcBit (crcBit (crcBit (crcBit (crcBit (crcBit (crcBit (c ^^^ b.setWidth 32))))))))

/-- The 32-bit cyclic redundancy check of R61: preset to all ones, complemented at the end. -/
def crc32 (bs : Bytes) : BitVec 32 := ~~~ (bs.foldl crcByte 0xFFFFFFFF#32)

/-- The four bytes of the frame check, least significant byte first (R61). -/
def frameCheck (bs : Bytes) : Bytes :=
  let c := crc32 bs
  [c.extractLsb' 0 8, c.extractLsb' 8 8, c.extractLsb' 16 8, c.extractLsb' 24 8]

/-- A frame body with its frame check after it (R61). -/
def withCheck (body : Bytes) : Bytes := body ++ frameCheck body

/-- The frame less its last four bytes, the frame check. -/
def checkedPart (frame : Bytes) : Bytes := frame.take (frame.length - 4)

/-- Whether the frame's last four bytes are the check of the bytes before them (R49, R61). -/
def checkHolds (frame : Bytes) : Bool := frame.drop (frame.length - 4) == frameCheck (checkedPart frame)

/-- What the frame holds after its link header and before its frame check; padding is part of it (R205). -/
def payload (frame : Bytes) : Bytes := (checkedPart frame).drop Config.linkHeader

/-- The type field of the link header (R49). -/
def frameType (frame : Bytes) : Nat := field frame 12 2

/-- Ports 0 to 3 are the A ports of lanes 0 to 3, 4 to 7 their B ports (R201). -/
def aPort (l : LaneId) : Nat := l.val

/-- The number of a lane's B port (R201). -/
def bPort (l : LaneId) : Nat := 4 + l.val

/-- A frame the part originates on a port: all-ones destination, the port's source address, the control type, the
payload, zero bytes up to 64 bytes with the frame check (R200, R201). -/
def ownFrame (port : Nat) (content : Bytes) : Bytes :=
  let body := List.replicate 6 (0xFF : Byte) ++ uField 6 (0x020000000000 + port) ++ uField 2 Config.controlType ++ content
  withCheck (body ++ fill (60 - body.length))

end Sys2Proof.Machine
end

