-- ==== Sys2Proof/Machine/Codes.lean ====
section
/-! DEFINITION. The codes of the enumerated fields (R203), of the control-frame kinds (R204) and of the record events
(R208), in both directions where the part reads a code too. -/

namespace Sys2Proof.Machine

/-! ### Codes the part sends -/

def MessageKind.code : MessageKind → Nat
  | .other => 0 | .new => 1 | .modify => 2 | .cancel => 3 | .massCancel => 4 | .heartbeat => 5

def Grade.code : Grade → Nat
  | .traceable => 0 | .degraded => 1 | .untraceable => 2

def Gating.code : Gating → Nat
  | .opened => 0 | .call => 1 | .window => 2 | .freeze => 3 | .post => 4

def Disposition.code : Disposition → Nat
  | .pass => 0 | .late => 1 | .refused _ => 2

def EntryRefusal.code : EntryRefusal → Nat
  | .auctionExcluded => 1 | .lateRefused => 2 | .overflow => 3 | .malformed => 4 | .laneDraining => 5
  | .laneProbing => 6

def NoticeOutcome.code : NoticeOutcome → Nat
  | .queued => 1 | .suppressed => 2

def Phase.code : Phase → Nat
  | .idle => 0 | .armed => 1 | .call => 2 | .window => 3 | .freeze => 4 | .uncross => 5 | .closed => 6

def DisciplineState.code : DisciplineState → Nat
  | .free => 0 | .acquire => 1 | .locked => 2 | .holdover => 3

def refCode : RefLine → Nat
  | .a => 0 | .b => 1

def RefState.code : RefState → Nat
  | .disabled => 0 | .listening => 1 | .healthy => 2 | .lost => 3

def CaptureUnit.code : CaptureUnit → Nat
  | .idle _ => 0 | .armed _ _ => 1 | .guard _ => 2

def LaneState.code : LaneState → Nat
  | .disabled => 0 | .active => 1 | .draining => 2 | .probing _ => 3

def Link.code : Link → Nat
  | .down => 0 | .up => 1

def TriggerState.code : TriggerState → Nat
  | .none => 0 | .pending => 1 | .held => 2 | .released => 3

def ConfirmResult.code : ConfirmResult → Nat
  | .done => 1 | .noCross => 2 | .aborted => 3

def Status.code : Status → Nat
  | .ok => 0 | .okClamped => 1 | .busy => 2 | .refusedState => 3 | .locked => 4 | .badIndex => 5 | .badValue => 6
  | .tooLate => 7 | .notTraceable => 8 | .unknownRequest => 9 | .superseded => 10

def TableId.code : TableId → Nat
  | .matchTable => 1 | .classTable => 2 | .lane => 3 | .stamping => 4 | .clock => 5 | .journal => 6 | .counter => 7

def Selector.code : Selector → Nat
  | .session => 0 | .member => 1 | .instrument => 2 | .kind => 3

def StampFormat.code : StampFormat → Nat
  | .full => 0 | .compact => 1

def Admission.code : Admission → Nat
  | .accept => 0 | .refuse => 1

def LateAction.code : LateAction → Nat
  | .mark => 0 | .refuse => 1

def LaneCommand.code : LaneCommand → Nat
  | .enable => 1 | .drain => 2 | .disable => 3 | .probe => 4

def EvidenceKind.code : EvidenceKind → Nat
  | .entryPass => 1 | .entryLate => 2 | .entryRefused => 3 | .entryMalformed => 4 | .overflow => 5
  | .noticeSuppressed => 6 | .frameReleased => 7 | .conflictWait => 8 | .creditWait => 9 | .creditExcess => 10
  | .foreign => 11 | .discardedDisabled => 12 | .reportDropped => 13 | .markerAccepted => 14 | .markerMissing => 15
  | .recordLost => 16

def ClockEvent.code : ClockEvent → Nat
  | .state => 1 | .select => 2 | .switch => 3 | .step => 4 | .stepDeferred => 5 | .sourceChange => 6
  | .referenceListening => 7 | .referenceHealthy => 8 | .referenceLost => 9 | .referenceDisabled => 10
  | .gradeChange => 11

def BookEvent.code : BookEvent → Nat
  | .armed => 1 | .lateArm => 2 | .call => 3 | .window => 4 | .draw => 5 | .uncross => 6 | .extended => 7
  | .triggerReleased => 8 | .confirmed => 9 | .lateConfirmation => 10 | .unexpectedConfirmation => 11
  | .unconfirmed => 12 | .disarmed => 13

def LaneEvent.code : LaneEvent → Nat
  | .enabled => 1 | .drainStarted => 2 | .disabled => 3 | .probing => 4 | .probeStarted => 5 | .probeOk => 6
  | .probeFailed => 7 | .aLinkLost => 8 | .aLinkReturned => 9 | .bLinkLost => 10 | .bLinkReturned => 11
  | .flushed => 12

/-- PROBE_OK 1, PROBE_FAILED 2 (R203). -/
def probeOkCode : Nat := 1

/-- PROBE_FAILED (R203). -/
def probeFailedCode : Nat := 2

/-! ### Codes the part reads: absent where the code is not listed -/

/-- A code not listed is read as OTHER (R203). -/
def messageKindOf : Nat → MessageKind
  | 1 => .new | 2 => .modify | 3 => .cancel | 4 => .massCancel | 5 => .heartbeat | _ => .other

def selectorOf : Nat → Option Selector
  | 0 => some .session | 1 => some .member | 2 => some .instrument | 3 => some .kind | _ => none

def stampFormatOf : Nat → Option StampFormat
  | 0 => some .full | 1 => some .compact | _ => none

def admissionOf : Nat → Option Admission
  | 0 => some .accept | 1 => some .refuse | _ => none

def lateActionOf : Nat → Option LateAction
  | 0 => some .mark | 1 => some .refuse | _ => none

def onOffOf : Nat → Option Bool
  | 0 => some false | 1 => some true | _ => none

def confirmResultOf : Nat → Option ConfirmResult
  | 1 => some .done | 2 => some .noCross | 3 => some .aborted | _ => none

def tableOf : Nat → Option TableId
  | 1 => some .matchTable | 2 => some .classTable | 3 => some .lane | 4 => some .stamping | 5 => some .clock
  | 6 => some .journal | 7 => some .counter | _ => none

def evidenceKindOf : Nat → Option EvidenceKind
  | 1 => some .entryPass | 2 => some .entryLate | 3 => some .entryRefused | 4 => some .entryMalformed
  | 5 => some .overflow | 6 => some .noticeSuppressed | 7 => some .frameReleased | 8 => some .conflictWait
  | 9 => some .creditWait | 10 => some .creditExcess | 11 => some .foreign | 12 => some .discardedDisabled
  | 13 => some .reportDropped | 14 => some .markerAccepted | 15 => some .markerMissing | 16 => some .recordLost
  | _ => none

/-- A lane number of a request (R194). -/
def laneOf (n : Nat) : Option LaneId := if h : n < 4 then some ⟨n, h⟩ else none

/-- A book number of a request (R97). -/
def bookOf (n : Nat) : Option BookId := if h : n < 8 then some ⟨n, h⟩ else none

/-- A class number of a filter (R178). -/
def classOf (n : Nat) : Option ClassId := if h : n < 16 then some ⟨n, h⟩ else none

/-- A match entry number (R85). -/
def entryOf (n : Nat) : Option EntryId := if h : n < 32 then some ⟨n, h⟩ else none

/-! ### Kinds of control frames (R204) -/

def kindTableWrite : Nat := 0x01
def kindTableRead : Nat := 0x02
def kindBookArm : Nat := 0x03
def kindBookDisarm : Nat := 0x04
def kindBookExtend : Nat := 0x05
def kindBookSeed : Nat := 0x06
def kindClockCommand : Nat := 0x07
def kindLaneCommand : Nat := 0x08
def kindJournalRelease : Nat := 0x09
def kindJournalResend : Nat := 0x0A
def kindCounterRead : Nat := 0x0B
def kindCounterClear : Nat := 0x0C
def kindStatusRead : Nat := 0x0D
def kindDatapathReset : Nat := 0x0E
def kindCreditGrant : Nat := 0x20
def kindUncrossDone : Nat := 0x21
def kindReply : Nat := 0x30
def kindNotice : Nat := 0x31
def kindTrigger : Nat := 0x32
def kindProbe : Nat := 0x33
def kindExport : Nat := 0x34

/-- The kinds the part sends itself (R71, R204). -/
def partSentKind (k : Nat) : Bool := 0x30 ≤ k && k ≤ 0x34

end Sys2Proof.Machine
end

