-- ==== Sys2Proof/Machine/Flags.lean ====
section
/-! DEFINITION. What the state shows without being stored: access to lanes, books and monitors, the auction-active
status and the locks that rest on it, uncertainty and grades, the journal's export run, what is due, and which request
the Control Handler would take next. -/

namespace Sys2Proof.Machine

/-! ### Access -/

/-- LT as any block reads it (R1). -/
def State.lt (s : State) : Nat := s.timebase.lt

/-- The Lane Unit of a lane. -/
def State.lane (s : State) (l : LaneId) : LaneUnit := s.lanes[l.val]

/-- The book record of a book. -/
def State.book (s : State) (b : BookId) : Book := s.books[b.val]

/-- The Reference Monitor of a line. -/
def State.monitor (s : State) : RefLine → Monitor
  | .a => s.monitorA
  | .b => s.monitorB

/-- The trigger state a book holds for a lane (R115). -/
def Book.trigger (b : Book) (l : LaneId) : TriggerState := b.triggers[l.val]

/-- The reservation a lane holds (R152). -/
def Journal.reservation (j : Journal) (l : LaneId) : Option Reservation := j.reservations[l.val]

/-! ### Auction-active and locks (R96) -/

/-- CALL, WINDOW, FREEZE and UNCROSS are auction-active (R96). -/
def Phase.active : Phase → Bool
  | .call | .window | .freeze | .uncross => true
  | .idle | .armed | .closed => false

/-- Whether any book is auction-active (R26, R90, R197). -/
def State.auctionActive (s : State) : Bool := allBooks.any fun b => (s.book b).phase.active

/-- Whether the book's lane set includes the lane (R45, R68). -/
def Book.coversLane (b : Book) (l : LaneId) : Bool :=
  match b.arming with
  | none => false
  | some a => a.lanes.has l

/-- Whether an auction-active book's lane set includes the lane (R45, R68). -/
def State.laneAuction (s : State) (l : LaneId) : Bool :=
  allBooks.any fun b => (s.book b).phase.active && (s.book b).coversLane l

/-- Whether a book, if present, is auction-active (R87, R89). -/
def State.bookAuction (s : State) : Option BookId → Bool
  | none => false
  | some b => (s.book b).phase.active

/-- Whether some trigger of the book is PENDING or HELD (R97, R119). -/
def Book.triggerWaiting (b : Book) : Bool :=
  allLanes.any fun l => b.trigger l == .pending || b.trigger l == .held

/-- BOOK_ARM needs LOCKED or HOLDOVER (R97). -/
def DisciplineState.traceable : DisciplineState → Bool
  | .locked | .holdover => true
  | .free | .acquire => false

/-- A reference is enabled while it is not DISABLED (R13, log 25). -/
def Monitor.enabled (m : Monitor) : Bool := m.refState != .disabled

/-- LOST or DISABLED (R19). -/
def RefState.gone : RefState → Bool
  | .lost | .disabled => true
  | .listening | .healthy => false

/-! ### Uncertainty and grades (R29 to R40) -/

/-- The grade table G (R29); a marker of grade 7 is refused before it is looked up (R6). -/
def gradeTable : Fin 8 → Nat
  | 0 => 25 | 1 => 50 | 2 => 100 | 3 => 250 | 4 => 1000 | 5 => 10000 | 6 => 100000 | 7 => 0

/-- U_clock by the formula at a value of LT (R33, R35). -/
def State.uClockAt (s : State) (lt : Nat) : Nat :=
  if s.uncertainty.evaluated then
    min (s.uncertainty.uBase + s.stamping.h * ceilDiv (lt - s.uncertainty.ltMark) Config.second) Config.uncertaintyMax
  else Config.uncertaintyMax

/-- The LT that U_clock stands at: the present LT, held below a growth expiry until that is taken, since U_clock takes
its new value at the expiry and not before (R34, R38). -/
def State.growthLt (s : State) : Nat :=
  match s.uncertainty.growthExpiry with
  | none => s.lt
  | some e => min s.lt (e - 1)

/-- U_clock as it stands (R33, R34). -/
def State.uClock (s : State) : Nat := s.uClockAt s.growthLt

/-- The clock grade a judgement gives now (R36). -/
def State.judgedGrade (s : State) : Grade :=
  if s.uncertainty.evaluated then (if s.uClock ≤ s.stamping.l then .traceable else .degraded) else .untraceable

/-- U_stamp from U_clock and U_lane (R38). -/
def stampUncertainty (uClock uLane : Nat) : Nat := min (uClock + uLane) Config.uncertaintyMax

/-- The stamp grade (R39). -/
def stampGrade (clockGrade : Grade) (uStamp l : Nat) : Grade :=
  match clockGrade with
  | .untraceable => .untraceable
  | .traceable | .degraded => if uStamp ≤ l then .traceable else .degraded

/-- The microsecond form of U_stamp, rounded up and saturating (R40). -/
def compactUncertainty (uStamp : Nat) : Nat := min (ceilDiv uStamp 1000) 65535

/-! ### Books: the boundary ahead (R99) -/

/-- The instant of the boundary that leads from the present phase to the next, but for the uncross timeout (R99). -/
def Book.boundary (b : Book) : Option Nat :=
  match b.phase, b.arming, b.draw with
  | .armed, some a, _ => some a.tc
  | .call, some a, _ => some a.tw
  | .window, some _, some d => some d.endInstant
  | .freeze, some a, some d => some (d.endInstant + a.d * Config.milli)
  | _, _, _ => none

/-! ### The ring (R157, R161) -/

/-- Whether the position holds a WRITTEN record. -/
def Held.isWritten (h : Held) : Bool :=
  match h.content with
  | .written _ _ => true
  | .bound | .exported _ _ => false

/-- Whether the position holds an EXPORTED record. -/
def Held.isExported (h : Held) : Bool :=
  match h.content with
  | .exported _ _ => true
  | .bound | .written _ _ => false

/-- Whether the position is a bound slot. -/
def Held.isBound (h : Held) : Bool :=
  match h.content with
  | .bound => true
  | .written _ _ | .exported _ _ => false

/-- The write LT of a record; a bound slot has none (R154). -/
def Held.writeLt (h : Held) : Nat :=
  match h.content with
  | .bound => 0
  | .written t _ | .exported t _ => t

/-- The number of slots that are FREE and unbound (R157). -/
def Journal.freeCount (j : Journal) : Nat := Config.ringSlots - j.held.length

/-- The lowest slot from `i` on that none of the positions uses; `fuel` bounds the search. -/
def lowestUnused (used : List Nat) : Nat → Nat → Nat
  | 0, i => i
  | fuel + 1, i => if used.contains i then lowestUnused used fuel (i + 1) else i

/-- The lowest slot of the ring that is FREE and unbound (R152, R158). -/
def Journal.lowestFree (j : Journal) : Nat := lowestUnused (j.held.map Held.slot) Config.ringSlots 0

/-- The export run (R161): from the lowest position that is WRITTEN or bound, while WRITTEN. -/
def Journal.exportRun (j : Journal) : List Held := (j.held.dropWhile Held.isExported).takeWhile Held.isWritten

/-- Number and write LT of the first record of the export run (R162). -/
def Journal.runHead (j : Journal) : Option (Nat × Nat) := j.exportRun.head?.map fun h => (h.number, h.writeLt)

/-- The positions a resend has before it: EXPORTED ones from the cursor onward (R168). -/
def Journal.resendRun (j : Journal) : List Held :=
  match j.resend with
  | none => []
  | some c => (j.held.dropWhile fun h => h.number < c).takeWhile Held.isExported

/-- Whether an export frame is ready (R161, R168). -/
def Journal.exportReady (j : Journal) : Bool :=
  j.resend.isSome || (!j.exportRun.isEmpty && (Config.exportMax ≤ j.exportRun.length || j.flushDue))

/-! ### Hold lists (R129 to R132) -/

/-- Whether the entry is a FRAME entry. -/
def HoldEntry.isFrame (e : HoldEntry) : Bool :=
  match e.body with
  | .frame _ => true
  | .trigger _ _ => false

/-- How many FRAME entries a list holds (R129). -/
def frameCount (hold : List HoldEntry) : Nat := hold.countP HoldEntry.isFrame

/-- How many TRIGGER entries a list holds (R129). -/
def triggerCount (hold : List HoldEntry) : Nat := hold.countP fun e => !e.isFrame

/-- The order key of an entry; a TRIGGER has none (R128). -/
def HoldEntry.key (e : HoldEntry) : Option OrderKey :=
  match e.body with
  | .frame f => f.key
  | .trigger _ _ => none

/-- The book an entry belongs to (R131). -/
def HoldEntry.book (e : HoldEntry) : Option BookId :=
  match e.body with
  | .frame f => f.book
  | .trigger b _ => some b

/-- The class of an entry frame; foreign frames and triggers have none (R127). -/
def HoldEntry.cls (e : HoldEntry) : Option ClassId :=
  match e.body with
  | .frame f => f.cls
  | .trigger _ _ => none

/-- Key conflict of two keys: the same session, and one is session-wide or the references are equal (R131). -/
def OrderKey.conflicts : OrderKey → OrderKey → Bool
  | .order s c, .order s' c' => s == s' && c == c'
  | .order s _, .sessionWide s' => s == s'
  | .sessionWide s, .order s' _ => s == s'
  | .sessionWide s, .sessionWide s' => s == s'

/-- Key conflict of two entries (R131). -/
def HoldEntry.keyConflict (f e : HoldEntry) : Bool :=
  match f.key, e.key with
  | some k, some k' => k.conflicts k'
  | _, _ => false

/-- Book conflict: one is a TRIGGER of a book and the other belongs to that book (R131). -/
def HoldEntry.bookConflict (f e : HoldEntry) : Bool :=
  (!f.isFrame || !e.isFrame) && f.book.isSome && f.book == e.book

/-- Whether earlier entry `f` conflicts with later entry `e` (R131). -/
def HoldEntry.conflicts (f e : HoldEntry) : Bool := f.keyConflict e || f.bookConflict e

/-- An entry is due while LT is at or after its release time (R130). -/
def HoldEntry.due (lt : Nat) (e : HoldEntry) : Bool := e.release ≤ lt

/-- Whether the entry has what it needs of credits: a TRIGGER needs none (R132). -/
def HoldEntry.credited (credits : Nat) (e : HoldEntry) : Bool := !e.isFrame || 1 ≤ credits

/-- Whether some entry of `earlier` conflicts with `e` (R132). -/
def blocked (earlier : List HoldEntry) (e : HoldEntry) : Bool := earlier.any fun f => f.conflicts e

/-- Eligibility of an entry behind `earlier` (R132). -/
def eligible (lt credits : Nat) (earlier : List HoldEntry) (e : HoldEntry) : Bool :=
  e.due lt && e.credited credits && !blocked earlier e

/-- The earliest eligible entry with what stands before and after it; `earlier` is what has been passed (R136). -/
def firstEligible (lt credits : Nat) : List HoldEntry → List HoldEntry → Option (List HoldEntry × HoldEntry × List HoldEntry)
  | _, [] => none
  | earlier, e :: rest =>
    if eligible lt credits earlier e then some (earlier, e, rest)
    else firstEligible lt credits (earlier ++ [e]) rest

/-- The release arbiter's candidate of a lane (R136). -/
def State.releaseCandidate (s : State) (l : LaneId) : Option (List HoldEntry × HoldEntry × List HoldEntry) :=
  firstEligible s.lt (s.lane l).credits [] (s.lane l).hold

/-! ### The Control Handler's next request (R186) -/

/-- A queue head is servable when there is one and the reply queue has a place (R186). -/
def LaneUnit.servable (u : LaneUnit) : Bool := !u.requests.isEmpty && u.replies.length < Config.requestMax

/-- The lane after a lane, lane 0 after lane 3 (R186). -/
def nextLane (l : LaneId) : LaneId := l + 1

/-- The lane whose head the handler takes next: the first servable one from the pointer on (R186). -/
def State.servedLane (s : State) : Option LaneId :=
  [s.pointer, s.pointer + 1, s.pointer + 2, s.pointer + 3].find? fun l => (s.lane l).servable

/-- The request the handler takes next: its lane and the frame at the head of that lane's queue (R186). -/
def State.nextRequest (s : State) : Option (LaneId × Bytes) :=
  s.servedLane.bind fun l => (s.lane l).requests.head?.map fun f => (l, f)

end Sys2Proof.Machine
end

