-- ==== Sys2Proof/Machine/Ops.lean ====
section
/-! DEFINITION. The shared operations: updates of one component, the advance of LT, evidence events, the Journal's
numbering, storing, losing, reserving, releasing and exporting, CLOCK and LANE records, the clock grade, and the
completion of deferred replies. -/

namespace Sys2Proof.Machine

/-! ### Updates of one component -/

/-- The state with another Lane Unit at `l`. -/
def State.setLane (s : State) (l : LaneId) (u : LaneUnit) : State := { s with lanes := s.lanes.set l.val u }

/-- The state with another book record at `b`. -/
def State.setBook (s : State) (b : BookId) (k : Book) : State := { s with books := s.books.set b.val k }

/-- The state with another Reference Monitor for the line. -/
def State.setMonitor (s : State) : RefLine → Monitor → State
  | .a, m => { s with monitorA := m }
  | .b, m => { s with monitorB := m }

/-- The book with another trigger state for a lane (R115). -/
def Book.setTrigger (b : Book) (l : LaneId) (t : TriggerState) : Book := { b with triggers := b.triggers.set l.val t }

/-- The Journal with another reservation for a lane (R152, R153). -/
def Journal.setReservation (j : Journal) (l : LaneId) (r : Option Reservation) : Journal :=
  { j with reservations := j.reservations.set l.val r }

/-- A saturating 32-bit count, one higher (R73). -/
def bump32 (n : Nat) : Nat := saturatingSucc Config.count32Max n

/-- A lane with one of its counts changed (R73). -/
def State.countLane (s : State) (l : LaneId) (f : LaneCounts → LaneCounts) : State :=
  s.setLane l { s.lane l with counts := f (s.lane l).counts }

/-! ### Time (R1) -/

/-- Let `d` nanoseconds of the oscillator pass: LT advances at the oscillator rate scaled by 1 + r × 10⁻⁹, the
sub-nanosecond part accumulating in the fraction (R1; `carry` keeps what is finer still, log 2). -/
def Timebase.advance (d : Nat) (t : Timebase) : Timebase :=
  let units := (((Config.second : Int) + t.r).toNat * 65536 * d + t.carry)
  let fraction := t.frac.toNat + units / Config.second
  { t with
    lt := t.lt + fraction / 65536
    frac := BitVec.ofNat 16 (fraction % 65536)
    osc := t.osc + d
    carry := units % Config.second }

/-- The applied rate set to a value, clamped (R2). -/
def Timebase.setRate (t : Timebase) (r : Int) : Timebase := { t with r := clampSym Config.rateLimit r }

/-! ### Evidence events (R171 to R177) -/

/-- An evidence event (R171). -/
structure EvidenceEvent where
  kind : EvidenceKind
  lane : Option LaneId := none
  cls : Option ClassId := none
  book : Option BookId := none
  residence : Option Nat := none
  deriving DecidableEq, Repr

/-- A lane filter passes an event: ANY passes all, a set passes its members (R174). -/
def passesLane : Option LaneSet → Option LaneId → Bool
  | none, _ => true
  | some m, some l => m.has l
  | some _, none => false

/-- A class or book filter passes an event (R174). -/
def passesField {α : Type} [DecidableEq α] : Option α → Option α → Bool
  | none, _ => true
  | some x, some y => x == y
  | some _, none => false

/-- Whether a counter selects an event (R174). -/
def Counter.selects (c : Counter) (e : EvidenceEvent) : Bool :=
  c.kind == e.kind && passesLane c.lanes e.lane && passesField c.cls e.cls && passesField c.book e.book

/-- A counter after an event (R175). -/
def Counter.take (e : EvidenceEvent) (c : Counter) : Counter :=
  if c.selects e then { c with value := saturatingSucc Config.count48Max c.value } else c

/-- A monitor's values after a residence (R177). -/
def MonitorValues.add (residence : Nat) (v : MonitorValues) : MonitorValues where
  count := saturatingSucc Config.count48Max v.count
  sum := min (v.sum + residence) Config.sumMax
  maximum := min (max v.maximum residence) Config.count32Max

/-- A monitor after an event (R177). -/
def ResidenceMonitor.take (e : EvidenceEvent) (m : ResidenceMonitor) : ResidenceMonitor :=
  match e.residence with
  | none => m
  | some r =>
    if e.kind == .frameReleased && passesLane m.lanes e.lane && passesField m.cls e.cls then
      { m with values := m.values.add r }
    else m

/-- Every element of a vector changed by `f`, by structural recursion. -/
def mapVector {α : Type} {n : Nat} (f : α → α) (v : Vector α n) : Vector α n :=
  ⟨⟨v.toList.map f⟩, by simp⟩

/-- The Evidence Unit after an event: every counter and monitor judges it at once (R171). -/
def Evidence.apply (u : Evidence) (e : EvidenceEvent) : Evidence :=
  { u with counters := mapVector (Counter.take e) u.counters, monitors := mapVector (ResidenceMonitor.take e) u.monitors }

/-- Raise an evidence event (R171). -/
def State.raise (s : State) (e : EvidenceEvent) : State := { s with evidence := s.evidence.apply e }

/-- Raise several evidence events in order. -/
def State.raiseAll (s : State) (es : List EvidenceEvent) : State :=
  { s with evidence := es.foldl Evidence.apply s.evidence }

/-- The values COUNTER_READ and a snapshot give (R180, R181). -/
def Evidence.valuesOf (u : Evidence) : EvidenceValues where
  counters := u.counters.toList.map Counter.value
  monitors := u.monitors.toList.map ResidenceMonitor.values

/-- Every counter and monitor value at 0 (R182). -/
def Evidence.cleared (u : Evidence) : Evidence :=
  { u with
    counters := mapVector (fun c => { c with value := 0 }) u.counters
    monitors := mapVector (fun m => { m with values := ⟨0, 0, 0⟩ }) u.monitors }

/-- The first snapshot instant after LT for a period above 0 (R179). -/
def nextSnapshot (period lt : Nat) : Nat := (lt / (period * Config.second) + 1) * (period * Config.second)

/-! ### The Journal: flush (R162) -/

/-- Set the flush expiry from the first record of the export run; an instant already reached is taken at once, an
empty run cancels the expiry (R162). -/
def Journal.setFlush (lt : Nat) (j : Journal) : Journal :=
  match j.runHead with
  | none => { j with flushExpiry := none }
  | some (_, writeLt) =>
    let t := writeLt + j.flushInterval * Config.milli
    if t ≤ lt then { j with flushExpiry := none, flushDue := true } else { j with flushExpiry := some t }

/-- Set the flush expiry again where the first record of the export run has changed from `before` (R162). -/
def Journal.syncFlush (lt : Nat) (j before : Journal) : Journal :=
  if j.runHead.map Prod.fst = before.runHead.map Prod.fst then j else j.setFlush lt

/-! ### The Journal: numbering, storing, losing (R149, R158, R159) -/

/-- A record written into the lowest free slot at the end of the held order (R158). -/
def Journal.store (j : Journal) (number lt : Nat) (body : RecordBody) : Journal :=
  { j with held := j.held ++ [⟨number, j.lowestFree, .written lt body⟩] }

/-- A lost number: counted, and joined to the pending gap or starting one (R159). -/
def Journal.lose (j : Journal) (number : Nat) : Journal :=
  { j with
    lostTotal := j.lostTotal + 1
    gap := some (match j.gap with
      | none => ⟨number, 1⟩
      | some g => { g with count := g.count + 1 }) }

/-- An offered record takes the next number and is written, or lost when no slot is free (R149, R158, R159). -/
def Journal.admitRecord (lt : Nat) (body : RecordBody) (j : Journal) : Journal :=
  let numbered : Journal := { j with counter := j.counter + 1 }
  if j.freeCount = 0 then numbered.lose j.counter
  else (numbered.store j.counter lt body).syncFlush lt j

/-- The RECORD_LOST event of a lost record: an ENTRY record gives lane, class and book (R159, R172). -/
def lostEvent : RecordBody → EvidenceEvent
  | .entry e => { kind := .recordLost, lane := some e.lane, cls := e.cls, book := e.book }
  | _ => { kind := .recordLost }

/-- Offer a record to the Journal (R149): it takes the number `s.journal.counter`. -/
def State.offer (s : State) (body : RecordBody) : State :=
  { s with
    journal := s.journal.admitRecord s.lt body
    evidence := if s.journal.freeCount = 0 then s.evidence.apply (lostEvent body) else s.evidence }

/-! ### The Journal: reservations (R152, R153) -/

/-- A number given to a lane and bound to the lowest free slot (R152). -/
def Journal.bind (j : Journal) (l : LaneId) : Journal :=
  let bound : Journal :=
    { j with counter := j.counter + 1, held := j.held ++ [⟨j.counter, j.lowestFree, .bound⟩] }
  bound.setReservation l (some ⟨j.counter, false⟩)

/-- A number given to a lane and lost at once (R152). -/
def Journal.reserveLost (j : Journal) (l : LaneId) : Journal :=
  let numbered : Journal := { j with counter := j.counter + 1 }
  (numbered.lose j.counter).setReservation l (some ⟨j.counter, true⟩)

/-- Take a reservation for a lane at a step (R152). -/
def State.reserve (s : State) (l : LaneId) : State :=
  if (s.journal.reservation l).isSome then s
  else if s.journal.freeCount = 0 then
    { s with
      journal := s.journal.reserveLost l
      evidence := s.evidence.apply { kind := .recordLost, lane := some l } }
  else { s with journal := s.journal.bind l }

/-- Write a record into the bound slot of a number (R153). -/
def Journal.fillBound (lt number : Nat) (body : RecordBody) (j : Journal) : Journal :=
  let filled : Journal :=
    { j with held := j.held.map fun h => if h.number = number then { h with content := .written lt body } else h }
  filled.syncFlush lt j

/-- The number the next ENTRY record of a lane takes: its reserved number, or the counter's (R149, R153). -/
def State.entryNumber (s : State) (l : LaneId) : Nat :=
  match s.journal.reservation l with
  | none => s.journal.counter
  | some r => r.number

/-- Offer the ENTRY record of a lane: a reservation is used and given up (R153), otherwise R149 applies. -/
def State.offerEntry (s : State) (l : LaneId) (e : EntryRecord) : State :=
  match s.journal.reservation l with
  | none => s.offer (.entry e)
  | some r =>
    let given := s.journal.setReservation l none
    { s with journal := if r.lost then given else given.fillBound s.lt r.number (.entry e) }

/-- Give up a reservation whose frame ended without an ENTRY record: a bound slot takes a GAP record of cause VOID
(R153). -/
def State.voidReservation (s : State) (l : LaneId) : State :=
  match s.journal.reservation l with
  | none => s
  | some r =>
    let given := s.journal.setReservation l none
    { s with journal := if r.lost then given else given.fillBound s.lt r.number .gapVoid }

/-! ### The Journal: export, release, resend (R163, R166, R168, R169) -/

/-- A WRITTEN record marked EXPORTED (R157). -/
def Held.markExported (h : Held) : Held :=
  match h.content with
  | .written t b => { h with content := .exported t b }
  | .bound | .exported _ _ => h

/-- The records an export frame takes now, and whether it is a resend frame (R163, R168). -/
def Journal.exportBatch (j : Journal) : List Held × Bool :=
  match j.resend with
  | some _ => (j.resendRun.take Config.exportMax, true)
  | none => (j.exportRun.take Config.exportMax, false)

/-- The held position after a number, if it is EXPORTED: where the resend cursor goes on (R168, R169). -/
def Journal.cursorAfter (j : Journal) (number : Nat) : Option Nat :=
  match j.held.dropWhile fun h => h.number ≤ number with
  | [] => none
  | h :: _ => if h.isExported then some h.number else none

/-- The last number of a batch. -/
def lastNumber (batch : List Held) : Option Nat := batch.getLast?.map Held.number

/-- The Journal after a normal export frame has taken its batch (R163). -/
def Journal.exported (lt : Nat) (j : Journal) : Journal :=
  let batch := j.exportBatch.1
  let numbers := batch.map Held.number
  let sent : Journal :=
    { j with
      held := j.held.map fun h => if numbers.contains h.number then h.markExported else h
      highestExported := (lastNumber batch).or j.highestExported
      flushDue := false }
  sent.setFlush lt

/-- The Journal after a resend frame has taken its batch (R168; the flush note by R162, log 13). -/
def Journal.resent (lt : Nat) (j : Journal) : Journal :=
  let sent : Journal :=
    { j with resend := (lastNumber j.exportBatch.1).bind j.cursorAfter, flushDue := false }
  sent.setFlush lt

/-- The Journal after the export candidate has been chosen (R163, R168). -/
def Journal.afterExport (lt : Nat) (j : Journal) : Journal :=
  if j.resend.isSome then j.resent lt else j.exported lt

/-- Whether a release through `n` frees the position (R166). -/
def Held.freedBy (n : Nat) (h : Held) : Bool := h.isExported && h.number ≤ n

/-- How many slots a release through `n` frees (R166). -/
def Journal.freedCount (j : Journal) (n : Nat) : Nat := j.held.countP (Held.freedBy n)

/-- The Journal after a release through `n`, before a pending gap is written (R166, R169). -/
def Journal.releaseThrough (n : Nat) (j : Journal) : Journal :=
  { j with
    held := j.held.filter fun h => !h.freedBy n
    resend := match j.resend with
      | none => none
      | some c => if c ≤ n then j.cursorAfter n else some c }

/-- Write the GAP record of a pending gap once a slot is free (R160). -/
def Journal.writeGap (lt : Nat) (j : Journal) : Journal :=
  match j.gap with
  | none => j
  | some g =>
    if j.freeCount = 0 then j
    else
      let numbered : Journal := { j with counter := j.counter + 1, gap := none }
      (numbered.store j.counter lt (.gapFull g.first g.count)).syncFlush lt j

/-! ### CLOCK and LANE records, the clock grade (R28, R36, R37, R72) -/

/-- A CLOCK record with the values as they stand (section 1.8); its uncertainty is U_base, or U_clock for
GRADE_CHANGE (R37). -/
def State.clockRecord (s : State) (event : ClockEvent) (ref : RefLine) (theta : Option Int) : ClockRecord where
  event := event
  ref := ref
  theta := theta
  freq := s.discipline.freq
  r := s.timebase.r
  uncertainty := if event = .gradeChange then s.uClock else s.uncertainty.uBase
  state := s.discipline.state

/-- Offer a CLOCK record (R28). -/
def State.offerClock (s : State) (event : ClockEvent) (ref : RefLine) (theta : Option Int := none) : State :=
  s.offer (.clock (s.clockRecord event ref theta))

/-- Judge the clock grade; a change offers a GRADE_CHANGE record (R36, R37). -/
def State.judgeGrade (s : State) : State :=
  if s.judgedGrade = s.uncertainty.grade then s
  else
    let judged : State := { s with uncertainty := { s.uncertainty with grade := s.judgedGrade } }
    judged.offerClock .gradeChange s.discipline.selected

/-- Offer a LANE record without optional fields (R72). -/
def State.offerLane (s : State) (l : LaneId) (event : LaneEvent) : State :=
  s.offer (.lane { lane := l, event := event })

/-! ### Replies (R185, R194) -/

/-- Whether a reply is the deferred one of a command on a lane. -/
def Reply.isDeferredOf (l : LaneId) (c : LaneCommand) (r : Reply) : Bool :=
  match r.body with
  | .deferred l' c' => l == l' && c == c'
  | .completed _ _ => false

/-- Complete the deferred replies of a command on a lane in their places in one queue (R185). -/
def completeIn (l : LaneId) (c : LaneCommand) (status : Status) (content : Bytes) (q : List Reply) : List Reply :=
  q.map fun r => if r.isDeferredOf l c then { r with body := .completed status content } else r

/-- Complete the deferred reply of a command on a lane, in whichever lane's reply queue it stands (R194). -/
def State.completeReply (s : State) (l : LaneId) (c : LaneCommand) (status : Status) (content : Bytes) : State :=
  { s with lanes := mapVector (fun u => { u with replies := completeIn l c status content u.replies }) s.lanes }

/-- The content of an OK reply to a lane command: values installed as it is completed (R205). -/
def LaneUnit.commandContent (u : LaneUnit) (l : LaneId) (c : LaneCommand) (outcome roundTrip : Option Nat) : Bytes :=
  uField 1 l.val ++ uField 1 c.code ++ optField 1 (uField 1) outcome ++ optField 4 (uField 4) roundTrip
    ++ uField 2 u.cLane ++ uField 2 u.uLane

/-- A reply as its frame carries it (R205). -/
def Reply.bytes (id kind : Nat) (status : Status) (content : Bytes) : Bytes :=
  uField 1 kindReply ++ uField 2 id ++ uField 1 kind ++ uField 1 status.code ++ uField 2 content.length ++ content

/-- Place a reply at the tail of a lane's reply queue (R187). -/
def State.placeReply (s : State) (l : LaneId) (r : Reply) : State :=
  s.setLane l { s.lane l with replies := (s.lane l).replies ++ [r] }

/-! ### Evidence over LT: a step and the snapshot expiry (R179) -/

/-- Offer a snapshot and set the next snapshot instant after LT (R179, R180). -/
def State.takeSnapshot (s : State) : State :=
  let offered := s.offer (.snapshot s.evidence.valuesOf)
  { offered with
    evidence := { offered.evidence with snapshotExpiry := some (nextSnapshot s.evidence.period s.lt) } }

end Sys2Proof.Machine
end

