-- ==== Sys2Proof/Machine/Records.lean ====
section
/-! DEFINITION. The byte layouts of what the part sends: record contents and export frames (R207, R208), trailers
(R58, R59, R61, R202), replies, notices and triggers (R205). -/

namespace Sys2Proof.Machine

/-! ### Table contents in their reply and record form (R207) -/

def MatchEntry.content (e : MatchEntry) : Bytes :=
  uField 1 e.selector.code ++ uField 4 e.value.toNat ++ uField 4 e.mask.toNat ++ flagByte e.enabled

def ClassRecord.content (c : ClassRecord) : Bytes :=
  uField 4 c.anyOf.toNat ++ uField 4 c.allOf.toNat ++ optField 1 (fun b : BookId => uField 1 b.val) c.book
    ++ uField 1 c.format.code ++ uField 1 c.delayUnits ++ uField 1 c.admission.code ++ uField 1 c.lateAction.code

/-- A lane's item of the LANE table (R207). A pending field that was not written is absent (DEDUCED, log 38). -/
def LaneUnit.tableContent (u : LaneUnit) : Bytes :=
  uField 2 u.cLane ++ uField 2 u.uLane ++ uField 1 u.allowance ++ flagByte u.permission
    ++ optField 2 (uField 2) u.pendingC ++ optField 2 (uField 2) u.pendingU

def Stamping.content (t : Stamping) : Bytes :=
  uField 6 t.dayOrigin ++ uField 4 t.h ++ uField 4 t.l ++ uField 4 t.q ++ uField 2 t.entryType

/-- Every setting of R23 as it stands (R192, R207). -/
def State.clockContent (s : State) : Bytes :=
  uField 4 s.clock.gi ++ uField 4 s.clock.gp ++ uField 4 s.clock.tLock ++ uField 4 s.clock.k ++ uField 4 s.clock.s
    ++ uField 4 s.clock.wc ++ uField 4 s.clock.guardMs ++ uField 4 s.clock.m ++ flagByte s.discipline.autoSwitch
    ++ flagByte s.monitorA.enabled ++ flagByte s.monitorB.enabled

def Journal.settingsContent (j : Journal) : Bytes := uField 1 j.exportLane.val ++ uField 2 j.flushInterval

/-- A lane filter: 0xFF is ANY (R207). -/
def laneFilterByte : Option LaneSet → Bytes
  | none => [0xFF]
  | some m => uField 1 m.toNat

/-- A class or book filter: 0xFF is ANY (R207). -/
def numberFilterByte : Option Nat → Bytes
  | none => [0xFF]
  | some n => uField 1 n

def Counter.settingContent (c : Counter) : Bytes :=
  uField 1 c.kind.code ++ laneFilterByte c.lanes ++ numberFilterByte (c.cls.map Fin.val)
    ++ numberFilterByte (c.book.map Fin.val)

def ResidenceMonitor.settingContent (m : ResidenceMonitor) : Bytes :=
  fill 1 ++ laneFilterByte m.lanes ++ numberFilterByte (m.cls.map Fin.val) ++ fill 1

/-- The setting of a COUNTER item, 0 to 10 (R178, R207). -/
def Evidence.itemContent (u : Evidence) (index : Nat) : Bytes :=
  if h : index < 8 then u.counters[index].settingContent
  else if h : index - 8 < 2 then u.monitors[index - 8].settingContent
  else uField 2 u.period ++ fill 2

/-! ### Record contents (R208) -/

/-- The evidence values as a snapshot carries them, 84 bytes (R205, R208). -/
def EvidenceValues.bytes (v : EvidenceValues) : Bytes :=
  v.counters.flatMap (uField 6) ++ v.monitors.flatMap fun m => uField 6 m.count ++ uField 8 m.sum ++ uField 4 m.maximum

/-- The refusal reason of a disposition, if it is REFUSED. -/
def Disposition.reason : Disposition → Option EntryRefusal
  | .refused r => some r
  | .pass | .late => none

def EntryRecord.content (e : EntryRecord) : Bytes :=
  uField 1 e.lane.val ++ timeField e.stamp ++ uField 4 e.uStamp ++ uField 1 e.grade.code
    ++ optField 1 (fun c : ClassId => uField 1 c.val) e.cls ++ optField 1 (fun b : BookId => uField 1 b.val) e.book
    ++ uField 1 e.gating.code ++ uField 1 e.disposition.code
    ++ optField 1 (fun r : EntryRefusal => uField 1 r.code) e.disposition.reason
    ++ optField 1 (fun n : NoticeOutcome => uField 1 n.code) e.notice
    ++ uField 1 e.header.kind.code ++ uField 2 e.header.session ++ uField 2 e.header.member
    ++ uField 4 e.header.instrument ++ uField 8 e.header.clientRef

def ClockRecord.content (c : ClockRecord) : Bytes :=
  uField 1 c.event.code ++ uField 1 (refCode c.ref) ++ optField 8 (sField 8) c.theta ++ sField 4 c.freq ++ sField 4 c.r
    ++ uField 4 c.uncertainty ++ uField 1 c.state.code

def BookRecord.content (b : BookRecord) : Bytes :=
  uField 1 b.book.val ++ uField 1 b.event.code ++ optField 8 (uField 8) b.tc ++ optField 8 (uField 8) b.tw
    ++ optField 4 (uField 4) b.w ++ optField 2 (uField 2) b.d ++ optField 4 (uField 4) b.timeoutMs
    ++ optField 1 (fun m : LaneSet => uField 1 m.toNat) b.lanes ++ optField 4 (fun x : BitVec 32 => uField 4 x.toNat) b.x
    ++ optField 4 (uField 4) b.offset ++ optField 8 (uField 8) b.endInstant ++ optField 1 flagByte b.unseeded
    ++ optField 8 (uField 8) b.uncrossAt ++ optField 4 (uField 4) b.applied
    ++ optField 1 (fun p : Phase => uField 1 p.code) b.phase ++ optField 1 (fun r : ConfirmResult => uField 1 r.code) b.result
    ++ optField 1 (fun l : LaneId => uField 1 l.val) b.lane ++ optField 1 flagByte (if b.byStep then some true else none)

def CompChange.bytes (c : CompChange) : Bytes :=
  uField 2 c.oldC ++ uField 2 c.newC ++ uField 2 c.oldU ++ uField 2 c.newU

def LaneRecord.content (r : LaneRecord) : Bytes :=
  uField 1 r.lane.val ++ uField 1 r.event.code ++ optField 4 (uField 4) r.roundTrip ++ optField 8 CompChange.bytes r.comp
    ++ optField 1 (uField 1) r.flushed

/-- The kind code of a record (R208). -/
def RecordBody.kindCode : RecordBody → Nat
  | .entry _ => 1 | .clock _ => 2 | .book _ => 3 | .table _ _ _ => 4 | .lane _ => 5 | .snapshot _ | .cleared => 6
  | .seed _ => 7 | .gapFull _ _ | .gapVoid => 8

/-- The content of a record, field by field (R208). -/
def RecordBody.content : RecordBody → Bytes
  | .entry e => e.content
  | .clock c => c.content
  | .book b => b.content
  | .table t i c => uField 1 t.code ++ uField 1 i ++ c
  | .lane r => r.content
  | .snapshot v => uField 1 0 ++ v.bytes
  | .cleared => uField 1 1
  | .seed n => uField 4 n
  | .gapFull first count => uField 1 1 ++ optField 8 (uField 8) (some first) ++ optField 8 (uField 8) (some count)
  | .gapVoid => uField 1 2 ++ optField 8 (uField 8) none ++ optField 8 (uField 8) none

/-- A held record with its header (R154, R208). A bound slot holds no record and is in no export frame. -/
def Held.bytes (h : Held) : Bytes :=
  match h.content with
  | .bound => []
  | .written t b | .exported t b =>
    uField 8 h.number ++ uField 1 b.kindCode ++ uField 8 t ++ uField 2 b.content.length ++ b.content

/-- The payload of an export frame (R205, R208). -/
def exportPayload (batch : List Held) (resend : Bool) : Bytes :=
  uField 1 kindExport ++ uField 8 ((batch.head?.map Held.number).getD 0) ++ uField 1 batch.length ++ flagByte resend
    ++ batch.flatMap Held.bytes

/-! ### Trailers (R58, R59, R61, R202) -/

/-- The COMPACT form of a stamp: microseconds since the day origin, and the before-origin flag (R59). -/
def compactStamp (stamp dayOrigin : Nat) : Nat × Bool :=
  if stamp < dayOrigin * Config.second then (0, true)
  else (min ((stamp - dayOrigin * Config.second) / 1000) (2 ^ 40 - 1), false)

/-- The book byte of a trailer: 0xFF when absent (R200). -/
def trailerBook : Option BookId → Bytes
  | none => [0xFF]
  | some b => uField 1 b.val

/-- The tail byte (R202). -/
def tailByte (compact beforeOrigin late : Bool) : Bytes :=
  uField 1 ((if compact then 128 else 0) + (if beforeOrigin then 2 else 0) + (if late then 1 else 0))

/-- The trailer of a passed or late entry frame (R61, R202). -/
def trailer (format : StampFormat) (number : Nat) (l : LaneId) (cls : ClassId) (book : Option BookId) (rx : Reception)
    (gating : Gating) (late : Bool) : Bytes :=
  match format with
  | .full =>
    uField 4 (number % 2 ^ 32) ++ timeField rx.stamp ++ uField 4 rx.uStamp ++ uField 1 rx.grade.code ++ uField 1 l.val
      ++ uField 1 cls.val ++ trailerBook book ++ uField 1 gating.code ++ tailByte false false late
  | .compact =>
    let stamp := compactStamp rx.stamp rx.dayOrigin
    uField 4 (number % 2 ^ 32) ++ uField 5 stamp.1 ++ uField 2 (compactUncertainty rx.uStamp) ++ uField 1 rx.grade.code
      ++ uField 1 (16 * l.val + cls.val) ++ trailerBook book ++ uField 1 gating.code ++ tailByte true stamp.2 late

/-- The frame with a trailer after its last byte before the check, and a new check (R61). -/
def withTrailer (frame trailer : Bytes) : Bytes := withCheck (checkedPart frame ++ trailer)

/-! ### Notices, triggers, probes (R205) -/

def Notice.payload (n : Notice) : Bytes :=
  uField 1 kindNotice ++ uField 8 n.number ++ uField 1 n.lane.val ++ uField 1 n.reason.code ++ timeField n.stamp
    ++ uField 1 n.header.kind.code ++ uField 2 n.header.session ++ uField 2 n.header.member
    ++ uField 4 n.header.instrument ++ uField 8 n.header.clientRef
    ++ optField 1 (fun c : ClassId => uField 1 c.val) n.cls ++ optField 1 (fun b : BookId => uField 1 b.val) n.book
    ++ uField 1 n.gating.code

def triggerPayload (b : BookId) (endInstant : Nat) (l : LaneId) : Bytes :=
  uField 1 kindTrigger ++ uField 1 b.val ++ timeField endInstant ++ uField 1 l.val

def probePayload (id : Nat) : Bytes := uField 1 kindProbe ++ uField 2 id

end Sys2Proof.Machine
end

