-- ==== Sys2Proof/Machine/LaneOps.lean ====
section
/-! DEFINITION. The shared operations of a Lane Unit: waits (R133), admission (R129, R130), departures, trigger
requests and placement (R139 to R141), compensation (R69), the failure of a probe (R67), the end of a frame in
reception, and the end of a drain (R44). -/

namespace Sys2Proof.Machine

/-! ### Waits (R133) -/

/-- Judge one entry behind `earlier`: it may be marked, with the event of the wait (R133). -/
def noteWait (lt credits : Nat) (l : LaneId) (earlier : List HoldEntry) (e : HoldEntry) : HoldEntry × List EvidenceEvent :=
  if !e.due lt then (e, [])
  else if e.credited credits && blocked earlier e && !e.conflictWaited then
    ({ e with conflictWaited := true }, [{ kind := .conflictWait, lane := some l, cls := e.cls, book := e.book }])
  else if !e.credited credits && !blocked earlier e && !e.creditWaited then
    ({ e with creditWaited := true }, [{ kind := .creditWait, lane := some l, cls := e.cls, book := e.book }])
  else (e, [])

/-- Judge every entry of a list, in order; `earlier` is what stands before it (R133). -/
def noteWaits (lt credits : Nat) (l : LaneId) : List HoldEntry → List HoldEntry → List HoldEntry × List EvidenceEvent
  | _, [] => ([], [])
  | earlier, e :: rest =>
    let judged := noteWait lt credits l earlier e
    let others := noteWaits lt credits l (earlier ++ [e]) rest
    (judged.1 :: others.1, judged.2 ++ others.2)

/-- Judge the waits of a lane's hold list as it stands (R133). -/
def State.judgeWaits (s : State) (l : LaneId) : State :=
  let judged := noteWaits s.lt (s.lane l).credits l [] (s.lane l).hold
  (s.setLane l { s.lane l with hold := judged.1 }).raiseAll judged.2

/-! ### Admission, departure, release expiry (R129, R130) -/

/-- The earlier of a set expiry and an instant. -/
def earlierExpiry : Option Nat → Nat → Nat
  | none, t => t
  | some x, t => min x t

/-- The earliest release time at or after `t` in a list. -/
def earliestFrom (t : Nat) (hold : List HoldEntry) : Option Nat :=
  ((hold.map HoldEntry.release).filter fun r => t ≤ r).foldl (fun acc r => some (earlierExpiry acc r)) none

/-- An entry joins the tail of the hold list (R129); a due entry is judged at once, any other sets the release
expiry (R130, R133). -/
def State.admitEntry (s : State) (l : LaneId) (e : HoldEntry) : State :=
  let u := s.lane l
  if e.due s.lt then (s.setLane l { u with hold := u.hold ++ [e] }).judgeWaits l
  else s.setLane l { u with hold := u.hold ++ [e], releaseExpiry := some (earlierExpiry u.releaseExpiry e.release) }

/-- The release expiry for a list that entries have left (R130): the earliest release time not yet taken. -/
def expiryAfterDeparture (expiry : Option Nat) (hold : List HoldEntry) : Option Nat :=
  expiry.bind fun t => earliestFrom t hold

/-- The slots that no entry of a hold list has (R127). -/
def unheldSlots (hold : List HoldEntry) : List Nat :=
  (List.range Config.holdFrames).filter fun n =>
    !hold.any fun e => match e.body with
      | .frame f => f.slot == n
      | .trigger _ _ => false

/-- The slot of the frame in transmission on the B egress, which is freed when the transmission ends or is cut
(R137). -/
def LaneUnit.sendingSlot (u : LaneUnit) : Option Nat := u.bTx.bind Sending.slot

/-- The free slots of a lane: no entry has them and no frame is being sent from them (R127, R137). Where no other slot
is left, the one being sent from counts as free, since its entry has left the list (DESIGN CHOICE, log 30). -/
def LaneUnit.freeSlots (u : LaneUnit) : List Nat :=
  let unheld := unheldSlots u.hold
  let idle := unheld.filter fun n => u.sendingSlot != some n
  if idle.isEmpty then unheld else idle

/-- The slot an admitted frame takes: one of the free ones, which one is a free value (R127, log 7). -/
def LaneUnit.chooseSlot (u : LaneUnit) (index : Nat) : Nat :=
  (u.freeSlots[Config.slotChoice index % u.freeSlots.length]?).getD 0

/-- A frame joins the tail of the hold list in a free slot (R127, R129). -/
def State.admitFrame (s : State) (l : LaneId) (key : Option OrderKey) (book : Option BookId) (cls : Option ClassId)
    (captured release : Nat) (frame : Bytes) : State :=
  let entry : HoldEntry :=
    { body := .frame { key, book, cls, captured, slot := (s.lane l).chooseSlot s.freeIndex, frame }
      release
      conflictWaited := false
      creditWaited := false }
  { s with freeIndex := s.freeIndex + 1 }.admitEntry l entry

/-! ### Triggers (R139 to R141) -/

/-- Whether a pending trigger passes a placement test now (R140). -/
def State.placeable (s : State) (l : LaneId) (p : PendingTrigger) : Bool :=
  p.endInstant + (s.lane l).cLane ≤ s.lt &&
    match (s.lane l).rx with
    | none => true
    | some rx => p.endInstant ≤ rx.stamp

/-- Place one pending trigger (R141): it joins the tail, leaves the pending set, and the book marks it HELD. -/
def State.placeTrigger (s : State) (l : LaneId) (p : PendingTrigger) : State :=
  let u := s.lane l
  let entry : HoldEntry := ⟨.trigger p.book p.endInstant, s.lt, false, false⟩
  let placed := s.setLane l
    { u with
      hold := u.hold ++ [entry]
      pendingTriggers := u.pendingTriggers.filter fun q => q.book != p.book }
  (placed.setBook p.book ((s.book p.book).setTrigger l .held)).judgeWaits l

/-- A placement test: every pending trigger that passes is placed, in ascending book number (R140). -/
def State.placementTest (s : State) (l : LaneId) : State :=
  ((s.lane l).pendingTriggers.filter (s.placeable l)).foldl (fun s p => s.placeTrigger l p) s

/-- A pending trigger put into the set, which stands in ascending book number. -/
def insertTrigger (p : PendingTrigger) : List PendingTrigger → List PendingTrigger
  | [] => [p]
  | q :: rest => if p.book < q.book then p :: q :: rest else q :: insertTrigger p rest

/-- The placement expiry for an end instant and a compensation: not set once LT has reached it (R139). -/
def placementExpiryAt (lt endInstant cLane : Nat) : Option Nat :=
  if endInstant + cLane ≤ lt then none else some (endInstant + cLane)

/-- A lane takes a trigger request: the book joins its pending set, and a placement test is made at once (R139). -/
def State.requestTrigger (s : State) (l : LaneId) (b : BookId) (endInstant : Nat) : State :=
  let u := s.lane l
  let others := u.pendingTriggers.filter fun q => q.book != b
  let p : PendingTrigger := ⟨b, endInstant, placementExpiryAt s.lt endInstant u.cLane⟩
  (s.setLane l { u with pendingTriggers := insertTrigger p others }).placementTest l

/-! ### Compensation (R65, R69) -/

/-- Install a C_lane and a U_lane with a PROBE_OK record; placement expiries move, and a placement test is made
(R65, R69, R140). -/
def State.install (s : State) (l : LaneId) (newC newU : Nat) (roundTrip : Option Nat) : State :=
  let u := s.lane l
  let offered := s.offer (.lane
    { lane := l, event := .probeOk, roundTrip, comp := some ⟨u.cLane, newC, u.uLane, newU⟩ })
  (offered.setLane l
    { u with
      cLane := newC
      uLane := newU
      pendingTriggers := u.pendingTriggers.map fun p =>
        { p with expiry := placementExpiryAt s.lt p.endInstant newC } }).placementTest l

/-- Whether a written compensation waits (R42). -/
def LaneUnit.compPending (u : LaneUnit) : Bool := u.pendingC.isSome || u.pendingU.isSome

/-- Install the pending compensation, if there is one and no frame is in reception and no probe is queued or
outstanding (R69). A field that was not written keeps the value installed at this moment, that of a probe which has
ended since the write included (DESIGN CHOICE, log 35). -/
def State.installPending (s : State) (l : LaneId) : State :=
  let u := s.lane l
  if u.compPending && u.rx.isNone && u.probe == .none then
    (s.setLane l { u with pendingC := none, pendingU := none }).install l (u.pendingC.getD u.cLane)
      (u.pendingU.getD u.uLane) none
  else s

/-! ### The end of a frame in reception, of a probe, of a drain -/

/-- The frame in reception is gone; a reservation still held becomes VOID (R48, R153). -/
def State.endReception (s : State) (l : LaneId) : State :=
  (s.setLane l { s.lane l with rx := none }).voidReservation l

/-- What follows the whole handling of a frame that was in reception: a placement test, and a pending compensation
(R69, R140, log 11). -/
def State.afterReception (s : State) (l : LaneId) : State := (s.placementTest l).installPending l

/-- The state a lane returns to when its probe ends (R65, R67). -/
def LaneState.afterProbe : LaneState → LaneState
  | .probing .disabled => .disabled
  | .probing .active => .active
  | .disabled => .disabled
  | .active => .active
  | .draining => .draining

/-- A probe ends as PROBE_FAILED: record, deferred reply, return, and a pending compensation (R67). -/
def State.probeFail (s : State) (l : LaneId) : State :=
  let u := s.lane l
  let offered := s.offer (.lane
    { lane := l, event := .probeFailed, comp := some ⟨u.cLane, u.cLane, u.uLane, u.uLane⟩ })
  let replied := offered.completeReply l .probe .ok (u.commandContent l .probe (some probeFailedCode) none)
  (replied.setLane l
    { replied.lane l with probe := .none, state := u.state.afterProbe }).installPending l

/-- A DRAINING lane whose hold list is empty enters DISABLED, and the DRAIN reply is sent OK (R44). -/
def State.endDrain (s : State) (l : LaneId) : State :=
  if (s.lane l).state = .draining ∧ (s.lane l).hold = [] then
    let u := s.lane l
    ((s.setLane l { u with state := .disabled }).offerLane l .disabled).completeReply l .drain .ok
      (u.commandContent l .drain none none)
  else s

/-- Credits become 0, and the waits are judged if the count changed (R47, R74, R133). -/
def State.dropCredits (s : State) (l : LaneId) : State :=
  if (s.lane l).credits = 0 then s else (s.setLane l { s.lane l with credits := 0 }).judgeWaits l

end Sys2Proof.Machine
end

