-- ==== Sys2Proof/Machine/BookOps.lean ====
section
/-! DEFINITION. The shared operations of the Book Unit: the draw (R105, R106), the taking of boundaries (R99 to R104),
the phase query (R109 to R111). -/

namespace Sys2Proof.Machine

/-- One advance of the End Generator (R106). -/
def advanceGenerator (g : BitVec 32) : BitVec 32 :=
  BitVec.ofNat 32 ((2147001325 * g.toNat + 715136305) % 4294967296)

/-- The offset into a window of length `w` that a draw value gives (R106). -/
def drawOffset (x : BitVec 32) (w : Nat) : Nat := x.toNat * (w + 1) / 4294967296

/-- A draw for an arming from a generator state and its unseeded flag (R101, R106). -/
def drawFor (a : Arming) (g : BitVec 32) (unseeded : Bool) : Draw :=
  let x := advanceGenerator g
  { x, offset := drawOffset x a.w, endInstant := a.tw + drawOffset x a.w * Config.milli, unseeded }

/-- The lanes of a set in ascending number. -/
def lanesOf (m : LaneSet) : List LaneId := allLanes.filter m.has

/-- The taking of Tc: the book enters CALL (R100). -/
def State.takeTc (s : State) (byStep : Bool) (b : BookId) : State :=
  (s.setBook b { s.book b with phase := .call }).offer (.book { book := b, event := .call, byStep })

/-- The taking of Tw: the draw, and the book enters WINDOW (R101, R106). -/
def State.takeTw (s : State) (byStep : Bool) (b : BookId) (a : Arming) : State :=
  let d := drawFor a s.bookUnit.generator s.bookUnit.unseeded
  let drawn : State := { s with bookUnit := { s.bookUnit with generator := d.x } }
  (drawn.setBook b { s.book b with phase := .window, draw := some d }).offer
    (.book { book := b, event := .window, tw := some a.tw, w := some a.w, byStep })

/-- The taking of E: the book enters FREEZE and the draw is shown (R102). -/
def State.takeE (s : State) (byStep : Bool) (b : BookId) (a : Arming) (d : Draw) : State :=
  (s.setBook b { s.book b with phase := .freeze }).offer
    (.book
      { book := b, event := .draw, x := some d.x, w := some a.w, offset := some d.offset
        endInstant := some d.endInstant, unseeded := some d.unseeded, byStep })

/-- Set a lane's trigger state to PENDING and send the lane its trigger request (R103). -/
def State.sendTrigger (s : State) (b : BookId) (endInstant : Nat) (l : LaneId) : State :=
  (s.setBook b ((s.book b).setTrigger l .pending)).requestTrigger l b endInstant

/-- The taking of E + D: the book enters UNCROSS, asks its lanes for triggers and sets its timeout (R103). -/
def State.takeUncross (s : State) (byStep : Bool) (b : BookId) (a : Arming) (d : Draw) : State :=
  let entered := s.setBook b { s.book b with phase := .uncross }
  let requested := (lanesOf a.lanes).foldl (fun t l => t.sendTrigger b d.endInstant l) entered
  let expiry := s.lt + a.timeoutMs * Config.milli
  (requested.setBook b { requested.book b with uncrossAt := some expiry }).offer
    (.book { book := b, event := .uncross, endInstant := some d.endInstant, uncrossAt := some expiry, byStep })

/-- Take the one boundary ahead of a book, whatever LT (R100 to R103). -/
def State.takeBoundary (s : State) (byStep : Bool) (b : BookId) : State :=
  match (s.book b).phase, (s.book b).arming, (s.book b).draw with
  | .armed, some _, _ => s.takeTc byStep b
  | .call, some a, _ => s.takeTw byStep b a
  | .window, some a, some d => s.takeE byStep b a d
  | .freeze, some a, some d => s.takeUncross byStep b a d
  | _, _, _ => s

/-- Take, in phase order, each boundary ahead of a book whose instant is at or before `limit` (R99). A book has at
most four such boundaries before it, so `fuel` 4 takes them all. -/
def State.takeBoundaries (byStep : Bool) (limit : Nat) (b : BookId) : Nat → State → State
  | 0, s => s
  | fuel + 1, s =>
    match (s.book b).boundary with
    | none => s
    | some t => if t ≤ limit then State.takeBoundaries byStep limit b fuel (s.takeBoundary byStep b) else s

/-- Whether taking the boundaries of a book at or before `limit` takes its Tw, and so makes its draw (R99, R101). -/
def Book.drawsBy (limit : Nat) (b : Book) : Bool :=
  match b.phase, b.arming with
  | .armed, some a => a.tc ≤ limit && a.tw ≤ limit
  | .call, some a => a.tw ≤ limit
  | _, _ => false

/-- The taking of a book's due expiries where its draw is among them (R107). -/
def State.serveDraw (s : State) (b : BookId) : State :=
  if (s.book b).drawsBy s.lt then State.takeBoundaries false s.lt b 4 s else s

/-- The End Generator serves, in ascending number, the books below `b` whose Tw expiries are due (R107), those that
lag among them (DEDUCED, log 40). -/
def State.serveLowerDraws (s : State) (b : BookId) : State :=
  (allBooks.filter fun c => decide (c < b)).foldl State.serveDraw s

/-- Take the boundaries of a book at or before `limit`. Where its draw is among them, the lower-numbered books whose Tw
expiries are due take theirs first, each exactly as its expiry would take it (R99, R107). -/
def State.takeInTurn (s : State) (limit : Nat) (b : BookId) : State :=
  State.takeBoundaries false limit b 4 (if (s.book b).drawsBy limit then s.serveLowerDraws b else s)

/-- An expiry of a boundary: taken when the book is in the phase it belongs to and LT has reached the instant, with
the boundaries that are due behind it (R99), draws in ascending book number (R107). -/
def State.takeExpiry (s : State) (phase : Phase) (b : BookId) : State :=
  if (s.book b).phase = phase then s.takeInTurn s.lt b else s

/-- A phase query's taking of the boundaries at or before the stamp, with those due at LT behind the first taken
(R99, R109, log 10). A draw made here follows those of the lower-numbered books whose Tw expiries are due (R107). -/
def State.takeForQuery (s : State) (b : BookId) (stamp : Nat) : State :=
  match (s.book b).boundary with
  | none => s
  | some t => if t ≤ stamp then s.takeInTurn (max stamp s.lt) b else s

/-- The gating phase a book answers for a stamp of a lane (R110, R111). -/
def Book.answer (b : Book) (l : LaneId) (stamp : Nat) : Gating :=
  match b.arming with
  | none => .opened
  | some a =>
    match b.phase with
    | .idle | .armed => .opened
    | .call => if stamp < a.tc then .opened else .call
    | .window | .freeze | .uncross | .closed =>
      match b.draw with
      | none => .opened
      | some d =>
        if (b.phase = .uncross ∨ b.phase = .closed) ∧ (b.trigger l = .held ∨ b.trigger l = .released) ∧ stamp < d.endInstant
        then .post
        else if stamp < a.tc then .opened
        else if stamp < a.tw then .call
        else if stamp < d.endInstant then .window
        else if stamp < d.endInstant + a.d * Config.milli then .freeze
        else .post

/-- A forward step carries an ARMED book over every boundary at or before the stepped LT (R104). -/
def State.bookOnStep (s : State) (b : BookId) : State :=
  if (s.book b).phase = .armed then State.takeBoundaries true s.lt b 4 s else s

end Sys2Proof.Machine
end

