-- ==== Sys2Proof/Machine/ClockOps.lean ====
section
/-! DEFINITION. The shared operations of the time path: the judgement of announcements and markers (R3, R6), the
reference states (R11, R12), the loss and the switch of the selected reference (R19, R20), and the evaluation of a
marker with its three outcomes (R24 to R27, R30 to R32, R104, R130, R152, R179). -/

namespace Sys2Proof.Machine

/-! ### Announcements (R3, R209) -/

/-- The sum of the bytes of a message. -/
def byteSum (m : Bytes) : Nat := (m.map BitVec.toNat).sum

/-- The announcement a valid message spells; absent for an invalid one (R3). A message of another length than 12
bytes is invalid (log 28). -/
def announcementOf (m : Bytes) : Option Announcement :=
  if h : m.length = 12 ∧ field m 0 1 = Config.leadValue ∧ field m 7 1 < 8 ∧ field m 10 1 = 0 ∧ byteSum m % 256 = 0 then
    some { seconds := field m 1 6, grade := ⟨field m 7 1, h.2.2.1⟩, source := BitVec.ofNat 16 (field m 8 2) }
  else none

/-! ### Capture unit (R5, R9) -/

/-- The guard state entered now, with the guard interval in force (R9). -/
def State.guardUnit (s : State) : CaptureUnit := .guard (s.timebase.osc + s.clock.guardMs * Config.milli)

/-- The IDLE state entered now, with the announcement expiry started (R5). -/
def State.idleUnit (s : State) : CaptureUnit := .idle (some (s.timebase.osc + Config.captureExpiry))

/-- The monitor of a line with another capture unit. -/
def State.setUnit (s : State) (ref : RefLine) (u : CaptureUnit) : State :=
  s.setMonitor ref { s.monitor ref with unit := u }

/-- One more discarded announcement (R3). -/
def State.countDiscard (s : State) (ref : RefLine) : State :=
  s.setMonitor ref { s.monitor ref with announcementDiscards := bump32 (s.monitor ref).announcementDiscards }

/-- One more orphan edge (R5). -/
def State.countOrphan (s : State) (ref : RefLine) : State :=
  s.setMonitor ref { s.monitor ref with orphanEdges := bump32 (s.monitor ref).orphanEdges }

/-! ### Changes of the discipline state -/

/-- The rate set to F (R16, R19 to R22). -/
def State.rateToFreq (s : State) : State := { s with timebase := s.timebase.setRate s.discipline.freq }

/-- The other reference becomes selected: ACQUIRE, lock count 0, r = F, a SWITCH record, and a STATE record unless
the controller was in ACQUIRE (R19). -/
def State.switchReference (s : State) : State :=
  let was := s.discipline.state
  let target := s.discipline.selected.other
  let switched := ({ s with
    discipline := { s.discipline with selected := target, state := .acquire, lockCount := 0 } }.rateToFreq).offerClock .switch target
  if was = .acquire then switched else switched.offerClock .state target

/-- The selected reference is lost (R19). HOLDOVER entered from LOCKED keeps the lock count, for which no rule gives a
value there (DESIGN CHOICE, log 32). -/
def State.lossOfSelected (s : State) : State :=
  let canSwitch := s.discipline.autoSwitch && (s.monitor s.discipline.selected.other).refState == .healthy
  match s.discipline.state with
  | .free => s
  | .acquire => if canSwitch then s.switchReference else s.rateToFreq
  | .locked =>
    if canSwitch then s.switchReference
    else
      ({ s with discipline := { s.discipline with state := .holdover } }.rateToFreq).offerClock .state s.discipline.selected
  | .holdover => if canSwitch then s.switchReference else s.rateToFreq

/-- A reference has become HEALTHY: the held-over controller re-acquires (R20), or the later switch is made (R19). -/
def State.becameHealthy (s : State) (ref : RefLine) : State :=
  if ref = s.discipline.selected then
    if s.discipline.state = .holdover then
      { s with discipline := { s.discipline with state := .acquire, lockCount := 0 } }.offerClock .state ref
    else s
  else if s.discipline.autoSwitch && (s.discipline.state == .acquire || s.discipline.state == .holdover)
      && (s.monitor s.discipline.selected).refState.gone then
    s.switchReference
  else s

/-! ### Refused markers (R12) -/

/-- A refused marker, whatever its reason: counts, MARKER_MISSING, and possibly LOST with its consequences
(R10, R12, R19). The reason shows in no state and no record. The REFERENCE_LOST record carries the discipline state and
r before the loss is acted on (DEDUCED, log 33). -/
def State.refuseMarker (s : State) (ref : RefLine) (_reason : RefusalReason) : State :=
  let m := s.monitor ref
  let missing := saturatingSucc Config.count8Max m.missing
  let counted := (s.setMonitor ref { m with good := 0, missing := missing }).raise { kind := .markerMissing }
  if s.clock.m ≤ missing ∧ (m.refState = .listening ∨ m.refState = .healthy) then
    let lost := (counted.setMonitor ref { counted.monitor ref with refState := .lost }).offerClock .referenceLost ref
    if ref = s.discipline.selected then lost.lossOfSelected else lost
  else counted

/-! ### Evaluation (R24 to R27) -/

/-- Division by a power of two, rounded toward zero (R25). -/
def truncShift (v : Int) (shift : Nat) : Int := v.tdiv ((2 ^ shift : Nat) : Int)

/-- The Uncertainty Unit at an evaluation (R30 to R32): base, marker instant, evaluated flag, growth expiry. -/
def State.fixUncertainty (s : State) (uBase ltMark : Nat) : State :=
  { s with
    uncertainty := { s.uncertainty with
      uBase := uBase, ltMark := ltMark, evaluated := true, growthExpiry := some (ltMark + 1) } }

/-- U_base of a slew or a deferred step (R30, R32). -/
def offsetBase (theta : Int) (grade : Fin 8) : Nat := min (theta.natAbs + gradeTable grade) Config.uncertaintyMax

/-- The lock count and the discipline state after a slew (R17, R18), with a STATE record on a change. -/
def State.lockAfterSlew (s : State) (theta : Int) : State :=
  match s.discipline.state with
  | .acquire =>
    if theta.natAbs ≤ s.clock.tLock then
      if s.clock.k ≤ s.discipline.lockCount + 1 then
        { s with discipline := { s.discipline with lockCount := s.discipline.lockCount + 1, state := .locked } }.offerClock
          .state s.discipline.selected
      else { s with discipline := { s.discipline with lockCount := s.discipline.lockCount + 1 } }
    else { s with discipline := { s.discipline with lockCount := 0 } }
  | .locked =>
    if 8 * s.clock.tLock < theta.natAbs then
      { s with discipline := { s.discipline with lockCount := 0, state := .acquire } }.offerClock .state
        s.discipline.selected
    else s
  | .free => s
  | .holdover => s

/-- F and r after a slew, and the step-pending flag cleared (R25). -/
def State.slewRate (s : State) (theta : Int) : State :=
  let freq := clampSym Config.freqLimit (s.discipline.freq - truncShift theta s.clock.gi)
  { s with
    discipline := { s.discipline with freq := freq, stepPending := false }
    timebase := s.timebase.setRate (freq + -truncShift theta s.clock.gp) }

/-- An evaluation with |θ| ≤ S (R17, R18, R25, R30). -/
def State.slew (s : State) (m : Marker) : State :=
  (((s.slewRate m.theta).fixUncertainty (offsetBase m.theta m.grade) m.captured).lockAfterSlew m.theta).judgeGrade

/-- An evaluation with |θ| > S during an auction (R27, R32). -/
def State.deferStep (s : State) (m : Marker) : State :=
  let was := s.discipline.state
  let set : State := { s with
    discipline := { s.discipline with state := .acquire, lockCount := 0, stepPending := true }
    timebase := s.timebase.setRate (s.discipline.freq + -truncShift m.theta s.clock.gp) }
  let recorded := (set.fixUncertainty (offsetBase m.theta m.grade) m.captured).offerClock .stepDeferred
    s.discipline.selected (some m.theta)
  (if was = .locked then recorded.offerClock .state s.discipline.selected else recorded).judgeGrade

/-- Lane effects of a step (R67, R130): an outstanding probe fails; the release expiry follows the stepped LT, and
entries a forward step makes due are judged (log 26). A placement expiry that was taken, or was not set because LT had
reached it, is not set again by a backward step (DESIGN CHOICE, log 37). -/
def State.laneOnStep (s : State) (l : LaneId) : State :=
  let failed := match (s.lane l).probe with
    | .outstanding _ => s.probeFail l
    | .none => s
    | .queued => s
  let u := failed.lane l
  let reset := failed.setLane l { u with releaseExpiry := earliestFrom (s.lt + 1) u.hold }
  match u.releaseExpiry with
  | none => reset
  | some t => if t ≤ s.lt then reset.judgeWaits l else reset

/-- The snapshot expiry at a step to the present LT (R179). -/
def State.snapshotOnStep (s : State) (forward : Bool) : State :=
  match s.evidence.snapshotExpiry with
  | none => s
  | some t =>
    if forward then (if t ≤ s.lt then s.takeSnapshot else s)
    else { s with evidence := { s.evidence with snapshotExpiry := some (nextSnapshot s.evidence.period s.lt) } }

/-- The reservations of a step: one for each lane with a frame in reception, in ascending lane number (R152). -/
def State.reserveForStep (s : State) : State :=
  allLanes.foldl (fun t l => if (t.lane l).rx.isSome then t.reserve l else t) s

/-- The clock side of a step: LT, rate, discipline, uncertainty, and the clock records (R26, R31). -/
def State.stepClock (s : State) (m : Marker) : State :=
  let was := s.discipline.state
  let stepped : State := { s with
    timebase := { s.timebase with lt := ((s.lt : Int) - m.theta).toNat }
    discipline := { s.discipline with state := .acquire, lockCount := 0, stepPending := false } }
  let recorded := (stepped.rateToFreq.fixUncertainty (gradeTable m.grade) (m.seconds * Config.second)).offerClock .step
    s.discipline.selected (some m.theta)
  (if was = .locked then recorded.offerClock .state s.discipline.selected else recorded).judgeGrade

/-- An evaluation with |θ| > S and no book auction-active (R26): reservations, the clock, then the books, the lanes
and the evidence in the order of R150. A negative θ steps LT forward. -/
def State.stepLt (s : State) (m : Marker) : State :=
  let clocked := s.reserveForStep.stepClock m
  let booked := if m.theta < 0 then allBooks.foldl State.bookOnStep clocked else clocked
  (allLanes.foldl State.laneOnStep booked).snapshotOnStep (m.theta < 0)

/-- The evaluation of a marker: slew, step or deferred step (R24). -/
def State.evaluate (s : State) (m : Marker) : State :=
  if m.theta.natAbs ≤ s.clock.s then s.slew m
  else if s.auctionActive then s.deferStep m
  else s.stepLt m

/-- An accepted marker of the selected reference at the Discipline Controller: evaluated in ACQUIRE and LOCKED,
dropped in FREE and HOLDOVER (R15, R16, R20). -/
def State.disciplineMarker (s : State) (m : Marker) : State :=
  match s.discipline.state with
  | .acquire => s.evaluate m
  | .locked => s.evaluate m
  | .free => s
  | .holdover => s

/-! ### Accepted markers (R10, R11) -/

/-- Whether the marker's source differs from that of the last accepted marker (R11). -/
def Monitor.sourceChanged (m : Monitor) (k : Marker) : Bool :=
  match m.last with
  | none => false
  | some p => p.source != k.source

/-- The monitor after an accepted marker, but for its reference state (R10, R11). -/
def Monitor.accepted (m : Monitor) (k : Marker) : Monitor :=
  { m with
    last := some k
    missing := 0
    good := if m.sourceChanged k then 1 else saturatingSucc Config.count8Max m.good }

/-- The reference state after an accepted marker, by the consecutive-good count it gave (R11). -/
def RefState.afterAccepted (r : RefState) (good : Nat) : RefState :=
  match r with
  | .lost => .listening
  | .listening => if 3 ≤ good then .healthy else .listening
  | .healthy => .healthy
  | .disabled => .disabled

/-- The CLOCK event of a change of reference state by acceptance (R28). -/
def acceptanceEvent (before after : RefState) : Option ClockEvent :=
  if before = after then none
  else match after with
    | .listening => some .referenceListening
    | .healthy => some .referenceHealthy
    | .lost => none
    | .disabled => none

/-- An accepted marker (R10, R11): the monitor, its evidence event and its records; the discipline if the reference
is selected; then what the change of reference state causes. The SOURCE_CHANGE and reference-state records carry F, r,
U_base and the discipline state before the evaluation (DEDUCED, log 9). -/
def State.acceptMarker (s : State) (ref : RefLine) (k : Marker) : State :=
  let m := s.monitor ref
  let updated := m.accepted k
  let after := m.refState.afterAccepted updated.good
  let taken := (s.setMonitor ref { updated with refState := after }).raise { kind := .markerAccepted }
  let sourced := if m.sourceChanged k then taken.offerClock .sourceChange ref (some k.theta) else taken
  let recorded := match acceptanceEvent m.refState after with
    | none => sourced
    | some e => sourced.offerClock e ref
  let disciplined := if ref = s.discipline.selected then recorded.disciplineMarker k else recorded
  if m.refState = .listening ∧ after = .healthy then disciplined.becameHealthy ref else disciplined

end Sys2Proof.Machine
end

