-- ==== Sys2Proof/Machine/Operands.lean ====
section
/-! DEFINITION. How the part reads what it is given: the recognition of frames on both ports (R49 to R51, R71, R183,
R198), the entry header (R56, R202), and the requests of the Control Handler (R183, R186, R187, R204, R205). -/

namespace Sys2Proof.Machine

/-! ### Link frames (R49, R71) -/

/-- Whether a frame that ended is complete: not oversize, not short, its check correct (R49). -/
def complete (frame : Bytes) : Bool :=
  Config.frameMin ≤ frame.length && frame.length ≤ Config.frameMax && checkHolds frame

/-- The kind of a control frame, absent when it ends with its link header (R183). -/
def frameKind (frame : Bytes) : Option Nat := (payload frame).head?.map BitVec.toNat

/-- What a frame that ended on an A port is (R49 to R52). -/
inductive APortFrame where
  | oversize | failedCheck | probe | control | entry | foreign
  deriving DecidableEq, Repr

/-- The recognition of a frame that ended on an A port, with the entry frame type in force (R49 to R51). -/
def recogniseA (entryType : Nat) (frame : Bytes) : APortFrame :=
  if Config.frameMax < frame.length then .oversize
  else if frame.length < Config.frameMin || !checkHolds frame then .failedCheck
  else if frameType frame = Config.controlType then (if frameKind frame = some kindProbe then .probe else .control)
  else if frameType frame = entryType then .entry
  else .foreign

/-- What a frame that ended on a B port is (R71, R183). -/
inductive BPortFrame where
  | oversize | failedCheck | report | noKind | creditGrant | uncrossDone | partSent | request
  deriving DecidableEq, Repr

/-- The recognition of a frame that ended on a B port (R71, R183). -/
def recogniseB (frame : Bytes) : BPortFrame :=
  if Config.frameMax < frame.length then .oversize
  else if frame.length < Config.frameMin || !checkHolds frame then .failedCheck
  else if frameType frame ≠ Config.controlType then .report
  else match frameKind frame with
    | none => .noKind
    | some k =>
      if k = kindCreditGrant then .creditGrant
      else if k = kindUncrossDone then .uncrossDone
      else if partSentKind k then .partSent
      else .request

/-! ### The entry header (R56, R202) -/

/-- A field of a header whose bytes may not all be there: 0 then (R56). -/
def headerField (header : Bytes) (offset width : Nat) : Nat :=
  if offset + width ≤ header.length then field header offset width else 0

/-- The entry header as read from what follows the link header (R56, R202). -/
def entryHeader (header : Bytes) : EntryHeader where
  version := headerField header 0 1
  kind := messageKindOf (headerField header 1 1)
  declared := headerField header 2 2
  session := headerField header 4 2
  member := headerField header 6 2
  instrument := headerField header 8 4
  clientRef := headerField header 12 8

/-- The four conditions of a well-formed entry frame (R55). -/
def entryWellFormed (frame : Bytes) : Bool :=
  let h := entryHeader (payload frame)
  let body := frame.length - 38
  frame.length ≤ Config.entryFrameMax && 38 ≤ frame.length && h.version == 1 &&
    (h.declared == body || (frame.length == 64 && h.declared ≤ body))

/-- The order key of an entry frame (R128). -/
def orderKeyOf (h : EntryHeader) : Option OrderKey :=
  match h.kind with
  | .new | .modify | .cancel => some (.order h.session h.clientRef)
  | .massCancel => some (.sessionWide h.session)
  | .heartbeat | .other => none

/-! ### Classification (R77, R79, R80) -/

/-- The header field a selector names (R76). -/
def selectedField (h : EntryHeader) : Selector → Nat
  | .session => h.session
  | .member => h.member
  | .instrument => h.instrument
  | .kind => h.kind.code

/-- The width of a selector's field in bits (R76). -/
def Selector.width : Selector → Nat
  | .session => 16
  | .member => 16
  | .instrument => 32
  | .kind => 8

/-- Whether an entry matches a header: at each position of the width the mask is 1 or the bits agree (R77). -/
def MatchEntry.hits (e : MatchEntry) (h : EntryHeader) : Bool :=
  e.enabled &&
    (((BitVec.ofNat 32 (selectedField h e.selector) ^^^ e.value) &&& ~~~e.mask).toNat % 2 ^ e.selector.width == 0)

/-- All match entry numbers. -/
def allEntries : List EntryId := List.finRange 32

/-- Whether a class record matches a header (R79). -/
def ClassRecord.hits (c : ClassRecord) (table : Vector MatchEntry 32) (h : EntryHeader) : Bool :=
  (c.anyOf != 0 || c.allOf != 0) &&
    (c.anyOf == 0 || allEntries.any fun n => c.anyOf.has n && (table[n.val]).hits h) &&
    (allEntries.all fun n => !c.allOf.has n || (table[n.val]).hits h)

/-- The class of a header: the first of classes 0 to 14 that matches, or 15 (R80). -/
def State.classify (s : State) (h : EntryHeader) : ClassId :=
  (((List.finRange 15).map (Fin.castLE (by decide) : Fin 15 → ClassId)).find? fun c =>
    (s.classTable[c.val]).hits s.matchTable h).getD 15

/-! ### Requests (R183, R186, R187, R204, R205) -/

/-- The kind byte of a request. -/
def reqKind (p : Bytes) : Nat := field p 0 1

/-- The request id; 0 for a request too short to hold one (R183). -/
def reqId (p : Bytes) : Nat := if p.length < 3 then 0 else field p 1 2

/-- The table code of a table request (R205). -/
def reqTable (p : Bytes) : Option TableId := tableOf (field p 3 1)

/-- The index of a table request (R205). -/
def reqIndex (p : Bytes) : Nat := field p 4 1

/-- The setting code of a write to a settings group (R207). -/
def settingCode (p : Bytes) : Nat := field p 5 1

/-- The value of a write to a settings group (R207). -/
def settingValue (p : Bytes) : Nat := field p 6 8

/-- How many content bytes a write of a table carries (R207). -/
def contentBytes : Option TableId → Nat
  | some .matchTable => 10
  | some .classTable => 14
  | some .lane => 10
  | some .stamping => 9
  | some .clock => 9
  | some .journal => 9
  | some .counter => 4
  | none => 0

/-- How many bytes the fields of a request take (R205). -/
def fieldBytes (p : Bytes) : Nat :=
  let k := reqKind p
  if k = kindTableWrite then 2 + contentBytes (reqTable p)
  else if k = kindTableRead then 2
  else if k = kindBookArm then 28
  else if k = kindBookDisarm then 1
  else if k = kindBookExtend then 5
  else if k = kindBookSeed then 4
  else if k = kindClockCommand then 1
  else if k = kindLaneCommand then 2
  else if k = kindJournalRelease then 8
  else if k = kindJournalResend then 8
  else 0

/-- Whether a request is too short for its id or for the fields of its kind (R183, R205). -/
def tooShort (p : Bytes) : Bool := p.length < 3 + fieldBytes p

/-- The row of the opcode table that a TABLE_WRITE belongs to; one with an unlisted table or setting code stands
with the first row of its group, where it is answered BAD_VALUE (R189, log 4). -/
def writeRow (p : Bytes) : Instr :=
  match reqTable p with
  | some .matchTable => .tableWriteMatch
  | some .classTable => .tableWriteClass
  | some .lane => .tableWriteLane
  | some .stamping =>
    match settingCode p with
    | 1 => .tableWriteDayOrigin
    | 3 => .tableWriteL
    | 4 => .tableWriteQ
    | 5 => .tableWriteEntryFrameType
    | _ => .tableWriteH
  | some .clock =>
    match settingCode p with
    | 9 => .tableWriteAutoSwitch
    | 10 => .tableWriteReferenceEnable
    | 11 => .tableWriteReferenceEnable
    | _ => .tableWriteClockSetting
  | some .journal => if settingCode p = 2 then .tableWriteFlushInterval else .tableWriteExportLane
  | some .counter => if reqIndex p = 10 then .tableWriteSnapshotPeriod else .tableWriteCounter
  | none => .tableWriteMatch

/-- The row that a CLOCK_COMMAND belongs to; an unlisted command stands with the first (R193, log 4). -/
def clockCommandRow (p : Bytes) : Instr :=
  match field p 3 1 with
  | 2 => .release
  | 3 => .selectA
  | 4 => .selectB
  | 5 => .clearMissing
  | _ => .acquire

/-- The row that a LANE_COMMAND belongs to; an unlisted command stands with the first (R194, log 4). -/
def laneCommandRow (p : Bytes) : Instr :=
  match field p 4 1 with
  | 2 => .drain
  | 3 => .disable
  | 4 => .probe
  | _ => .enable

/-- The row of the opcode table that a request belongs to (R187, R204, log 4). -/
def requestRow (p : Bytes) : Instr :=
  let k := reqKind p
  if k = kindTableWrite then writeRow p
  else if k = kindTableRead then .tableRead
  else if k = kindBookArm then .bookArm
  else if k = kindBookDisarm then .bookDisarm
  else if k = kindBookExtend then .bookExtend
  else if k = kindBookSeed then .bookSeed
  else if k = kindClockCommand then clockCommandRow p
  else if k = kindLaneCommand then laneCommandRow p
  else if k = kindJournalRelease then .journalRelease
  else if k = kindJournalResend then .journalResend
  else if k = kindCounterRead then .counterRead
  else if k = kindCounterClear then .counterClear
  else if k = kindStatusRead then .statusRead
  else if k = kindDatapathReset then .datapathReset
  else .unknownRequest

/-- What a request comes to: the state after it and its reply, completed or deferred (R187). -/
abbrev Answer := State × ReplyBody

/-- A refused request: nothing changes, and the reply has no content (R188, R205). -/
def refuseWith (status : Status) (s : State) : Answer := (s, .completed status [])

/-- A request answered OK with a content. -/
def okWith (content : Bytes) (s : State) : Answer := (s, .completed .ok content)

/-- The request leaves its queue, and the pointer moves to the lane after (R184, R186). -/
def State.popRequest (s : State) (l : LaneId) : State :=
  { s with pointer := nextLane l }.setLane l { s.lane l with requests := (s.lane l).requests.tail }

/-- The taking of the next request when it belongs to `row` (R186, R187): it leaves its queue; a too short one is
answered BAD_VALUE (R183), any other is judged and applied by `serve`; the reply joins the tail of the requesting
lane's reply queue. Where no request, or one of another row, is next, nothing is taken (log 3). -/
def State.takeRequest (s : State) (row : Instr) (serve : LaneId → Bytes → State → Answer) : State :=
  match s.nextRequest with
  | none => s
  | some (l, frame) =>
    let p := payload frame
    if requestRow p = row then
      let popped := s.popRequest l
      let a := if tooShort p then refuseWith .badValue popped else serve l p popped
      a.1.placeReply l ⟨reqId p, reqKind p, a.2⟩
    else s

end Sys2Proof.Machine
end

