-- ==== Sys2Proof/Machine/PowerOn.lean ====
section
/-! DEFINITION. The reset input (R42 and the power-on rules of every chapter). -/

namespace Sys2Proof.Machine

/-- An outcome of a command: the next state, or one of the reasons of State.lean (none is ever raised). -/
abbrev Result := Host.Outcome State Fault Refusal

/-- POWER_ON_RESET: every block at its power-on values. The commands still waiting stay, and free values go on being
drawn where they were (log 21). -/
def execPowerOnReset (s : State) : Result :=
  .next { State.reset with pending := s.pending, freeIndex := s.freeIndex }

end Sys2Proof.Machine
end

