-- ==== Sys2Proof/Machine/Reference.lean ====
section
/-! DEFINITION. The commands of the reference lines and of the growth expiry (R3 to R12, R34). -/

namespace Sys2Proof.Machine

/-- A valid announcement by the state of the capture unit (R5, R7, R9). -/
def State.validAnnouncement (s : State) (ref : RefLine) (a : Announcement) : State :=
  match (s.monitor ref).unit with
  | .idle _ => s.setUnit ref (.armed a (s.timebase.osc + Config.captureExpiry))
  | .armed _ _ => ((s.setUnit ref s.guardUnit).countDiscard ref).refuseMarker ref .overrun
  | .guard _ => s.countDiscard ref

/-- ANNOUNCEMENT_RECEIVED (R3, R5, R7, R9): ignored while the reference is DISABLED (R13). -/
def execAnnouncementReceived (ref : RefLine) (message : Bytes) (s : State) : Result :=
  .next <|
    if !(s.monitor ref).enabled then s
    else match announcementOf message with
      | none => s.countDiscard ref
      | some a => s.validAnnouncement ref a

/-- The judgement of an edge in ARMED (R6): the pending announcement is dropped, the unit enters GUARD. -/
def State.judgeEdge (s : State) (ref : RefLine) (a : Announcement) : State :=
  let theta : Int := (s.lt : Int) - (a.seconds * Config.second : Nat)
  let guarded := s.setUnit ref s.guardUnit
  if a.grade = 7 then guarded.refuseMarker ref .gradeUnusable
  else if s.discipline.state = .locked ∧ s.clock.wc < theta.natAbs then guarded.refuseMarker ref .window
  else guarded.acceptMarker ref ⟨s.lt, a.seconds, a.grade, a.source, theta⟩

/-- MARKER_EDGE (R5, R6, R9): ignored while the reference is DISABLED (R13). -/
def execMarkerEdge (ref : RefLine) (s : State) : Result :=
  .next <|
    if !(s.monitor ref).enabled then s
    else match (s.monitor ref).unit with
      | .armed a _ => s.judgeEdge ref a
      | .idle _ => s.countOrphan ref
      | .guard _ => s.countOrphan ref

/-- ARM_EXPIRY (R8): the 1,000 ms have passed on the oscillator. -/
def execArmExpiry (ref : RefLine) (s : State) : Result :=
  .next <|
    match (s.monitor ref).unit with
    | .armed _ t => if t ≤ s.timebase.osc then (s.setUnit ref s.guardUnit).refuseMarker ref .noEdge else s
    | .idle _ => s
    | .guard _ => s

/-- ANNOUNCEMENT_EXPIRY (R5): a refusal, and the expiry is started again. -/
def execAnnouncementExpiry (ref : RefLine) (s : State) : Result :=
  .next <|
    match (s.monitor ref).unit with
    | .idle (some t) =>
      if t ≤ s.timebase.osc then (s.setUnit ref s.idleUnit).refuseMarker ref .noAnnouncement else s
    | .idle none => s
    | .armed _ _ => s
    | .guard _ => s

/-- GUARD_EXPIRY (R9): the unit enters IDLE and starts the announcement expiry. -/
def execGuardExpiry (ref : RefLine) (s : State) : Result :=
  .next <|
    match (s.monitor ref).unit with
    | .guard t => if t ≤ s.timebase.osc then s.setUnit ref s.idleUnit else s
    | .idle _ => s
    | .armed _ _ => s

/-- GROWTH_EXPIRY (R34): the grade is judged with the grown U_clock; the expiry goes on to the next second from
LT_mark. -/
def execGrowthExpiry (s : State) : Result :=
  .next <|
    match s.uncertainty.growthExpiry with
    | none => s
    | some t =>
      if t ≤ s.lt then
        { s with uncertainty := { s.uncertainty with growthExpiry := some (t + Config.second) } }.judgeGrade
      else s

end Sys2Proof.Machine
end

