-- ==== Sys2Proof/Machine/Links.lean ====
section
/-! DEFINITION. The link events of a lane (R46, R47). -/

namespace Sys2Proof.Machine

/-- A frame in reception on the A port is abandoned: counted, not journaled as an entry (R46, R74). -/
def State.abandonReception (s : State) (l : LaneId) : State :=
  match (s.lane l).rx with
  | none => s
  | some _ =>
    ((s.countLane l fun c => { c with aTruncated := bump32 c.aTruncated }).endReception l).afterReception l

/-- A queued or outstanding probe ends as PROBE_FAILED (R67). -/
def State.failProbe (s : State) (l : LaneId) : State :=
  match (s.lane l).probe with
  | .none => s
  | .queued => s.probeFail l
  | .outstanding _ => s.probeFail l

/-- A_LINK_LOST (R46): the frame in reception, the probe, the record; the frame in transmission is lost. -/
def execALinkLost (lane : LaneId) (s : State) : Result :=
  .next <|
    match (s.lane lane).aLink with
    | .down => s
    | .up =>
      let down := s.setLane lane { s.lane lane with aLink := .down, aTx := none }
      ((down.abandonReception lane).failProbe lane).offerLane lane .aLinkLost

/-- A_LINK_RETURNED (R46). -/
def execALinkReturned (lane : LaneId) (s : State) : Result :=
  .next <|
    match (s.lane lane).aLink with
    | .up => s
    | .down => (s.setLane lane { s.lane lane with aLink := .up }).offerLane lane .aLinkReturned

/-- B_LINK_LOST (R47): `inReception` says whether a frame was in reception on the B port (log 6). -/
def execBLinkLost (lane : LaneId) (inReception : Bool) (s : State) : Result :=
  .next <|
    match (s.lane lane).bLink with
    | .down => s
    | .up =>
      let down := s.setLane lane { s.lane lane with bLink := .down, bTx := none }
      let counted :=
        if inReception then down.countLane lane fun c => { c with bTruncated := bump32 c.bTruncated } else down
      (counted.dropCredits lane).offerLane lane .bLinkLost

/-- B_LINK_RETURNED (R47): the credit count stays 0. -/
def execBLinkReturned (lane : LaneId) (s : State) : Result :=
  .next <|
    match (s.lane lane).bLink with
    | .up => s
    | .down => (s.setLane lane { s.lane lane with bLink := .up }).offerLane lane .bLinkReturned

end Sys2Proof.Machine
end

