-- ==== Sys2Proof/Machine/APort.lean ====
section
/-! DEFINITION. The A port of a lane: capture (R48, R57), the frames that end on it (R49 to R56, R64, R65), the
disposition of entry frames (R121 to R125), and the probe timeout (R66, R67). -/

namespace Sys2Proof.Machine

/-! ### Capture -/

/-- The stamp of a capture: captured LT less C_lane, 0 when C_lane is the larger (R57). -/
def stampOf (captured cLane : Nat) : Nat := captured - cLane

/-- What a capture forms now (R38, R39, R48, R57), with U_clock and the clock grade as they stand: a growth expiry due
at this LT and taken after the capture does not enter. -/
def State.capture (s : State) (l : LaneId) : Reception :=
  let u := s.lane l
  let uStamp := stampUncertainty s.uClock u.uLane
  { captured := s.lt
    stamp := stampOf s.lt u.cLane
    uStamp
    grade := stampGrade s.uncertainty.grade uStamp s.stamping.l
    dayOrigin := s.stamping.dayOrigin }

/-- START_OF_FRAME (R48): a port whose link is DOWN receives nothing (section 3.3), and one frame is received at a
time (section 3.4). -/
def execStartOfFrame (lane : LaneId) (s : State) : Result :=
  .next <|
    match (s.lane lane).aLink, (s.lane lane).rx with
    | .up, none => s.setLane lane { s.lane lane with rx := some (s.capture lane) }
    | .up, some _ => s
    | .down, _ => s

/-! ### Frames that end -/

/-- A frame in reception that ends as recognised: handled, then the reception ends and what follows it is done
(R48, R69, R140). Where no frame is in reception, or it is recognised as another row's, nothing is taken (log 3). -/
def State.frameEnds (s : State) (l : LaneId) (frame : Bytes) (sort : APortFrame) (handle : Reception → State → State) :
    State :=
  match (s.lane l).rx with
  | none => s
  | some rx =>
    if recogniseA s.stamping.entryType frame = sort then ((handle rx s).endReception l).afterReception l else s

/-- A_FRAME_DISCARDED (R49). -/
def execAFrameDiscarded (lane : LaneId) (frame : Bytes) (s : State) : Result :=
  .next <|
    if recogniseA s.stamping.entryType frame = .oversize then
      s.frameEnds lane frame .oversize fun _ t => t.countLane lane fun c => { c with aOversize := bump32 c.aOversize }
    else
      s.frameEnds lane frame .failedCheck fun _ t => t.countLane lane fun c => { c with aFcsError := bump32 c.aFcsError }

/-- A_CONTROL_FRAME (R51). -/
def execAControlFrame (lane : LaneId) (frame : Bytes) (s : State) : Result :=
  .next <|
    s.frameEnds lane frame .control fun _ t =>
      t.countLane lane fun c => { c with aControlDiscarded := bump32 c.aControlDiscarded }

/-- The handling of a foreign frame by lane state (R52). -/
def State.handleForeign (s : State) (l : LaneId) (frame : Bytes) (rx : Reception) : State :=
  let seen := s.raise { kind := .foreign, lane := some l }
  if (s.lane l).state = .disabled then
    (seen.countLane l fun c => { c with disabledDiscarded := bump32 c.disabledDiscarded }).raise
      { kind := .discardedDisabled, lane := some l }
  else if frameCount (s.lane l).hold < Config.holdFrames then
    seen.admitFrame l none none none rx.captured rx.captured frame
  else
    (seen.countLane l fun c => { c with foreignOverflow := bump32 c.foreignOverflow }).raise
      { kind := .overflow, lane := some l }

/-- FOREIGN_FRAME (R52). -/
def execForeignFrame (lane : LaneId) (frame : Bytes) (s : State) : Result :=
  .next <| s.frameEnds lane frame .foreign fun rx t => t.handleForeign lane frame rx

/-! ### Entry frames -/

/-- What is known of an entry frame when its disposition is decided (R80, R121). -/
structure Judged where
  header : EntryHeader
  cls : Option ClassId
  book : Option BookId
  gating : Gating
  disposition : Disposition
  deriving DecidableEq, Repr

/-- The evidence events of a disposition (R54, R55, R123). -/
def dispositionEvents (l : LaneId) (j : Judged) : List EvidenceEvent :=
  let event (k : EvidenceKind) : EvidenceEvent := { kind := k, lane := some l, cls := j.cls, book := j.book }
  match j.disposition with
  | .pass => [event .entryPass]
  | .late => [event .entryLate]
  | .refused .malformed => [event .entryMalformed]
  | .refused .overflow => [event .entryRefused, event .overflow]
  | .refused .auctionExcluded => [event .entryRefused]
  | .refused .lateRefused => [event .entryRefused]
  | .refused .laneDraining => [event .entryRefused]
  | .refused .laneProbing => [event .entryRefused]

/-- The ENTRY record of a judged frame (R54, R123, R155). -/
def entryRecord (l : LaneId) (rx : Reception) (j : Judged) (notice : Option NoticeOutcome) : EntryRecord where
  lane := l
  stamp := rx.stamp
  uStamp := rx.uStamp
  grade := rx.grade
  cls := j.cls
  book := j.book
  gating := j.gating
  disposition := j.disposition
  notice := notice
  header := j.header

/-- The outcome of a notice offered now (R125). -/
def LaneUnit.noticeOutcome (u : LaneUnit) : NoticeOutcome :=
  if u.notices.length < Config.noticeMax then .queued else .suppressed

/-- The notice of a refused frame with its record number (R124). -/
def noticeOf (number : Nat) (l : LaneId) (rx : Reception) (j : Judged) (reason : EntryRefusal) : Notice where
  number := number
  lane := l
  reason := reason
  stamp := rx.stamp
  header := j.header
  cls := j.cls
  book := j.book
  gating := j.gating

/-- The refusal path from step 2 of R122 on: notice, record, events; the frame is dropped (R122 to R125). -/
def State.refuseEntry (s : State) (l : LaneId) (rx : Reception) (j : Judged) (reason : EntryRefusal) : State :=
  let outcome := (s.lane l).noticeOutcome
  let number := s.entryNumber l
  let recorded := (s.offerEntry l (entryRecord l rx j (some outcome))).raiseAll (dispositionEvents l j)
  match outcome with
  | .queued =>
    recorded.setLane l
      { recorded.lane l with notices := (recorded.lane l).notices ++ [noticeOf number l rx j reason] }
  | .suppressed => recorded.raise { kind := .noticeSuppressed, lane := some l, cls := j.cls, book := j.book }

/-- The forwarding path from step 3 of R122 on: record, events, trailer, admission (R61, R122, R128 to R130). -/
def State.forwardEntry (s : State) (l : LaneId) (frame : Bytes) (rx : Reception) (j : Judged) (cls : ClassId)
    (c : ClassRecord) : State :=
  let number := s.entryNumber l
  let recorded := (s.offerEntry l (entryRecord l rx j none)).raiseAll (dispositionEvents l j)
  let late := j.disposition == .late
  recorded.admitFrame l (orderKeyOf j.header) j.book (some cls) rx.captured (rx.captured + c.delayUnits * s.stamping.q)
    (withTrailer frame (trailer c.format number l cls j.book rx j.gating late))

/-- The disposition by gating phase, admission and late action (R121). -/
def disposition (g : Gating) (admission : Admission) (lateAction : LateAction) : Disposition :=
  match g with
  | .opened => .pass
  | .call => match admission with
    | .accept => .pass
    | .refuse => .refused .auctionExcluded
  | .window => match admission with
    | .accept => .pass
    | .refuse => .refused .auctionExcluded
  | .freeze => match lateAction with
    | .mark => .late
    | .refuse => .refused .lateRefused
  | .post => match lateAction with
    | .mark => .late
    | .refuse => .refused .lateRefused

/-- The overflow test (R122). -/
def overflowTest (frames : Nat) (d : Disposition) : Disposition :=
  match d with
  | .refused r => .refused r
  | .pass => if frames < Config.holdFrames then .pass else .refused .overflow
  | .late => if frames < Config.holdFrames then .late else .refused .overflow

/-- The phase query of a class's book: the state after the boundaries it takes, and the gating phase (R82, R109). -/
def State.queryGating (s : State) (l : LaneId) (book : Option BookId) (stamp : Nat) : State × Gating :=
  match book with
  | none => (s, .opened)
  | some b =>
    let taken := s.takeForQuery b stamp
    (taken, (taken.book b).answer l stamp)

/-- A well-formed entry frame on an ACTIVE lane: class, gating, disposition, and the order of R122 (R80, R121). -/
def State.handleWellFormed (s : State) (l : LaneId) (frame : Bytes) (rx : Reception) (h : EntryHeader) : State :=
  let cls := s.classify h
  let c := s.classTable[cls.val]
  let queried := s.queryGating l c.book rx.stamp
  let d := overflowTest (frameCount (queried.1.lane l).hold) (disposition queried.2 c.admission c.lateAction)
  let j : Judged := ⟨h, some cls, c.book, queried.2, d⟩
  match d with
  | .refused r => queried.1.refuseEntry l rx j r
  | .pass => queried.1.forwardEntry l frame rx j cls c
  | .late => queried.1.forwardEntry l frame rx j cls c

/-- A refusal before classification: class and book absent, gating phase OPEN (R54, R55). -/
def unclassified (h : EntryHeader) (r : EntryRefusal) : Judged := ⟨h, none, none, .opened, .refused r⟩

/-- The handling of an entry frame by lane state (R53 to R55). -/
def State.handleEntry (s : State) (l : LaneId) (frame : Bytes) (rx : Reception) : State :=
  let h := entryHeader (payload frame)
  match (s.lane l).state with
  | .disabled =>
    (s.countLane l fun c => { c with disabledDiscarded := bump32 c.disabledDiscarded }).raise
      { kind := .discardedDisabled, lane := some l }
  | .draining => s.refuseEntry l rx (unclassified h .laneDraining) .laneDraining
  | .probing _ => s.refuseEntry l rx (unclassified h .laneProbing) .laneProbing
  | .active =>
    if entryWellFormed frame then s.handleWellFormed l frame rx h
    else s.refuseEntry l rx (unclassified h .malformed) .malformed

/-- ENTRY_FRAME (R53 to R56, R121 to R125). -/
def execEntryFrame (lane : LaneId) (frame : Bytes) (s : State) : Result :=
  .next <| s.frameEnds lane frame .entry fun rx t => t.handleEntry lane frame rx

/-! ### Probes -/

/-- The new C_lane of a round trip (R65). -/
def probeC (roundTrip : Nat) : Nat := min (roundTrip / 2) Config.compMax

/-- The new U_lane of a round trip and an allowance (R65). -/
def probeU (roundTrip allowance : Nat) : Nat := min (ceilDiv (roundTrip * allowance) 100) Config.compMax

/-- A probe that returns: installed at once, the lane goes back, the deferred reply is sent (R65). -/
def State.probeDone (s : State) (l : LaneId) (roundTrip : Nat) : State :=
  let u := s.lane l
  let installed := s.install l (probeC roundTrip) (probeU roundTrip u.allowance) (some roundTrip)
  let back := installed.setLane l { installed.lane l with probe := .none, state := u.state.afterProbe }
  back.completeReply l .probe .ok ((back.lane l).commandContent l .probe (some probeOkCode) (some roundTrip))

/-- T1 of the outstanding probe that a returning frame answers; absent when the frame is stale (R64, R205). -/
def LaneUnit.answeredProbe (u : LaneUnit) (p : Bytes) : Option Nat :=
  match u.probe with
  | .outstanding t1 => if 3 ≤ p.length ∧ field p 1 2 = u.lastProbeId then some t1 else none
  | .none => none
  | .queued => none

/-- PROBE_RETURN (R64 to R66): the returning frame was the frame in reception and has completed when its result is
installed (R65). A round trip below 0, of a frame captured before the probe left, is taken as 0 (DESIGN CHOICE,
log 36). -/
def execProbeReturn (lane : LaneId) (frame : Bytes) (s : State) : Result :=
  .next <|
    match (s.lane lane).rx with
    | none => s
    | some rx =>
      if recogniseA s.stamping.entryType frame = .probe then
        match (s.lane lane).answeredProbe (payload frame) with
        | some t1 => ((s.endReception lane).probeDone lane (rx.captured - t1)).afterReception lane
        | none =>
          ((s.countLane lane fun c => { c with probeStale := bump32 c.probeStale }).endReception lane).afterReception lane
      else s

/-- PROBE_TIMEOUT (R62, R66, R67): taken when LT reaches T1 + 10 ms. -/
def execProbeTimeout (lane : LaneId) (s : State) : Result :=
  .next <|
    match (s.lane lane).probe with
    | .outstanding t1 => if t1 + Config.probeTimeout ≤ s.lt then s.probeFail lane else s
    | .none => s
    | .queued => s

end Sys2Proof.Machine
end

