-- ==== Sys2Proof/Machine/BPort.lean ====
section
/-! DEFINITION. The B port of a lane: frames that end on it (R71), reports (R146), requests (R70, R184), short and
discarded control frames (R183), credit grants (R134, R198) and uncross confirmations (R116, R118, R198). -/

namespace Sys2Proof.Machine

/-- A frame that ends on a B port whose link is UP and is recognised as `sort` is handled; a port whose link is DOWN
receives nothing (section 3.3), and a frame of another row's sort is not this row's (log 3). -/
def State.bFrameEnds (s : State) (l : LaneId) (frame : Bytes) (sort : BPortFrame) (handle : State → State) : State :=
  match (s.lane l).bLink with
  | .down => s
  | .up => if recogniseB frame = sort then handle s else s

/-- B_FRAME_DISCARDED (R71, by R49). -/
def execBFrameDiscarded (lane : LaneId) (frame : Bytes) (s : State) : Result :=
  .next <|
    if recogniseB frame = .oversize then
      s.bFrameEnds lane frame .oversize fun t => t.countLane lane fun c => { c with bOversize := bump32 c.bOversize }
    else
      s.bFrameEnds lane frame .failedCheck fun t => t.countLane lane fun c => { c with bFcsError := bump32 c.bFcsError }

/-- A report offered to the report FIFO (R146). -/
def State.offerReport (s : State) (l : LaneId) (frame : Bytes) : State :=
  if (s.lane l).reports.length < Config.reportMax then
    s.setLane l { s.lane l with reports := (s.lane l).reports ++ [frame] }
  else s.raise { kind := .reportDropped, lane := some l }

/-- REPORT_FRAME (R71, R146). -/
def execReportFrame (lane : LaneId) (frame : Bytes) (s : State) : Result :=
  .next <| s.bFrameEnds lane frame .report fun t => t.offerReport lane frame

/-- A request that arrives: discarded without permission (R70, R71), else offered to the request queue (R184). -/
def State.offerRequest (s : State) (l : LaneId) (frame : Bytes) : State :=
  let u := s.lane l
  if !u.permission then
    s.countLane l fun c => { c with requestNoPermission := bump32 c.requestNoPermission }
  else if u.requests.length < Config.requestMax then s.setLane l { u with requests := u.requests ++ [frame] }
  else s.setLane l { u with requestOverflow := bump32 u.requestOverflow }

/-- CONTROL_REQUEST_ARRIVAL (R70, R71, R184): the request is kept whole, as it arrived (R183). -/
def execControlRequestArrival (lane : LaneId) (frame : Bytes) (s : State) : Result :=
  .next <| s.bFrameEnds lane frame .request fun t => t.offerRequest lane frame

/-- The lane's short control frame count, one higher (R183, R198). -/
def State.countShort (s : State) (l : LaneId) : State :=
  s.setLane l { s.lane l with shortControl := bump32 (s.lane l).shortControl }

/-- SHORT_CONTROL_FRAME (R183): a control frame that ends with its link header. -/
def execShortControlFrame (lane : LaneId) (frame : Bytes) (s : State) : Result :=
  .next <| s.bFrameEnds lane frame .noKind fun t => t.countShort lane

/-- B_CONTROL_DISCARDED (R71): a control frame of a kind the part sends. -/
def execBControlDiscarded (lane : LaneId) (frame : Bytes) (s : State) : Result :=
  .next <|
    s.bFrameEnds lane frame .partSent fun t =>
      t.countLane lane fun c => { c with bControlDiscarded := bump32 c.bControlDiscarded }

/-- A grant of `n` credits: limited to 32, the excess noted, and the waits judged when the count changes
(R133, R134). -/
def State.grant (s : State) (l : LaneId) (n : Nat) : State :=
  let credits := (s.lane l).credits
  let granted := min (credits + n) Config.creditMax
  let noted :=
    if Config.creditMax < credits + n ∧ n ≠ 0 then s.raise { kind := .creditExcess, lane := some l } else s
  if granted = credits then noted else (noted.setLane l { s.lane l with credits := granted }).judgeWaits l

/-- CREDIT_GRANT (R134, R198): in every lane state, whatever the permission. -/
def execCreditGrant (lane : LaneId) (frame : Bytes) (s : State) : Result :=
  .next <|
    s.bFrameEnds lane frame .creditGrant fun t =>
      if (payload frame).length < 2 then t.countShort lane else t.grant lane (field (payload frame) 1 1)

/-- The book and the result an UNCROSS_DONE carries; absent when it is too short or a code is not listed
(R118, R198, R205). -/
def confirmationOf (p : Bytes) : Option (BookId × ConfirmResult) :=
  if p.length < 3 then none
  else match bookOf (field p 1 1), confirmResultOf (field p 2 1) with
    | some b, some r => some (b, r)
    | _, _ => none

/-- A confirmation that is not expected: counted, with its record (R116). -/
def State.unexpectedConfirmation (s : State) (b : BookId) (r : ConfirmResult) : State :=
  { s with bookUnit := { s.bookUnit with unexpected := bump32 s.bookUnit.unexpected } }.offer
    (.book { book := b, event := .unexpectedConfirmation, result := some r, phase := some (s.book b).phase })

/-- A confirmation taken by the phase of its book (R116). -/
def State.confirm (s : State) (b : BookId) (r : ConfirmResult) : State :=
  match (s.book b).phase with
  | .uncross =>
    (s.setBook b { s.book b with phase := .closed, result := some r, uncrossAt := none }).offer
      (.book { book := b, event := .confirmed, result := some r })
  | .closed =>
    match (s.book b).result with
    | none => s.offer (.book { book := b, event := .lateConfirmation, result := some r })
    | some _ => s.unexpectedConfirmation b r
  | .idle => s.unexpectedConfirmation b r
  | .armed => s.unexpectedConfirmation b r
  | .call => s.unexpectedConfirmation b r
  | .window => s.unexpectedConfirmation b r
  | .freeze => s.unexpectedConfirmation b r

/-- UNCROSS_DONE (R116, R118, R198): on any lane, whatever its permission. -/
def execUncrossDone (lane : LaneId) (frame : Bytes) (s : State) : Result :=
  .next <|
    s.bFrameEnds lane frame .uncrossDone fun t =>
      match confirmationOf (payload frame) with
      | none => { t with bookUnit := { t.bookUnit with malformed := bump32 t.bookUnit.malformed } }
      | some (b, r) => t.confirm b r

end Sys2Proof.Machine
end

