-- ==== Sys2Proof/Machine/Egress.lean ====
section
/-! DEFINITION. What leaves a lane: release and placement expiries (R130, R139, R140), the engine egress arbiter with
the release arbiter (R136 to R138, R144, R145, R163, R168, R185), and the gateway egress arbiter (R62, R126, R147). A
choice is the moment an egress is free, so the frame that was in transmission on it has ended (log 5). -/

namespace Sys2Proof.Machine

/-! ### Expiries -/

/-- RELEASE_EXPIRY (R130, R133): entries have become due; they are judged, and the expiry goes on to the next
release time ahead of LT. -/
def execReleaseExpiry (lane : LaneId) (s : State) : Result :=
  .next <|
    match (s.lane lane).releaseExpiry with
    | none => s
    | some t =>
      if t ≤ s.lt then
        (s.setLane lane
          { s.lane lane with releaseExpiry := earliestFrom (s.lt + 1) (s.lane lane).hold }).judgeWaits lane
      else s

/-- Whether the placement expiry of a pending trigger for the book has been reached (R139). -/
def PendingTrigger.expiryReached (lt : Nat) (b : BookId) (p : PendingTrigger) : Bool :=
  p.book == b &&
    match p.expiry with
    | none => false
    | some t => t ≤ lt

/-- PLACEMENT_EXPIRY (R139, R140): the expiry is taken, and a placement test is made. -/
def execPlacementExpiry (lane : LaneId) (book : BookId) (s : State) : Result :=
  .next <|
    if (s.lane lane).pendingTriggers.any (PendingTrigger.expiryReached s.lt book) then
      (s.setLane lane
        { s.lane lane with
          pendingTriggers := (s.lane lane).pendingTriggers.map fun p =>
            if p.book = book then { p with expiry := none } else p }).placementTest lane
    else s

/-! ### The engine egress arbiter (R144, R145) -/

/-- The completed reply at the head of a reply queue (R185). -/
def LaneUnit.replyCandidate (u : LaneUnit) : Option (Nat × Nat × Status × Bytes) :=
  match u.replies with
  | [] => none
  | r :: _ =>
    match r.body with
    | .completed status content => some (r.id, r.kind, status, content)
    | .deferred _ _ => none

/-- Whether this lane's arbiter has an export candidate (R144, R161). -/
def State.exportCandidate (s : State) (l : LaneId) : Bool := s.journal.exportLane == l && s.journal.exportReady

/-- What the engine egress arbiter chooses (R144). -/
inductive EngineChoice where
  | nothing
  | release (earlier : List HoldEntry) (entry : HoldEntry) (later : List HoldEntry)
  | reply (bytes : Bytes)
  | exportFrame
  deriving DecidableEq, Repr

/-- The choice among replies and exports alone: replies come first (R144). -/
def State.secondChoice (s : State) (l : LaneId) : EngineChoice :=
  match (s.lane l).replyCandidate with
  | some (id, kind, status, content) => .reply (Reply.bytes id kind status content)
  | none => if s.exportCandidate l then .exportFrame else .nothing

/-- Whether a reply or an export frame is present (R145). -/
def State.othersPresent (s : State) (l : LaneId) : Bool :=
  (s.lane l).replyCandidate.isSome || s.exportCandidate l

/-- The choice by R144 and R145: a hold-list release first, unless the wait count is 8 and another waits. -/
def State.engineChoice (s : State) (l : LaneId) : EngineChoice :=
  match s.releaseCandidate l with
  | none => s.secondChoice l
  | some (earlier, e, later) =>
    if (s.lane l).engineWait = Config.engineWaitMax ∧ s.othersPresent l then s.secondChoice l
    else .release earlier e later

/-- The wait count after a release was chosen (R145). -/
def State.waitAfterRelease (s : State) (l : LaneId) : Nat :=
  if s.othersPresent l then saturatingSucc Config.engineWaitMax (s.lane l).engineWait else (s.lane l).engineWait

/-- What the removal of an entry leaves in its lane: the list, the release expiry, the wait count, the frame sent
(R130, R137, R138, R145). -/
def State.depart (s : State) (l : LaneId) (earlier later : List HoldEntry) (credits : Nat) (sent : Sending) : State :=
  let hold := earlier ++ later
  s.setLane l
    { s.lane l with
      hold := hold
      credits := credits
      releaseExpiry := expiryAfterDeparture (s.lane l).releaseExpiry hold
      engineWait := s.waitAfterRelease l
      bTx := some sent }

/-- The residence of a released frame: present for an entry frame, which has a class (R137). -/
def residenceOf (lt : Nat) (f : HeldFrame) : Option Nat := f.cls.map fun _ => lt - f.captured

/-- The release of a FRAME entry: it is sent from its slot, which is held until the transmission ends (R135, R137). -/
def State.releaseFrame (s : State) (l : LaneId) (earlier : List HoldEntry) (f : HeldFrame) (later : List HoldEntry) :
    State :=
  ((s.depart l earlier later ((s.lane l).credits - 1) ⟨f.frame, some f.slot⟩).raise
    { kind := .frameReleased, lane := some l, cls := f.cls, book := f.book, residence := residenceOf s.lt f }).judgeWaits l

/-- The release of a TRIGGER entry (R115, R138). -/
def State.releaseTrigger (s : State) (l : LaneId) (earlier : List HoldEntry) (b : BookId) (endInstant : Nat)
    (later : List HoldEntry) : State :=
  let departed :=
    s.depart l earlier later (s.lane l).credits ⟨ownFrame (bPort l) (triggerPayload b endInstant l), none⟩
  ((departed.setBook b ((s.book b).setTrigger l .released)).offer
    (.book { book := b, event := .triggerReleased, lane := some l })).judgeWaits l

/-- The release arbiter takes an entry; a drain may end with it (R44, R136 to R138). -/
def State.releaseEntry (s : State) (l : LaneId) (earlier : List HoldEntry) (e : HoldEntry) (later : List HoldEntry) :
    State :=
  (match e.body with
    | .frame f => s.releaseFrame l earlier f later
    | .trigger b endInstant => s.releaseTrigger l earlier b endInstant later).endDrain l

/-- The reply queue head leaves (R145, R185). -/
def State.sendReply (s : State) (l : LaneId) (bytes : Bytes) : State :=
  s.setLane l
    { s.lane l with
      replies := (s.lane l).replies.tail
      engineWait := 0
      bTx := some ⟨ownFrame (bPort l) bytes, none⟩ }

/-- An export frame leaves (R145, R163, R168). -/
def State.sendExport (s : State) (l : LaneId) : State :=
  let batch := s.journal.exportBatch
  { s with journal := s.journal.afterExport s.lt }.setLane l
    { s.lane l with
      engineWait := 0
      bTx := some ⟨ownFrame (bPort l) (exportPayload batch.1 batch.2), none⟩ }

/-- ENGINE_EGRESS_CHOICE (R144, R145): nothing is chosen while the B link is DOWN. -/
def execEngineEgressChoice (lane : LaneId) (s : State) : Result :=
  .next <|
    match (s.lane lane).bLink with
    | .down => s
    | .up =>
      match s.engineChoice lane with
      | .nothing => s.setLane lane { s.lane lane with bTx := none }
      | .release earlier e later => s.releaseEntry lane earlier e later
      | .reply bytes => s.sendReply lane bytes
      | .exportFrame => s.sendExport lane

/-! ### The gateway egress arbiter (R147) -/

/-- What the gateway egress arbiter chooses (R147). -/
inductive GatewayChoice where
  | nothing
  | probe
  | report (frame : Bytes) (rest : List Bytes)
  | notice (n : Notice) (rest : List Notice)
  deriving DecidableEq, Repr

/-- The notice queue head, or nothing. -/
def LaneUnit.noticeChoice (u : LaneUnit) : GatewayChoice :=
  match u.notices with
  | [] => .nothing
  | n :: rest => .notice n rest

/-- Whether the notice goes ahead of the report head (R147). -/
def LaneUnit.noticeFirst (u : LaneUnit) : Bool :=
  u.noticeShare == Config.noticeShareMax && !u.notices.isEmpty && decide (u.reports.length < Config.reportPressure)

/-- The choice: a queued probe, the report head, the notice head, with the notice share (R147). -/
def LaneUnit.gatewayChoice (u : LaneUnit) : GatewayChoice :=
  if u.probe = .queued then .probe
  else if u.noticeFirst then u.noticeChoice
  else match u.reports with
    | f :: rest => .report f rest
    | [] => u.noticeChoice

/-- The notice-share count after a report was chosen (R147). -/
def LaneUnit.shareAfterReport (u : LaneUnit) : Nat :=
  if u.notices.isEmpty then u.noticeShare else saturatingSucc Config.noticeShareMax u.noticeShare

/-- The probe leaves: T1 is captured, the timeout starts with it, and the record is offered (R62). -/
def State.startProbe (s : State) (l : LaneId) : State :=
  (s.setLane l
    { s.lane l with
      probe := .outstanding s.lt
      aTx := some (ownFrame (aPort l) (probePayload (s.lane l).lastProbeId)) }).offerLane l .probeStarted

/-- GATEWAY_EGRESS_CHOICE (R147): nothing is chosen while the A link is DOWN. -/
def execGatewayEgressChoice (lane : LaneId) (s : State) : Result :=
  .next <|
    let u := s.lane lane
    match u.aLink with
    | .down => s
    | .up =>
      match u.gatewayChoice with
      | .nothing => s.setLane lane { u with aTx := none }
      | .probe => s.startProbe lane
      | .report f rest =>
        s.setLane lane { u with reports := rest, noticeShare := u.shareAfterReport, aTx := some f }
      | .notice n rest =>
        s.setLane lane
          { u with notices := rest, noticeShare := 0, aTx := some (ownFrame (aPort lane) n.payload) }

end Sys2Proof.Machine
end

