-- ==== Sys2Proof/Machine/BookEvents.lean ====
section
/-! DEFINITION. The boundary expiries of a book and its uncross timeout (R99 to R103, R117). -/

namespace Sys2Proof.Machine

/-- TC_EXPIRY (R100): a book in ARMED whose Tc LT has reached enters CALL, with the boundaries due behind (R99). -/
def execTcExpiry (book : BookId) (s : State) : Result := .next <| s.takeExpiry .armed book

/-- TW_EXPIRY (R101, R106): a book in CALL whose Tw LT has reached draws and enters WINDOW. -/
def execTwExpiry (book : BookId) (s : State) : Result := .next <| s.takeExpiry .call book

/-- E_EXPIRY (R102): a book in WINDOW whose E LT has reached enters FREEZE. -/
def execEExpiry (book : BookId) (s : State) : Result := .next <| s.takeExpiry .window book

/-- UNCROSS_EXPIRY (R103): a book in FREEZE whose E + D LT has reached enters UNCROSS. -/
def execUncrossExpiry (book : BookId) (s : State) : Result := .next <| s.takeExpiry .freeze book

/-- Whether LT has reached the uncross expiry instant of a book in UNCROSS (R99, R117). -/
def Book.timeoutReached (lt : Nat) (b : Book) : Bool :=
  b.phase == .uncross &&
    match b.uncrossAt with
    | none => false
    | some t => t ≤ lt

/-- UNCROSS_TIMEOUT (R117): the book enters CLOSED with no result stored. -/
def execUncrossTimeout (book : BookId) (s : State) : Result :=
  .next <|
    if (s.book book).timeoutReached s.lt then
      (s.setBook book { s.book book with phase := .closed, uncrossAt := none }).offer
        (.book { book, event := .unconfirmed })
    else s

end Sys2Proof.Machine
end

