-- ==== Sys2Proof/Machine/Timers.lean ====
section
/-! DEFINITION. The flush expiry of the exporter (R162) and the snapshot expiry of the Evidence Unit (R179). -/

namespace Sys2Proof.Machine

/-- FLUSH_EXPIRY (R162): the exporter notes that the flush is due. -/
def execFlushExpiry (s : State) : Result :=
  .next <|
    match s.journal.flushExpiry with
    | none => s
    | some t =>
      if t ≤ s.lt then { s with journal := { s.journal with flushExpiry := none, flushDue := true } } else s

/-- SNAPSHOT_EXPIRY (R179, R180): the snapshot is offered and the expiry goes on. -/
def execSnapshotExpiry (s : State) : Result :=
  .next <|
    match s.evidence.snapshotExpiry with
    | none => s
    | some t => if t ≤ s.lt then s.takeSnapshot else s

end Sys2Proof.Machine
end

