-- ==== Sys2Proof/Machine/TableWrites.lean ====
section
/-! DEFINITION. The TABLE_WRITE rows and TABLE_READ (R13, R41, R60, R68, R69, R85 to R90, R92, R93, R151, R164, R178,
R179, R189 to R192, R203, R207). An accepted write changes its table, offers the TABLE record before every record the
write causes (R151), and is answered with the content as it stands after the write (R189). -/

namespace Sys2Proof.Machine

/-- Offer the TABLE record of an accepted write (R92). -/
def State.offerTable (s : State) (t : TableId) (index : Nat) (content : Bytes) : State :=
  s.offer (.table t index content)

/-- The content of the reply to a table request (R205). -/
def tableReply (t : TableId) (index : Nat) (content : Bytes) : Bytes := uField 1 t.code ++ uField 1 index ++ content

/-! ### MATCH (R85 to R87) -/

/-- The class table's classes, all sixteen. -/
def allClasses : List ClassId := List.finRange 16

/-- Whether an entry is a member of a set of a class whose book is auction-active (R87). -/
def State.entryInAuction (s : State) (n : EntryId) : Bool :=
  allClasses.any fun c =>
    ((s.classTable[c.val]).anyOf.has n || (s.classTable[c.val]).allOf.has n) && s.bookAuction (s.classTable[c.val]).book

/-- The entry a MATCH write carries; absent when a code is not listed or a bit stands above the selector's width
(R76, R85, R203). -/
def matchContent (p : Bytes) : Option MatchEntry :=
  match selectorOf (field p 5 1), onOffOf (field p 14 1) with
  | some selector, some enabled =>
    if field p 6 4 < 2 ^ selector.width ∧ field p 10 4 < 2 ^ selector.width then
      some ⟨selector, BitVec.ofNat 32 (field p 6 4), BitVec.ofNat 32 (field p 10 4), enabled⟩
    else none
  | _, _ => none

/-- The lock of R86: the entry is enabled and the written selector, value or mask differs. -/
def MatchEntry.patternLocked (e : MatchEntry) (p : Bytes) : Bool :=
  e.enabled && (field p 5 1 != e.selector.code || field p 6 4 != e.value.toNat || field p 10 4 != e.mask.toNat)

/-- Whether the written enabled code changes the enabled field (R87). -/
def MatchEntry.enabledChanges (e : MatchEntry) (p : Bytes) : Bool :=
  match onOffOf (field p 14 1) with
  | none => false
  | some on => on != e.enabled

/-- The judgement of a MATCH write (R85). -/
def serveMatch (_ : LaneId) (p : Bytes) (s : State) : Answer :=
  if (reqTable p).isNone then refuseWith .badValue s
  else match entryOf (reqIndex p) with
    | none => refuseWith .badIndex s
    | some n =>
      let e := s.matchTable[n.val]
      if e.patternLocked p || (e.enabledChanges p && s.entryInAuction n) then refuseWith .locked s
      else match matchContent p with
        | none => refuseWith .badValue s
        | some written =>
          okWith (tableReply .matchTable n.val written.content)
            ({ s with matchTable := s.matchTable.set n.val written }.offerTable .matchTable n.val written.content)

/-- TABLE_WRITE_MATCH (R85). A write whose table code is not listed stands with this row and is refused BAD_VALUE
(R189, log 4). -/
def execTableWriteMatch (s : State) : Result := .next <| s.takeRequest .tableWriteMatch serveMatch

/-! ### CLASS (R88, R89) -/

/-- The book a CLASS write carries: absent when the presence byte or the number is out of its values, else the
optional book (R88, R200). A write with another presence byte carries no book, whatever its book byte names, so the lock
of R89 does not see that book (DEDUCED, log 39). -/
def classBook (p : Bytes) : Option (Option BookId) :=
  if field p 13 1 = 0 then some none
  else if field p 13 1 = 1 then (bookOf (field p 14 1)).map some
  else none

/-- The record a CLASS write carries; absent when a field carries a code outside its values (R88). -/
def classContent (p : Bytes) : Option ClassRecord :=
  match classBook p, stampFormatOf (field p 15 1), admissionOf (field p 17 1), lateActionOf (field p 18 1) with
  | some book, some format, some admission, some late =>
    if field p 16 1 ≤ 7 then
      some ⟨BitVec.ofNat 32 (field p 5 4), BitVec.ofNat 32 (field p 9 4), book, format, field p 16 1, admission, late⟩
    else none
  | _, _, _, _ => none

/-- The judgement of a CLASS write (R88, R89). -/
def serveClass (_ : LaneId) (p : Bytes) (s : State) : Answer :=
  match classOf (reqIndex p) with
  | none => refuseWith .badIndex s
  | some c =>
    if s.bookAuction (s.classTable[c.val]).book || s.bookAuction ((classBook p).getD none) then refuseWith .locked s
    else match classContent p with
      | none => refuseWith .badValue s
      | some written =>
        okWith (tableReply .classTable c.val written.content)
          ({ s with classTable := s.classTable.set c.val written }.offerTable .classTable c.val written.content)

/-- TABLE_WRITE_CLASS (R88). -/
def execTableWriteClass (s : State) : Result := .next <| s.takeRequest .tableWriteClass serveClass

/-! ### LANE (R68, R69, R191) -/

/-- An optional field of a request: its value bytes, if the presence byte is 1 (R200). -/
def optRead (p : Bytes) (offset width : Nat) : Option Nat :=
  if field p offset 1 = 1 then some (field p (offset + 1) width) else none

/-- The four fields of a LANE write (R207). -/
structure LaneWrite where
  c : Option Nat
  u : Option Nat
  allowance : Option Nat
  permission : Option Nat
  deriving DecidableEq, Repr

/-- The fields a LANE write carries (R207). -/
def laneWriteOf (p : Bytes) : LaneWrite := ⟨optRead p 5 2, optRead p 8 2, optRead p 11 1, optRead p 13 1⟩

/-- Case 2 of R191: no field present, or a presence byte other than 0 or 1. -/
def laneWriteEmpty (p : Bytes) : Bool :=
  let presence := [field p 5 1, field p 8 1, field p 11 1, field p 13 1]
  presence.any (fun b => 1 < b) || presence.all fun b => b == 0

/-- Whether C_lane, U_lane or A is present (R68, R191). -/
def LaneWrite.calibrates (w : LaneWrite) : Bool := w.c.isSome || w.u.isSome || w.allowance.isSome

/-- Case 4 of R191: a present field outside its range, or a permission code other than on or off. -/
def LaneWrite.outOfRange (w : LaneWrite) : Bool :=
  w.c.any (fun v => Config.compMax < v) || w.u.any (fun v => Config.compMax < v)
    || w.allowance.any (fun v => Config.allowanceMax < v) || w.permission.any fun v => 1 < v

/-- Whether another lane has permission on (R70, R191). -/
def State.otherPermission (s : State) (l : LaneId) : Bool :=
  allLanes.any fun k => k != l && (s.lane k).permission

/-- The lane after an accepted write, before the installation: the written values are pending (R69, R191). -/
def LaneUnit.written (u : LaneUnit) (w : LaneWrite) : LaneUnit :=
  { u with
    allowance := w.allowance.getD u.allowance
    permission := (w.permission.map fun v => v == 1).getD u.permission
    pendingC := w.c.or u.pendingC
    pendingU := w.u.or u.pendingU }

/-- The lane as it stands after the write with its installation, if it is installed at once (R69). -/
def LaneUnit.settled (u : LaneUnit) : LaneUnit :=
  if u.compPending && u.rx.isNone && u.probe == .none then
    { u with cLane := u.pendingC.getD u.cLane, uLane := u.pendingU.getD u.uLane, pendingC := none, pendingU := none }
  else u

/-- The judgement of a LANE write (R191). -/
def serveLaneWrite (_ : LaneId) (p : Bytes) (s : State) : Answer :=
  match laneOf (reqIndex p) with
  | none => refuseWith .badIndex s
  | some l =>
    let w := laneWriteOf p
    if laneWriteEmpty p then refuseWith .badValue s
    else if w.calibrates && s.laneAuction l then refuseWith .locked s
    else if w.outOfRange then refuseWith .badValue s
    else if w.permission = some 0 ∧ !s.otherPermission l then refuseWith .refusedState s
    else
      let u := (s.lane l).written w
      okWith (tableReply .lane l.val u.settled.tableContent)
        (((s.setLane l u).offerTable .lane l.val u.settled.tableContent).installPending l)

/-- TABLE_WRITE_LANE (R68, R69, R191). -/
def execTableWriteLane (s : State) : Result := .next <| s.takeRequest .tableWriteLane serveLaneWrite

/-! ### STAMPING (R41, R60, R90, R189) -/

/-- The first tests of a STAMPING write, in order: the index (R189), the setting lock (R90), the setting code (R189);
then `judge` (R41, R60, R90). -/
def stampingTests (known : Bool) (judge : State → Answer) (p : Bytes) (s : State) : Answer :=
  if reqIndex p ≠ 0 then refuseWith .badIndex s
  else if s.auctionActive then refuseWith .locked s
  else if !known then refuseWith .badValue s
  else judge s

/-- An accepted STAMPING write (R92): the settings, and the TABLE record with all five. -/
def acceptStamping (t : Stamping) (s : State) : State :=
  { s with stamping := t }.offerTable .stamping 0 t.content

/-- The reply content of an accepted STAMPING write. -/
def stampingReply (t : Stamping) : Bytes := tableReply .stamping 0 t.content

/-- The judgement of a value in a closed range (R41, R60, R90). -/
def stampingRange (low high value : Nat) (t : Stamping) (after : State → State) (s : State) : Answer :=
  if low ≤ value ∧ value ≤ high then okWith (stampingReply t) (after (acceptStamping t s)) else refuseWith .badValue s

/-- A write of H: the clock grade is judged with the new value (R36, R41). U_clock moves only at evaluations, growth
expiries, releases and writes of H, so a write of the value held judges what was last judged. An unlisted setting code
stands with this row (log 4). -/
def serveH (_ : LaneId) (p : Bytes) (s : State) : Answer :=
  let v := settingValue p
  stampingTests (settingCode p == 2) (stampingRange 1 50000 v { s.stamping with h := v } State.judgeGrade) p s

/-- TABLE_WRITE_H (R41). -/
def execTableWriteH (s : State) : Result := .next <| s.takeRequest .tableWriteH serveH

/-- A write of L: the clock grade is judged with the new value (R36, R41); the value held judges what was last judged. -/
def serveL (_ : LaneId) (p : Bytes) (s : State) : Answer :=
  let v := settingValue p
  stampingTests true (stampingRange 1000 10000000 v { s.stamping with l := v } State.judgeGrade) p s

/-- TABLE_WRITE_L (R41). -/
def execTableWriteL (s : State) : Result := .next <| s.takeRequest .tableWriteL serveL

/-- A write of the day origin: any value below 2⁴⁸ (R60). -/
def serveDayOrigin (_ : LaneId) (p : Bytes) (s : State) : Answer :=
  let v := settingValue p
  stampingTests true (stampingRange 0 (2 ^ 48 - 1) v { s.stamping with dayOrigin := v } id) p s

/-- TABLE_WRITE_DAY_ORIGIN (R60). -/
def execTableWriteDayOrigin (s : State) : Result := .next <| s.takeRequest .tableWriteDayOrigin serveDayOrigin

/-- A write of the entry frame type: any 16-bit value but the control type (R60). -/
def serveEntryFrameType (_ : LaneId) (p : Bytes) (s : State) : Answer :=
  let v := settingValue p
  stampingTests true
    (fun t =>
      if v = Config.controlType then refuseWith .badValue t
      else stampingRange 0 0xFFFF v { s.stamping with entryType := v } id t) p s

/-- TABLE_WRITE_ENTRY_FRAME_TYPE (R60). -/
def execTableWriteEntryFrameType (s : State) : Result :=
  .next <| s.takeRequest .tableWriteEntryFrameType serveEntryFrameType

/-- A write of the delay quantum q (R90). -/
def serveQ (_ : LaneId) (p : Bytes) (s : State) : Answer :=
  let v := settingValue p
  stampingTests true (stampingRange 100 100000 v { s.stamping with q := v } id) p s

/-- TABLE_WRITE_Q (R90). -/
def execTableWriteQ (s : State) : Result := .next <| s.takeRequest .tableWriteQ serveQ

/-! ### CLOCK (R13, R23, R190) -/

/-- A value limited to a range (R190). -/
def clampRange (low high v : Nat) : Nat := max low (min v high)

/-- The numeric clock setting of a code with its range (R23, R203). -/
def clockRange : Nat → Option (Nat × Nat)
  | 1 => some (0, 7) | 2 => some (0, 7) | 3 => some (50, 100000) | 4 => some (1, 15) | 5 => some (1000, 10000000)
  | 6 => some (100, 100000000) | 7 => some (10, 500) | 8 => some (1, 15) | _ => none

/-- The settings with the setting of a code written (R23). -/
def ClockSettings.write (c : ClockSettings) (code v : Nat) : ClockSettings :=
  match code with
  | 1 => { c with gi := v }
  | 2 => { c with gp := v }
  | 3 => { c with tLock := v }
  | 4 => { c with k := v }
  | 5 => { c with s := v }
  | 6 => { c with wc := v }
  | 7 => { c with guardMs := v }
  | 8 => { c with m := v }
  | _ => c

/-- The reply content of an accepted CLOCK write. -/
def State.clockReply (s : State) : Bytes := tableReply .clock 0 s.clockContent

/-- A write of a numeric clock setting: clamped to its range (R190). An unlisted setting code stands with this row
and is refused BAD_VALUE (R189, log 4). -/
def serveClockSetting (_ : LaneId) (p : Bytes) (s : State) : Answer :=
  if reqIndex p ≠ 0 then refuseWith .badIndex s
  else match clockRange (settingCode p) with
    | none => refuseWith .badValue s
    | some (low, high) =>
      let v := clampRange low high (settingValue p)
      let set : State := { s with clock := s.clock.write (settingCode p) v }
      (set.offerTable .clock 0 set.clockContent,
        .completed (if v = settingValue p then .ok else .okClamped) set.clockReply)

/-- TABLE_WRITE_CLOCK_SETTING (R190). -/
def execTableWriteClockSetting (s : State) : Result := .next <| s.takeRequest .tableWriteClockSetting serveClockSetting

/-- The on/off value of a settings write: absent when it is neither (R190, R207). -/
def onOffValue (p : Bytes) : Option Bool := onOffOf (settingValue p)

/-- A write of auto-switch (R190). -/
def serveAutoSwitch (_ : LaneId) (p : Bytes) (s : State) : Answer :=
  if reqIndex p ≠ 0 then refuseWith .badIndex s
  else match onOffValue p with
    | none => refuseWith .badValue s
    | some on =>
      let set : State := { s with discipline := { s.discipline with autoSwitch := on } }
      okWith set.clockReply (set.offerTable .clock 0 set.clockContent)

/-- TABLE_WRITE_AUTO_SWITCH (R190). -/
def execTableWriteAutoSwitch (s : State) : Result := .next <| s.takeRequest .tableWriteAutoSwitch serveAutoSwitch

/-- The monitor after its reference was enabled or disabled at the write (R13). -/
def State.enabledMonitor (s : State) (ref : RefLine) (on : Bool) : Monitor :=
  let m := s.monitor ref
  if on = m.enabled then m
  else if on then { m with refState := .listening, missing := 0, good := 0, unit := s.idleUnit }
  else { m with refState := .disabled, unit := .idle none }

/-- The records and the loss that a changed reference enable causes, after its TABLE record (R13, R19, R28, R151). The
REFERENCE_DISABLED record carries the discipline state and r before the loss is acted on (DEDUCED, log 33). -/
def State.afterEnable (s : State) (ref : RefLine) (on changed : Bool) : State :=
  if !changed then s
  else if on then s.offerClock .referenceListening ref
  else
    let recorded := s.offerClock .referenceDisabled ref
    if ref = s.discipline.selected then recorded.lossOfSelected else recorded

/-- A write of a reference enable (R13, R190). -/
def serveReferenceEnable (_ : LaneId) (p : Bytes) (s : State) : Answer :=
  if reqIndex p ≠ 0 then refuseWith .badIndex s
  else match onOffValue p with
    | none => refuseWith .badValue s
    | some on =>
      let ref : RefLine := if settingCode p = 10 then .a else .b
      let set := s.setMonitor ref (s.enabledMonitor ref on)
      okWith set.clockReply
        ((set.offerTable .clock 0 set.clockContent).afterEnable ref on (on != (s.monitor ref).enabled))

/-- TABLE_WRITE_REFERENCE_ENABLE (R13, R190). -/
def execTableWriteReferenceEnable (s : State) : Result :=
  .next <| s.takeRequest .tableWriteReferenceEnable serveReferenceEnable

/-! ### JOURNAL (R164) -/

/-- An accepted JOURNAL write with its record; the reply carries both settings (R164). -/
def acceptJournal (j : Journal) (s : State) : Answer :=
  okWith (tableReply .journal 0 j.settingsContent) ({ s with journal := j }.offerTable .journal 0 j.settingsContent)

/-- A write of the export lane (R164). An unlisted setting code stands with this row (R189, log 4). -/
def serveExportLane (_ : LaneId) (p : Bytes) (s : State) : Answer :=
  if reqIndex p ≠ 0 then refuseWith .badIndex s
  else if settingCode p ≠ 1 then refuseWith .badValue s
  else match laneOf (settingValue p) with
    | none => refuseWith .badValue s
    | some l => acceptJournal { s.journal with exportLane := l } s

/-- TABLE_WRITE_EXPORT_LANE (R164). -/
def execTableWriteExportLane (s : State) : Result := .next <| s.takeRequest .tableWriteExportLane serveExportLane

/-- A write of the flush interval: the flush expiry is set again (R162, R164). -/
def serveFlushInterval (_ : LaneId) (p : Bytes) (s : State) : Answer :=
  let v := settingValue p
  if reqIndex p ≠ 0 then refuseWith .badIndex s
  else if 1 ≤ v ∧ v ≤ 1000 then acceptJournal ({ s.journal with flushInterval := v }.setFlush s.lt) s
  else refuseWith .badValue s

/-- TABLE_WRITE_FLUSH_INTERVAL (R164). -/
def execTableWriteFlushInterval (s : State) : Result := .next <| s.takeRequest .tableWriteFlushInterval serveFlushInterval

/-! ### COUNTER (R178, R179) -/

/-- A lane filter byte: 0xFF is ANY, else a non-empty set of lanes (R207). -/
def laneFilterOf (b : Nat) : Option (Option LaneSet) :=
  if b = 0xFF then some none else if 1 ≤ b ∧ b ≤ 15 then some (some (BitVec.ofNat 4 b)) else none

/-- A class filter byte (R207). -/
def classFilterOf (b : Nat) : Option (Option ClassId) := if b = 0xFF then some none else (classOf b).map some

/-- A book filter byte (R207). -/
def bookFilterOf (b : Nat) : Option (Option BookId) := if b = 0xFF then some none else (bookOf b).map some

/-- The counter a write gives: the whole setting, value 0 (R178). -/
def counterOf (p : Bytes) : Option Counter :=
  match evidenceKindOf (field p 5 1), laneFilterOf (field p 6 1), classFilterOf (field p 7 1), bookFilterOf (field p 8 1) with
  | some kind, some lanes, some cls, some book => some ⟨0, kind, lanes, cls, book⟩
  | _, _, _, _ => none

/-- The monitor a write gives: the whole setting, all values 0 (R178). -/
def residenceMonitorOf (p : Bytes) : Option ResidenceMonitor :=
  match laneFilterOf (field p 6 1), classFilterOf (field p 7 1) with
  | some lanes, some cls => some ⟨lanes, cls, ⟨0, 0, 0⟩⟩
  | _, _ => none

/-- The Evidence Unit after the write of an item 0 to 9; absent when a value is outside its range (R178). -/
def Evidence.writeItem (u : Evidence) (p : Bytes) : Option Evidence :=
  if reqIndex p < 8 then (counterOf p).map fun c => { u with counters := u.counters.setIfInBounds (reqIndex p) c }
  else (residenceMonitorOf p).map fun m => { u with monitors := u.monitors.setIfInBounds (reqIndex p - 8) m }

/-- A write of a counter or a residence monitor (R178). -/
def serveCounter (_ : LaneId) (p : Bytes) (s : State) : Answer :=
  if 10 < reqIndex p then refuseWith .badIndex s
  else match s.evidence.writeItem p with
    | none => refuseWith .badValue s
    | some u =>
      okWith (tableReply .counter (reqIndex p) (u.itemContent (reqIndex p)))
        ({ s with evidence := u }.offerTable .counter (reqIndex p) (u.itemContent (reqIndex p)))

/-- TABLE_WRITE_COUNTER (R178). -/
def execTableWriteCounter (s : State) : Result := .next <| s.takeRequest .tableWriteCounter serveCounter

/-- The Evidence Unit after a write of P: the snapshot expiry is set or cancelled (R179). -/
def Evidence.writePeriod (u : Evidence) (lt v : Nat) : Evidence :=
  { u with period := v, snapshotExpiry := if v = 0 then none else some (nextSnapshot v lt) }

/-- A write of the snapshot period P (R178, R179). -/
def serveSnapshotPeriod (_ : LaneId) (p : Bytes) (s : State) : Answer :=
  if 3600 < field p 5 2 then refuseWith .badValue s
  else
    let u := s.evidence.writePeriod s.lt (field p 5 2)
    okWith (tableReply .counter 10 (u.itemContent 10)) ({ s with evidence := u }.offerTable .counter 10 (u.itemContent 10))

/-- TABLE_WRITE_SNAPSHOT_PERIOD (R179). -/
def execTableWriteSnapshotPeriod (s : State) : Result :=
  .next <| s.takeRequest .tableWriteSnapshotPeriod serveSnapshotPeriod

/-! ### TABLE_READ (R93, R192) -/

/-- The content of an item as it stands; absent when the index is outside the table's range (R192). -/
def State.tableItem (s : State) (t : TableId) (index : Nat) : Option Bytes :=
  match t with
  | .matchTable => (entryOf index).map fun n => (s.matchTable[n.val]).content
  | .classTable => (classOf index).map fun c => (s.classTable[c.val]).content
  | .lane => (laneOf index).map fun l => (s.lane l).tableContent
  | .stamping => if index = 0 then some s.stamping.content else none
  | .clock => if index = 0 then some s.clockContent else none
  | .journal => if index = 0 then some s.journal.settingsContent else none
  | .counter => if index ≤ 10 then some (s.evidence.itemContent index) else none

/-- The answer to a TABLE_READ (R93, R189, R192): no record, no lock. -/
def serveTableRead (_ : LaneId) (p : Bytes) (s : State) : Answer :=
  match reqTable p with
  | none => refuseWith .badValue s
  | some t =>
    match s.tableItem t (reqIndex p) with
    | none => refuseWith .badIndex s
    | some content => okWith (tableReply t (reqIndex p) content) s

/-- TABLE_READ (R192). -/
def execTableRead (s : State) : Result := .next <| s.takeRequest .tableRead serveTableRead

end Sys2Proof.Machine
end

