-- ==== Sys2Proof/Machine/BookRequests.lean ====
section
/-! DEFINITION. The requests that act on books and on the End Generator (R97, R98, R108, R112, R113, R119, R193). -/

namespace Sys2Proof.Machine

/-! ### BOOK_ARM (R97, R98) -/

/-- A time as an arming gives it: seconds and milliseconds (R94). -/
def armTime (seconds millis : Nat) : Nat := seconds * Config.second + millis * Config.milli

/-- Case 5 of R97: a field out of range. -/
def armFieldsBad (p : Bytes) : Bool :=
  let lanes := field p 30 1
  decide (999 < field p 10 2) || decide (999 < field p 18 2) || decide (600000 < field p 20 4)
    || decide (10000 < field p 24 2) || decide (field p 26 4 < 100) || decide (120000 < field p 26 4)
    || lanes == 0 || decide (15 < lanes)

/-- The fields an arming sets, extension total 0 (R98, R205). -/
def armingOf (p : Bytes) : Arming where
  tc := armTime (field p 4 6) (field p 10 2)
  tw := armTime (field p 12 6) (field p 18 2)
  w := field p 20 4
  d := field p 24 2
  timeoutMs := field p 26 4
  lanes := BitVec.ofNat 4 (field p 30 1)
  extension := 0

/-- The BOOK record of an accepted arming, with the arming content (R98, R120). -/
def armRecord (b : BookId) (event : BookEvent) (a : Arming) : BookRecord where
  book := b
  event := event
  tc := some a.tc
  tw := some a.tw
  w := some a.w
  d := some a.d
  timeoutMs := some a.timeoutMs
  lanes := some a.lanes

/-- An accepted arming: ARMED when Tc is later than LT, else CALL (R98). -/
def State.arm (s : State) (b : BookId) (a : Arming) : Answer :=
  let phase : Phase := if s.lt < a.tc then .armed else .call
  let event : BookEvent := if s.lt < a.tc then .armed else .lateArm
  okWith (uField 1 phase.code)
    ((s.setBook b { Book.idle with phase, arming := some a }).offer (.book (armRecord b event a)))

/-- Cases 3 to 7 of R97, for a book in IDLE or CLOSED. -/
def State.judgeArm (s : State) (b : BookId) (p : Bytes) : Answer :=
  let a := armingOf p
  if (s.book b).phase = .closed ∧ (s.book b).triggerWaiting then refuseWith .busy s
  else if !s.discipline.state.traceable then refuseWith .notTraceable s
  else if armFieldsBad p then refuseWith .badValue s
  else if a.tw < a.tc ∨ a.tw ≤ s.lt then refuseWith .badValue s
  else s.arm b a

/-- The judgement of a BOOK_ARM (R97). -/
def serveBookArm (_ : LaneId) (p : Bytes) (s : State) : Answer :=
  match bookOf (field p 3 1) with
  | none => refuseWith .badIndex s
  | some b =>
    match (s.book b).phase with
    | .armed => refuseWith .refusedState s
    | .call => refuseWith .refusedState s
    | .window => refuseWith .refusedState s
    | .freeze => refuseWith .refusedState s
    | .uncross => refuseWith .refusedState s
    | .idle => s.judgeArm b p
    | .closed => s.judgeArm b p

/-- BOOK_ARM (R97, R98). -/
def execBookArm (s : State) : Result := .next <| s.takeRequest .bookArm serveBookArm

/-! ### BOOK_DISARM (R119) -/

/-- An accepted disarm: the book enters IDLE with every field absent (R119). -/
def State.disarm (s : State) (b : BookId) : Answer :=
  okWith (uField 1 (s.book b).phase.code)
    ((s.setBook b Book.idle).offer (.book { book := b, event := .disarmed, phase := some (s.book b).phase }))

/-- The judgement of a BOOK_DISARM (R119). -/
def serveBookDisarm (_ : LaneId) (p : Bytes) (s : State) : Answer :=
  match bookOf (field p 3 1) with
  | none => refuseWith .badIndex s
  | some b =>
    match (s.book b).phase with
    | .armed => s.disarm b
    | .closed => if (s.book b).triggerWaiting then refuseWith .busy s else s.disarm b
    | .idle => refuseWith .refusedState s
    | .call => refuseWith .refusedState s
    | .window => refuseWith .refusedState s
    | .freeze => refuseWith .refusedState s
    | .uncross => refuseWith .refusedState s

/-- BOOK_DISARM (R119). -/
def execBookDisarm (s : State) : Result := .next <| s.takeRequest .bookDisarm serveBookDisarm

/-! ### BOOK_EXTEND (R112, R113) -/

/-- The applied value of an extension (R113). -/
def appliedExtension (ext total : Nat) : Nat := min ext (Config.extensionMax - total)

/-- The status and content of an applied extension's reply (R113, R205). -/
def extendReply (ext applied : Nat) (phase : Phase) : ReplyBody :=
  .completed (if applied = ext then .ok else .okClamped) (uField 4 applied ++ uField 1 phase.code)

/-- An extension in CALL moves Tw (R113). -/
def State.extendCall (s : State) (b : BookId) (a : Arming) (ext : Nat) : Answer :=
  let applied := appliedExtension ext a.extension
  let moved : Arming := { a with tw := a.tw + applied * Config.milli, extension := a.extension + applied }
  ((s.setBook b { s.book b with arming := some moved }).offer
      (.book { book := b, event := .extended, applied := some applied, phase := some .call, tw := some moved.tw }),
    extendReply ext applied .call)

/-- An extension in WINDOW moves E, which stays sealed (R113). -/
def State.extendWindow (s : State) (b : BookId) (a : Arming) (d : Draw) (ext : Nat) : Answer :=
  let applied := appliedExtension ext a.extension
  let moved : Arming := { a with extension := a.extension + applied }
  let drawn : Draw := { d with endInstant := d.endInstant + applied * Config.milli }
  ((s.setBook b { s.book b with arming := some moved, draw := some drawn }).offer
      (.book { book := b, event := .extended, applied := some applied, phase := some .window }),
    extendReply ext applied .window)

/-- The judgement of an extension whose book and ext are good, by phase (R112). In CALL a book holds its arming, in
WINDOW its draw too; a book that does not is in no state a run reaches, and is left as it is. -/
def State.judgeExtend (s : State) (b : BookId) (ext : Nat) : Answer :=
  match (s.book b).phase, (s.book b).arming, (s.book b).draw with
  | .idle, _, _ => refuseWith .refusedState s
  | .armed, _, _ => refuseWith .refusedState s
  | .freeze, _, _ => refuseWith .tooLate s
  | .uncross, _, _ => refuseWith .tooLate s
  | .closed, _, _ => refuseWith .tooLate s
  | .call, some a, _ => s.extendCall b a ext
  | .window, some a, some d => s.extendWindow b a d ext
  | .call, none, _ => refuseWith .refusedState s
  | .window, none, _ => refuseWith .refusedState s
  | .window, some _, none => refuseWith .refusedState s

/-- The judgement of a BOOK_EXTEND (R112). -/
def serveBookExtend (_ : LaneId) (p : Bytes) (s : State) : Answer :=
  match bookOf (field p 3 1) with
  | none => refuseWith .badIndex s
  | some b =>
    if field p 4 4 < 1 ∨ 600000 < field p 4 4 then refuseWith .badValue s else s.judgeExtend b (field p 4 4)

/-- BOOK_EXTEND (R112, R113). -/
def execBookExtend (s : State) : Result := .next <| s.takeRequest .bookExtend serveBookExtend

/-! ### BOOK_SEED (R108) -/

/-- A seed: the generator's state, its flag, the count, and the SEED record (R108). -/
def serveBookSeed (_ : LaneId) (p : Bytes) (s : State) : Answer :=
  let count := bump32 s.bookUnit.seedCount
  okWith (uField 4 count)
    ({ s with
        bookUnit := { s.bookUnit with
          generator := BitVec.ofNat 32 (field p 3 4), unseeded := false, seedCount := count } }.offer (.seed count))

/-- BOOK_SEED (R108). -/
def execBookSeed (s : State) : Result := .next <| s.takeRequest .bookSeed serveBookSeed

end Sys2Proof.Machine
end

