-- ==== Sys2Proof/Machine/ClockCommands.lean ====
section
/-! DEFINITION. The clock commands (R14, R19, R21, R22, R35, R193). -/

namespace Sys2Proof.Machine

/-- The content of the reply to a clock command: discipline state and selected reference after it (R193, R205). -/
def State.clockAnswer (s : State) : Answer :=
  okWith (uField 1 s.discipline.state.code ++ uField 1 (refCode s.discipline.selected)) s

/-- ACQUIRE from FREE or HOLDOVER: the switch of R19 at the command, or the plain entry (R21). -/
def State.enterAcquire (s : State) : State :=
  let canSwitch := s.discipline.autoSwitch && (s.monitor s.discipline.selected).refState.gone
    && (s.monitor s.discipline.selected.other).refState == .healthy
  if canSwitch then s.switchReference
  else
    { s with discipline := { s.discipline with state := .acquire, lockCount := 0 } }.offerClock .state
      s.discipline.selected

/-- The effect of ACQUIRE (R21). -/
def State.commandAcquire (s : State) : State :=
  match s.discipline.state with
  | .free => s.enterAcquire
  | .holdover => s.enterAcquire
  | .acquire => s
  | .locked => s

/-- The judgement of a CLOCK_COMMAND ACQUIRE; a command code that is none of the five stands with this row and is
refused BAD_VALUE (R193, log 4). -/
def serveAcquire (_ : LaneId) (p : Bytes) (s : State) : Answer :=
  if field p 3 1 ≠ 1 then refuseWith .badValue s else s.commandAcquire.clockAnswer

/-- ACQUIRE (R19, R21). -/
def execAcquire (s : State) : Result := .next <| s.takeRequest .acquire serveAcquire

/-- The entry to FREE by RELEASE, with the clearing of the evaluated flag (R21, R35). -/
def State.enterFree (s : State) : State :=
  (({ s with
      discipline := { s.discipline with state := .free, lockCount := 0, stepPending := false }
      uncertainty := { s.uncertainty with
        evaluated := false, uBase := Config.uncertaintyMax, growthExpiry := none } }.rateToFreq).offerClock .state
    s.discipline.selected).judgeGrade

/-- RELEASE (R21). -/
def serveRelease (_ : LaneId) (_ : Bytes) (s : State) : Answer :=
  match s.discipline.state with
  | .free => s.clockAnswer
  | .acquire => s.enterFree.clockAnswer
  | .locked => s.enterFree.clockAnswer
  | .holdover => s.enterFree.clockAnswer

/-- CLOCK_COMMAND RELEASE (R21). -/
def execRelease (s : State) : Result := .next <| s.takeRequest .release serveRelease

/-- The discipline after a change of selection by command (R22). -/
def Discipline.selectNow (d : Discipline) (ref : RefLine) : Discipline :=
  match d.state with
  | .free => { d with selected := ref }
  | .acquire => { d with selected := ref, lockCount := 0 }
  | .locked => { d with selected := ref, lockCount := 0, state := .acquire }
  | .holdover => { d with selected := ref, lockCount := 0, state := .acquire }

/-- SELECT of a reference (R22): the SELECT record, then a STATE record when the state changed. -/
def State.select (s : State) (ref : RefLine) : State :=
  if s.discipline.selected = ref then s
  else
    let chosen := ({ s with discipline := s.discipline.selectNow ref }.rateToFreq).offerClock .select ref
    if s.discipline.state = .locked ∨ s.discipline.state = .holdover then chosen.offerClock .state ref else chosen

/-- SELECT_A (R22). -/
def execSelectA (s : State) : Result :=
  .next <| s.takeRequest .selectA fun _ _ t => (t.select .a).clockAnswer

/-- SELECT_B (R22). -/
def execSelectB (s : State) : Result :=
  .next <| s.takeRequest .selectB fun _ _ t => (t.select .b).clockAnswer

/-- CLEAR_MISSING on one reference (R14): the missing count is 0 in every reference state, DISABLED included (DESIGN
CHOICE, log 31). -/
def State.clearMissingOf (s : State) (ref : RefLine) : State :=
  let m := s.monitor ref
  if m.refState = .lost then
    (s.setMonitor ref { m with missing := 0, refState := .listening }).offerClock .referenceListening ref
  else s.setMonitor ref { m with missing := 0 }

/-- CLEAR_MISSING (R14). Where both references leave LOST, the record of A comes first (DESIGN CHOICE, log 34). -/
def execClearMissing (s : State) : Result :=
  .next <| s.takeRequest .clearMissing fun _ _ t => ((t.clearMissingOf .a).clearMissingOf .b).clockAnswer

end Sys2Proof.Machine
end

