-- ==== Sys2Proof/Machine/LaneCommands.lean ====
section
/-! DEFINITION. The lane commands (R43 to R45, R62, R194). -/

namespace Sys2Proof.Machine

/-- The lane a LANE_COMMAND names, with its first tests: the lane number, then the command code (R194). -/
def onCommandedLane (code : Nat) (p : Bytes) (s : State) (take : LaneId → Answer) : Answer :=
  match laneOf (field p 3 1) with
  | none => refuseWith .badIndex s
  | some l => if field p 4 1 ≠ code then refuseWith .badValue s else take l

/-- A lane command answered OK, with the values installed as it is completed (R205). -/
def State.laneAnswer (s : State) (l : LaneId) (c : LaneCommand) : Answer :=
  okWith ((s.lane l).commandContent l c none none) s

/-- The lane in another state, with the record of the change (R43, R72). -/
def State.enterState (s : State) (l : LaneId) (state : LaneState) (event : LaneEvent) : State :=
  (s.setLane l { s.lane l with state := state }).offerLane l event

/-- The deferred DRAIN reply of a lane sent SUPERSEDED (R43, R74). -/
def State.supersedeDrain (s : State) (l : LaneId) : State := s.completeReply l .drain .superseded []

/-- ENABLE by the lane's state (R43). A command code that is none of the four stands with this row (R194, log 4). -/
def serveEnable (_ : LaneId) (p : Bytes) (s : State) : Answer :=
  onCommandedLane 1 p s fun l =>
    match (s.lane l).state with
    | .disabled => (s.enterState l .active .enabled).laneAnswer l .enable
    | .active => s.laneAnswer l .enable
    | .draining => ((s.enterState l .active .enabled).supersedeDrain l).laneAnswer l .enable
    | .probing _ => refuseWith .busy s

/-- LANE_COMMAND ENABLE (R43). -/
def execEnable (s : State) : Result := .next <| s.takeRequest .enable serveEnable

/-- DRAIN taken in ACTIVE (R44). -/
def State.startDrain (s : State) (l : LaneId) : Answer :=
  if (s.lane l).hold = [] then (s.enterState l .disabled .disabled).laneAnswer l .drain
  else (s.enterState l .draining .drainStarted, .deferred l .drain)

/-- DRAIN by the lane's state (R43, R44). -/
def serveDrain (_ : LaneId) (p : Bytes) (s : State) : Answer :=
  onCommandedLane 2 p s fun l =>
    match (s.lane l).state with
    | .disabled => s.laneAnswer l .drain
    | .active => s.startDrain l
    | .draining => refuseWith .busy s
    | .probing _ => refuseWith .busy s

/-- LANE_COMMAND DRAIN (R43, R44). -/
def execDrain (s : State) : Result := .next <| s.takeRequest .drain serveDrain

/-- DISABLE by the lane's state (R43). -/
def serveDisable (_ : LaneId) (p : Bytes) (s : State) : Answer :=
  onCommandedLane 3 p s fun l =>
    match (s.lane l).state with
    | .disabled => s.laneAnswer l .disable
    | .active => (s.enterState l .disabled .disabled).laneAnswer l .disable
    | .draining => ((s.enterState l .disabled .disabled).supersedeDrain l).laneAnswer l .disable
    | .probing _ => refuseWith .busy s

/-- LANE_COMMAND DISABLE (R43). -/
def execDisable (s : State) : Result := .next <| s.takeRequest .disable serveDisable

/-- The lane enters PROBING with the next probe id and one probe frame queued (R45, R62). -/
def State.enterProbing (s : State) (l : LaneId) (ret : ReturnState) : State :=
  (s.setLane l
    { s.lane l with
      state := .probing ret
      lastProbeId := ((s.lane l).lastProbeId + 1) % 65536
      probe := .queued }).offerLane l .probing

/-- PROBE taken in DISABLED or ACTIVE (R45): refused during an auction of the lane; failing at once when the A link
is DOWN; deferred otherwise. -/
def State.startProbing (s : State) (l : LaneId) (ret : ReturnState) : Answer :=
  if s.laneAuction l then refuseWith .refusedState s
  else
    match (s.lane l).aLink with
    | .up => (s.enterProbing l ret, .deferred l .probe)
    | .down =>
      okWith ((s.lane l).commandContent l .probe (some probeFailedCode) none) ((s.enterProbing l ret).probeFail l)

/-- PROBE by the lane's state (R43, R45, log 15). -/
def serveProbe (_ : LaneId) (p : Bytes) (s : State) : Answer :=
  onCommandedLane 4 p s fun l =>
    match (s.lane l).state with
    | .disabled => s.startProbing l .disabled
    | .active => s.startProbing l .active
    | .draining => refuseWith .busy s
    | .probing _ => refuseWith .busy s

/-- LANE_COMMAND PROBE (R43, R45). -/
def execProbe (s : State) : Result := .next <| s.takeRequest .probe serveProbe

end Sys2Proof.Machine
end

