-- ==== Sys2Proof/Machine/JournalRequests.lean ====
section
/-! DEFINITION. The journal requests (R160, R166, R168, R169, R195). -/

namespace Sys2Proof.Machine

/-- The content of a JOURNAL_RELEASE reply (R166, R205). -/
def releaseReply (applied : Option Nat) (freed : Nat) : Bytes := optField 8 (uField 8) applied ++ uField 4 freed

/-- A release through `n`: EXPORTED records at or below `n` leave the ring, and a pending gap is written when a slot
was freed (R160, R166). -/
def State.releaseRecords (s : State) (n : Nat) : State :=
  let freed := s.journal.freedCount n
  let released := s.journal.releaseThrough n
  { s with journal := if freed = 0 then released else released.writeGap s.lt }

/-- The judgement of a JOURNAL_RELEASE (R166). -/
def serveJournalRelease (_ : LaneId) (p : Bytes) (s : State) : Answer :=
  let n := field p 3 8
  match s.journal.highestExported with
  | none => (s, .completed .okClamped (releaseReply none 0))
  | some h =>
    let applied := min n h
    (s.releaseRecords applied,
      .completed (if n ≤ h then .ok else .okClamped) (releaseReply (some applied) (s.journal.freedCount applied)))

/-- JOURNAL_RELEASE (R166). -/
def execJournalRelease (s : State) : Result := .next <| s.takeRequest .journalRelease serveJournalRelease

/-- Whether the ring holds the number as an EXPORTED record (R168). -/
def Journal.holdsExported (j : Journal) (n : Nat) : Bool := j.held.any fun h => h.number == n && h.isExported

/-- How many EXPORTED records are numbered `n` and above (R168). -/
def Journal.exportedFrom (j : Journal) (n : Nat) : Nat := j.held.countP fun h => h.isExported && decide (n ≤ h.number)

/-- The judgement of a JOURNAL_RESEND (R168, R169). -/
def serveJournalResend (_ : LaneId) (p : Bytes) (s : State) : Answer :=
  let n := field p 3 8
  if s.journal.holdsExported n then
    okWith (uField 4 (s.journal.exportedFrom n)) { s with journal := { s.journal with resend := some n } }
  else refuseWith .badIndex s

/-- JOURNAL_RESEND (R168). -/
def execJournalResend (s : State) : Result := .next <| s.takeRequest .journalResend serveJournalResend

end Sys2Proof.Machine
end

