-- ==== Sys2Proof/Machine/EvidenceRequests.lean ====
section
/-! DEFINITION. The evidence requests (R181, R182, R195). -/

namespace Sys2Proof.Machine

/-- COUNTER_READ (R181): the values as they stand; no record. -/
def execCounterRead (s : State) : Result :=
  .next <| s.takeRequest .counterRead fun _ _ t => okWith t.evidence.valuesOf.bytes t

/-- COUNTER_CLEAR (R182): every value becomes 0 and the cleared notice is offered. -/
def execCounterClear (s : State) : Result :=
  .next <|
    s.takeRequest .counterClear fun _ _ t => okWith [] ({ t with evidence := t.evidence.cleared }.offer .cleared)

end Sys2Proof.Machine
end

