-- ==== Sys2Proof/Machine/Status.lean ====
section
/-! DEFINITION. STATUS_READ (R196, R206), DATAPATH_RESET (R74, R197) and requests of unknown kinds (R187). -/

namespace Sys2Proof.Machine

/-! ### The five sections of a STATUS_READ reply (R206) -/

/-- The last accepted marker, 25 value bytes (R206). -/
def Marker.statusBytes (m : Marker) : Bytes :=
  uField 8 m.captured ++ uField 6 m.seconds ++ uField 1 m.grade.val ++ uField 2 m.source.toNat ++ sField 8 m.theta

def Monitor.statusBytes (m : Monitor) : Bytes :=
  uField 1 m.unit.code ++ uField 1 m.refState.code ++ uField 1 m.missing ++ uField 1 m.good
    ++ optField 25 Marker.statusBytes m.last ++ uField 4 m.announcementDiscards ++ uField 4 m.orphanEdges

def State.clockStatus (s : State) : Bytes :=
  uField 8 s.lt ++ sField 4 s.timebase.r ++ uField 1 s.discipline.state.code ++ uField 1 (refCode s.discipline.selected)
    ++ sField 4 s.discipline.freq ++ uField 1 s.discipline.lockCount ++ flagByte s.discipline.stepPending
    ++ flagByte s.discipline.autoSwitch ++ uField 4 s.uncertainty.uBase ++ uField 8 s.uncertainty.ltMark
    ++ flagByte s.uncertainty.evaluated ++ uField 1 s.uncertainty.grade.code ++ uField 4 s.uClock
    ++ s.monitorA.statusBytes ++ s.monitorB.statusBytes

def LaneCounts.statusBytes (c : LaneCounts) : Bytes :=
  uField 4 c.aOversize ++ uField 4 c.aFcsError ++ uField 4 c.aTruncated ++ uField 4 c.aControlDiscarded
    ++ uField 4 c.probeStale ++ uField 4 c.disabledDiscarded ++ uField 4 c.foreignOverflow ++ uField 4 c.bOversize
    ++ uField 4 c.bFcsError ++ uField 4 c.bTruncated ++ uField 4 c.bControlDiscarded ++ uField 4 c.requestNoPermission

/-- The outstanding probe id (R206). -/
def LaneUnit.outstandingId (u : LaneUnit) : Option Nat :=
  match u.probe with
  | .outstanding _ => some u.lastProbeId
  | .none => none
  | .queued => none

def LaneUnit.statusBytes (u : LaneUnit) : Bytes :=
  uField 1 u.state.code ++ uField 1 u.aLink.code ++ uField 1 u.bLink.code ++ uField 2 u.cLane ++ uField 2 u.uLane
    ++ uField 1 u.allowance ++ flagByte u.permission ++ flagByte u.compPending ++ optField 2 (uField 2) u.outstandingId
    ++ uField 1 u.credits ++ uField 1 (frameCount u.hold) ++ uField 1 (triggerCount u.hold)
    ++ uField 1 u.notices.length ++ uField 1 u.reports.length ++ u.counts.statusBytes

/-- The draw as a STATUS_READ shows it: sealed in CALL and WINDOW (R95). -/
def Book.shownDraw (b : Book) : Option Draw :=
  match b.phase with
  | .call => none
  | .window => none
  | .idle => b.draw
  | .armed => b.draw
  | .freeze => b.draw
  | .uncross => b.draw
  | .closed => b.draw

def Book.statusBytes (b : Book) : Bytes :=
  uField 1 b.phase.code ++ optField 8 (fun a : Arming => milliField a.tc) b.arming
    ++ optField 8 (fun a : Arming => milliField a.tw) b.arming ++ optField 4 (fun a : Arming => uField 4 a.w) b.arming
    ++ optField 2 (fun a : Arming => uField 2 a.d) b.arming ++ optField 4 (fun a : Arming => uField 4 a.timeoutMs) b.arming
    ++ optField 1 (fun a : Arming => uField 1 a.lanes.toNat) b.arming
    ++ optField 4 (fun a : Arming => uField 4 a.extension) b.arming
    ++ optField 1 (fun r : ConfirmResult => uField 1 r.code) b.result
    ++ allLanes.flatMap (fun l => uField 1 (b.trigger l).code)
    ++ optField 4 (fun d : Draw => uField 4 d.x.toNat) b.shownDraw ++ optField 4 (fun d : Draw => uField 4 d.offset) b.shownDraw
    ++ optField 8 (fun d : Draw => uField 8 d.endInstant) b.shownDraw ++ optField 1 (fun d : Draw => flagByte d.unseeded) b.shownDraw

def State.bookStatus (s : State) : Bytes :=
  allBooks.flatMap (fun b => (s.book b).statusBytes) ++ uField 4 s.bookUnit.seedCount ++ flagByte s.bookUnit.unseeded
    ++ uField 4 s.bookUnit.unexpected ++ uField 4 s.bookUnit.malformed

def Reservation.statusBytes (r : Reservation) : Bytes := uField 8 r.number ++ flagByte r.lost

def Journal.statusBytes (j : Journal) : Bytes :=
  uField 8 j.counter ++ uField 2 (j.held.countP Held.isWritten) ++ uField 2 (j.held.countP Held.isExported)
    ++ uField 2 (j.held.countP Held.isBound) ++ uField 2 j.freeCount
    ++ optField 8 (fun h : Held => uField 8 h.number) j.held.head? ++ optField 8 (fun h : Held => uField 8 h.number) j.held.getLast?
    ++ optField 8 (uField 8) j.highestExported ++ optField 16 (fun g : Gap => uField 8 g.first ++ uField 8 g.count) j.gap
    ++ uField 8 j.lostTotal ++ allLanes.flatMap (fun l => optField 9 Reservation.statusBytes (j.reservation l))
    ++ uField 1 j.exportLane.val ++ uField 2 j.flushInterval ++ flagByte j.flushDue ++ optField 8 (uField 8) j.resend

/-- Whether a reply is still deferred (R185). -/
def Reply.isDeferred (r : Reply) : Bool :=
  match r.body with
  | .deferred _ _ => true
  | .completed _ _ => false

/-- The handler's items of a lane; `placing` is 1 for the lane whose queue takes this very reply (R196). -/
def LaneUnit.handlerBytes (u : LaneUnit) (placing : Nat) : Bytes :=
  uField 1 u.requests.length ++ uField 1 (u.replies.length + placing) ++ uField 1 (u.replies.countP Reply.isDeferred)
    ++ uField 4 u.requestOverflow ++ uField 4 u.shortControl

/-- The content of a STATUS_READ reply to lane `l` (R196, R206). -/
def State.statusContent (s : State) (l : LaneId) : Bytes :=
  [0x0A, 0x04, 0x01] ++ s.clockStatus ++ allLanes.flatMap (fun k => (s.lane k).statusBytes) ++ s.bookStatus
    ++ s.journal.statusBytes ++ allLanes.flatMap (fun k => (s.lane k).handlerBytes (if k = l then 1 else 0))
    ++ uField 1 s.pointer.val

/-- STATUS_READ (R196): everything as it stands at the taking (log 18). -/
def execStatusRead (s : State) : Result :=
  .next <| s.takeRequest .statusRead fun l _ t => okWith (t.statusContent l) t

/-! ### DATAPATH_RESET (R74, R197) -/

/-- Step 3 of R74: the deferred DRAIN reply of a DRAINING lane is sent SUPERSEDED. -/
def State.endDrainByReset (s : State) (l : LaneId) : State :=
  if (s.lane l).state = .draining then s.supersedeDrain l else s

/-- Steps 4 and 5 of R74: frame entries, notices and reports are gone; trigger entries stay; the notice-share count
returns to 0 (R147). -/
def State.emptyLane (s : State) (l : LaneId) : State :=
  let u := s.lane l
  let hold := u.hold.filter fun e => !e.isFrame
  s.setLane l
    { u with
      hold := hold
      releaseExpiry := expiryAfterDeparture u.releaseExpiry hold
      notices := []
      reports := []
      noticeShare := 0 }

/-- Step 6 of R74, with the judgement of the waits after the departures and the change of the count (R133). -/
def State.zeroCredits (s : State) (l : LaneId) : State :=
  (s.setLane l { s.lane l with credits := 0 }).judgeWaits l

/-- The datapath reset of one lane (R74). -/
def State.flushLane (s : State) (l : LaneId) : State :=
  let ended := ((s.abandonReception l).failProbe l).endDrainByReset l
  let flushed := frameCount (ended.lane l).hold
  let emptied := (ended.emptyLane l).zeroCredits l
  (emptied.setLane l { emptied.lane l with state := .disabled }).offer
    (.lane { lane := l, event := .flushed, flushed := some flushed })

/-- The flush of the lanes of a list in order, with the flushed counts (R74, R197). -/
def flushLanes : List LaneId → State → State × List Nat
  | [], s => (s, [])
  | l :: rest, s =>
    let flushed := frameCount (s.lane l).hold
    let others := flushLanes rest (s.flushLane l)
    (others.1, flushed :: others.2)

/-- The judgement of a DATAPATH_RESET (R197). -/
def serveDatapathReset (_ : LaneId) (_ : Bytes) (s : State) : Answer :=
  if s.auctionActive then refuseWith .refusedState s
  else
    let done := flushLanes allLanes s
    okWith (done.2.flatMap (uField 1)) done.1

/-- DATAPATH_RESET (R74, R197). -/
def execDatapathReset (s : State) : Result := .next <| s.takeRequest .datapathReset serveDatapathReset

/-! ### Unknown kinds (R187) -/

/-- UNKNOWN_REQUEST (R187, R204). -/
def execUnknownRequest (s : State) : Result :=
  .next <| s.takeRequest .unknownRequest fun _ _ t => refuseWith .unknownRequest t

end Sys2Proof.Machine
end

