-- ==== Sys2Proof/Machine/Tick.lean ====
section
/-! DEFINITION. What happens when no command waits (log 1): one nanosecond of the oscillator passes (R1), and every
expiry that is then due, and the Control Handler's next taking, joins the queue. -/

namespace Sys2Proof.Machine

/-- An instant that is set and has been reached. -/
def reached (now : Nat) : Option Nat → Bool
  | none => false
  | some t => t ≤ now

/-- The due expiry of a capture unit, which runs on the oscillator (R5). -/
def State.dueOfUnit (s : State) (ref : RefLine) : List Instr :=
  match (s.monitor ref).unit with
  | .idle t => if reached s.timebase.osc t then [.announcementExpiry ref] else []
  | .armed _ t => if t ≤ s.timebase.osc then [.armExpiry ref] else []
  | .guard t => if t ≤ s.timebase.osc then [.guardExpiry ref] else []

/-- The due growth expiry (R34). -/
def State.dueGrowth (s : State) : List Instr :=
  if reached s.lt s.uncertainty.growthExpiry then [.growthExpiry] else []

/-- The expiry of the boundary ahead of a book in a phase (R99). -/
def boundaryRow (b : BookId) : Phase → List Instr
  | .armed => [.tcExpiry b]
  | .call => [.twExpiry b]
  | .window => [.eExpiry b]
  | .freeze => [.uncrossExpiry b]
  | .idle => []
  | .uncross => []
  | .closed => []

/-- The due expiry of a book (R99, R117). -/
def State.dueOfBook (s : State) (b : BookId) : List Instr :=
  if reached s.lt (s.book b).boundary then boundaryRow b (s.book b).phase
  else if (s.book b).timeoutReached s.lt then [.uncrossTimeout b]
  else []

/-- The due probe timeout of a lane (R62). -/
def State.dueProbe (s : State) (l : LaneId) : List Instr :=
  match (s.lane l).probe with
  | .outstanding t1 => if t1 + Config.probeTimeout ≤ s.lt then [.probeTimeout l] else []
  | .none => []
  | .queued => []

/-- The due expiries of a lane (R62, R130, R139). -/
def State.dueOfLane (s : State) (l : LaneId) : List Instr :=
  s.dueProbe l ++ (if reached s.lt (s.lane l).releaseExpiry then [.releaseExpiry l] else [])
    ++ ((s.lane l).pendingTriggers.filter fun p => reached s.lt p.expiry).map fun p => .placementExpiry l p.book

/-- The due flush expiry (R162). -/
def State.dueFlush (s : State) : List Instr := if reached s.lt s.journal.flushExpiry then [.flushExpiry] else []

/-- The taking of the request the handler would take now (R186). -/
def State.dueRequest (s : State) : List Instr :=
  match s.nextRequest with
  | none => []
  | some (_, frame) => [requestRow (payload frame)]

/-- The due snapshot expiry (R179). -/
def State.dueSnapshot (s : State) : List Instr :=
  if reached s.lt s.evidence.snapshotExpiry then [.snapshotExpiry] else []

/-- What is due now, in the order of the sources of R150: the time path, the books, the lanes, the exporter and the
handler, the Evidence Unit. -/
def State.dueCommands (s : State) : List Instr :=
  s.dueOfUnit .a ++ s.dueOfUnit .b ++ s.dueGrowth ++ allBooks.flatMap s.dueOfBook ++ allLanes.flatMap s.dueOfLane
    ++ s.dueFlush ++ s.dueRequest ++ s.dueSnapshot

/-- One nanosecond of the oscillator passes (R1). -/
def State.passNanosecond (s : State) : State := { s with timebase := s.timebase.advance 1 }

/-- The tick of an empty queue (log 1). -/
def State.tick (s : State) : State :=
  { s.passNanosecond with pending := s.passNanosecond.dueCommands }

end Sys2Proof.Machine
end

