-- ==== Sys2Proof/Machine/Dispatch.lean ====
section
/-! DEFINITION. The meaning of every command, one direct call for each row of spec/opcode_table.json. -/

namespace Sys2Proof.Machine

def exec (i : Instr) (s : State) : Host.Outcome State Fault Refusal :=
  match i with
  | .powerOnReset => Sys2Proof.Machine.execPowerOnReset s
  | .announcementReceived ref message => Sys2Proof.Machine.execAnnouncementReceived ref message s
  | .markerEdge ref => Sys2Proof.Machine.execMarkerEdge ref s
  | .armExpiry ref => Sys2Proof.Machine.execArmExpiry ref s
  | .announcementExpiry ref => Sys2Proof.Machine.execAnnouncementExpiry ref s
  | .guardExpiry ref => Sys2Proof.Machine.execGuardExpiry ref s
  | .growthExpiry => Sys2Proof.Machine.execGrowthExpiry s
  | .aLinkLost lane => Sys2Proof.Machine.execALinkLost lane s
  | .aLinkReturned lane => Sys2Proof.Machine.execALinkReturned lane s
  | .bLinkLost lane inReception => Sys2Proof.Machine.execBLinkLost lane inReception s
  | .bLinkReturned lane => Sys2Proof.Machine.execBLinkReturned lane s
  | .startOfFrame lane => Sys2Proof.Machine.execStartOfFrame lane s
  | .aFrameDiscarded lane frame => Sys2Proof.Machine.execAFrameDiscarded lane frame s
  | .entryFrame lane frame => Sys2Proof.Machine.execEntryFrame lane frame s
  | .foreignFrame lane frame => Sys2Proof.Machine.execForeignFrame lane frame s
  | .aControlFrame lane frame => Sys2Proof.Machine.execAControlFrame lane frame s
  | .probeReturn lane frame => Sys2Proof.Machine.execProbeReturn lane frame s
  | .probeTimeout lane => Sys2Proof.Machine.execProbeTimeout lane s
  | .bFrameDiscarded lane frame => Sys2Proof.Machine.execBFrameDiscarded lane frame s
  | .reportFrame lane frame => Sys2Proof.Machine.execReportFrame lane frame s
  | .controlRequestArrival lane frame => Sys2Proof.Machine.execControlRequestArrival lane frame s
  | .shortControlFrame lane frame => Sys2Proof.Machine.execShortControlFrame lane frame s
  | .bControlDiscarded lane frame => Sys2Proof.Machine.execBControlDiscarded lane frame s
  | .creditGrant lane frame => Sys2Proof.Machine.execCreditGrant lane frame s
  | .uncrossDone lane frame => Sys2Proof.Machine.execUncrossDone lane frame s
  | .releaseExpiry lane => Sys2Proof.Machine.execReleaseExpiry lane s
  | .placementExpiry lane book => Sys2Proof.Machine.execPlacementExpiry lane book s
  | .engineEgressChoice lane => Sys2Proof.Machine.execEngineEgressChoice lane s
  | .gatewayEgressChoice lane => Sys2Proof.Machine.execGatewayEgressChoice lane s
  | .tcExpiry book => Sys2Proof.Machine.execTcExpiry book s
  | .twExpiry book => Sys2Proof.Machine.execTwExpiry book s
  | .eExpiry book => Sys2Proof.Machine.execEExpiry book s
  | .uncrossExpiry book => Sys2Proof.Machine.execUncrossExpiry book s
  | .uncrossTimeout book => Sys2Proof.Machine.execUncrossTimeout book s
  | .flushExpiry => Sys2Proof.Machine.execFlushExpiry s
  | .snapshotExpiry => Sys2Proof.Machine.execSnapshotExpiry s
  | .tableWriteMatch => Sys2Proof.Machine.execTableWriteMatch s
  | .tableWriteClass => Sys2Proof.Machine.execTableWriteClass s
  | .tableWriteLane => Sys2Proof.Machine.execTableWriteLane s
  | .tableWriteH => Sys2Proof.Machine.execTableWriteH s
  | .tableWriteL => Sys2Proof.Machine.execTableWriteL s
  | .tableWriteDayOrigin => Sys2Proof.Machine.execTableWriteDayOrigin s
  | .tableWriteEntryFrameType => Sys2Proof.Machine.execTableWriteEntryFrameType s
  | .tableWriteQ => Sys2Proof.Machine.execTableWriteQ s
  | .tableWriteClockSetting => Sys2Proof.Machine.execTableWriteClockSetting s
  | .tableWriteAutoSwitch => Sys2Proof.Machine.execTableWriteAutoSwitch s
  | .tableWriteReferenceEnable => Sys2Proof.Machine.execTableWriteReferenceEnable s
  | .tableWriteExportLane => Sys2Proof.Machine.execTableWriteExportLane s
  | .tableWriteFlushInterval => Sys2Proof.Machine.execTableWriteFlushInterval s
  | .tableWriteCounter => Sys2Proof.Machine.execTableWriteCounter s
  | .tableWriteSnapshotPeriod => Sys2Proof.Machine.execTableWriteSnapshotPeriod s
  | .tableRead => Sys2Proof.Machine.execTableRead s
  | .bookArm => Sys2Proof.Machine.execBookArm s
  | .bookDisarm => Sys2Proof.Machine.execBookDisarm s
  | .bookExtend => Sys2Proof.Machine.execBookExtend s
  | .bookSeed => Sys2Proof.Machine.execBookSeed s
  | .acquire => Sys2Proof.Machine.execAcquire s
  | .release => Sys2Proof.Machine.execRelease s
  | .selectA => Sys2Proof.Machine.execSelectA s
  | .selectB => Sys2Proof.Machine.execSelectB s
  | .clearMissing => Sys2Proof.Machine.execClearMissing s
  | .enable => Sys2Proof.Machine.execEnable s
  | .drain => Sys2Proof.Machine.execDrain s
  | .disable => Sys2Proof.Machine.execDisable s
  | .probe => Sys2Proof.Machine.execProbe s
  | .journalRelease => Sys2Proof.Machine.execJournalRelease s
  | .journalResend => Sys2Proof.Machine.execJournalResend s
  | .counterRead => Sys2Proof.Machine.execCounterRead s
  | .counterClear => Sys2Proof.Machine.execCounterClear s
  | .statusRead => Sys2Proof.Machine.execStatusRead s
  | .datapathReset => Sys2Proof.Machine.execDatapathReset s
  | .unknownRequest => Sys2Proof.Machine.execUnknownRequest s

end Sys2Proof.Machine
end

