-- ==== Sys2Proof/WellFormed.lean ====
section
/-! DEFINITION. Which commands are well formed: what an operand must be for the row's event to have taken place,
whatever the state. What depends on the state (the entry frame type in force, whether a frame is in reception, which
request is next) is judged by the meanings. -/

namespace Sys2Proof

/-- Why a command is ill formed. -/
inductive IllFormed where
  /-- An announcement signal delivers whole 12-byte messages (section 1.3). -/
  | announcementLength
  /-- A complete frame is 18 to 2,048 bytes long (R49, R71). -/
  | frameLength
  /-- The type field is not one the row can have (R50, R71). -/
  | frameType
  /-- The kind byte is not one the row can have (R51, R71, R183, R204). -/
  | controlKind
  deriving DecidableEq, Repr

/-- The type field of a frame's link header, as two bytes (R49). -/
def typeBytes (frame : Bytes) : Bytes := (frame.drop 12).take 2

/-- Whether the frame is of the control type (R50, R204). -/
def isControl (frame : Bytes) : Bool := typeBytes frame == [0x9A, 0x4C]

/-- The kind byte of a control frame, absent when it ends with its link header (R183). -/
def kindByte (frame : Bytes) : Option Byte := if 19 ≤ frame.length then frame[14]? else none

/-- Whether the length is that of a complete frame (R49). -/
def lengthComplete (frame : Bytes) : Bool := Config.frameMin ≤ frame.length && frame.length ≤ Config.frameMax

/-- A frame that is complete and not of the control type (R50, R71). -/
def checkPlain (frame : Bytes) : Option IllFormed :=
  if !lengthComplete frame then some .frameLength else if isControl frame then some .frameType else none

/-- A complete control frame whose kind meets `ok` (R51, R71). -/
def checkControl (ok : Option Byte → Bool) (frame : Bytes) : Option IllFormed :=
  if !lengthComplete frame then some .frameLength
  else if !isControl frame then some .frameType
  else if !ok (kindByte frame) then some .controlKind
  else none

/-- The kinds the part sends: REPLY to EXPORT (R204). -/
def sentKinds : List Byte := [0x30, 0x31, 0x32, 0x33, 0x34]

/-- A kind that makes a B-port control frame a request (R71, R204). -/
def requestKind : Option Byte → Bool
  | none => false
  | some k => k != 0x20 && k != 0x21 && !sentKinds.contains k

/-- A kind the part sends (R71). -/
def sentKind : Option Byte → Bool
  | none => false
  | some k => sentKinds.contains k

/-- The first reason a command is ill formed, if there is one. -/
def Instr.check : Instr → Option IllFormed
  | .announcementReceived _ m => if m.length = 12 then none else some .announcementLength
  | .entryFrame _ f => checkPlain f
  | .foreignFrame _ f => checkPlain f
  | .reportFrame _ f => checkPlain f
  | .aControlFrame _ f => checkControl (fun k => k != some 0x33) f
  | .probeReturn _ f => checkControl (fun k => k == some 0x33) f
  | .controlRequestArrival _ f => checkControl requestKind f
  | .shortControlFrame _ f => checkControl (fun k => k.isNone) f
  | .bControlDiscarded _ f => checkControl sentKind f
  | .creditGrant _ f => checkControl (fun k => k == some 0x20) f
  | .uncrossDone _ f => checkControl (fun k => k == some 0x21) f
  | .aFrameDiscarded _ _ => none
  | .bFrameDiscarded _ _ => none
  | .powerOnReset => none
  | .markerEdge _ => none
  | .armExpiry _ => none
  | .announcementExpiry _ => none
  | .guardExpiry _ => none
  | .growthExpiry => none
  | .aLinkLost _ => none
  | .aLinkReturned _ => none
  | .bLinkLost _ _ => none
  | .bLinkReturned _ => none
  | .startOfFrame _ => none
  | .probeTimeout _ => none
  | .releaseExpiry _ => none
  | .placementExpiry _ _ => none
  | .engineEgressChoice _ => none
  | .gatewayEgressChoice _ => none
  | .tcExpiry _ => none
  | .twExpiry _ => none
  | .eExpiry _ => none
  | .uncrossExpiry _ => none
  | .uncrossTimeout _ => none
  | .flushExpiry => none
  | .snapshotExpiry => none
  | .tableWriteMatch => none
  | .tableWriteClass => none
  | .tableWriteLane => none
  | .tableWriteH => none
  | .tableWriteL => none
  | .tableWriteDayOrigin => none
  | .tableWriteEntryFrameType => none
  | .tableWriteQ => none
  | .tableWriteClockSetting => none
  | .tableWriteAutoSwitch => none
  | .tableWriteReferenceEnable => none
  | .tableWriteExportLane => none
  | .tableWriteFlushInterval => none
  | .tableWriteCounter => none
  | .tableWriteSnapshotPeriod => none
  | .tableRead => none
  | .bookArm => none
  | .bookDisarm => none
  | .bookExtend => none
  | .bookSeed => none
  | .acquire => none
  | .release => none
  | .selectA => none
  | .selectB => none
  | .clearMissing => none
  | .enable => none
  | .drain => none
  | .disable => none
  | .probe => none
  | .journalRelease => none
  | .journalResend => none
  | .counterRead => none
  | .counterClear => none
  | .statusRead => none
  | .datapathReset => none
  | .unknownRequest => none

/-- A command whose operands could have come about. -/
def Instr.WellFormed (i : Instr) : Prop := i.check = none

end Sys2Proof
end

