-- ==== Sys2Proof/Safety.lean ====
section
/-! DEFINITION. The terms in which claims about runs are said: which request is served and how it is answered, the
limits every reachable state keeps, and which commands are the reset. -/

namespace Sys2Proof.Machine

/-! ### Requests -/

/-- The request with payload `p`, of lane `l`, is the one the Control Handler takes next (R186); it belongs to `row`
and holds the bytes of its id and of all its fields (R183, R205). -/
def State.Serves (s : State) (row : Instr) (l : LaneId) (p : Bytes) : Prop :=
  (∃ frame, s.nextRequest = some (l, frame) ∧ payload frame = p) ∧ requestRow p = row ∧ 3 + fieldBytes p ≤ p.length

/-- The state with the reply to the request with payload `p` at the tail of lane `l`'s reply queue (R187): its own
request id, its kind, and how it is answered. -/
def State.replied (t : State) (l : LaneId) (p : Bytes) (body : ReplyBody) : State :=
  t.placeReply l ⟨field p 1 2, field p 0 1, body⟩

/-- The state after the request of lane `l` was taken and refused: it has left its queue, the pointer has moved, the
reply carries the status and nothing else (R184, R186, R188). -/
def State.refused (s : State) (l : LaneId) (p : Bytes) (status : Status) : State :=
  (s.popRequest l).replied l p (.completed status [])

/-! ### Markers -/

/-- The offset of a marker captured now with a pending announcement: LT less the announced second (R6, R24). -/
def State.offsetOf (s : State) (a : Announcement) : Int := (s.lt : Int) - ((a.seconds * 1000000000 : Nat) : Int)

/-- The grade table G in nanoseconds (R29). -/
def gradeNs (g : Fin 8) : Nat := [25, 50, 100, 250, 1000, 10000, 100000, 0].getD g.val 0

/-- The monitor of the line has a capture armed with `a`, and an edge now gives an accepted marker: the reference is
enabled, the grade is usable, and in LOCKED the offset is within the capture window (R6, R13). -/
def State.Accepts (s : State) (ref : RefLine) (a : Announcement) : Prop :=
  (s.monitor ref).refState ≠ .disabled ∧ (∃ e, (s.monitor ref).unit = .armed a e) ∧ a.grade ≠ 7 ∧
    (s.discipline.state = .locked → (s.offsetOf a).natAbs ≤ s.clock.wc)

/-- An edge on the line of the selected reference now gives an accepted marker that is evaluated: the clock is in
ACQUIRE or in LOCKED (R15, R17, R18). -/
def State.Evaluates (s : State) (a : Announcement) : Prop :=
  s.Accepts s.discipline.selected a ∧ (s.discipline.state = .acquire ∨ s.discipline.state = .locked)

/-! ### What most commands leave alone -/

/-- The time path, the settings, the classification tables and the handler's own items: what no operation of a lane,
a book, the journal or the evidence changes. -/
def State.fixedPart (s : State) :
    Timebase × Monitor × Monitor × Discipline × Uncertainty × ClockSettings × Stamping × Vector MatchEntry 32
      × Vector ClassRecord 16 × LaneId × List Instr :=
  (s.timebase, s.monitorA, s.monitorB, s.discipline, s.uncertainty, s.clock, s.stamping, s.matchTable, s.classTable,
    s.pointer, s.pending)

/-- A book but for its trigger states, which the lanes report to it (R115). -/
def Book.withoutTriggers (b : Book) : Phase × Option Arming × Option Draw × Option Nat × Option ConfirmResult :=
  (b.phase, b.arming, b.draw, b.uncrossAt, b.result)

/-- A lane but for its reply queue, in which the reply to a command on another lane may be completed (R194). -/
def LaneUnit.withoutReplies (u : LaneUnit) : LaneUnit := { u with replies := [] }

/-- The bodies and release times of a hold list, without the marks of waits noted (R127, R133). -/
def bodies (hold : List HoldEntry) : List (HoldBody × Nat) := hold.map fun e => (e.body, e.release)

/-! ### Limits -/

/-- The applied rate and the frequency term stay within their limits (R2). -/
def State.RatesBounded (s : State) : Prop :=
  (-200000 ≤ s.timebase.r ∧ s.timebase.r ≤ 200000) ∧ -150000 ≤ s.discipline.freq ∧ s.discipline.freq ≤ 150000

/-- The queues, lists and counts of a lane stay within their capacities (R125, R129, R145, R146, R147, R184, R185). -/
def LaneUnit.Fits (u : LaneUnit) : Prop :=
  frameCount u.hold ≤ 64 ∧ u.credits ≤ 32 ∧ u.notices.length ≤ 16 ∧ u.reports.length ≤ 32 ∧ u.requests.length ≤ 8 ∧
    u.replies.length ≤ 8 ∧ u.engineWait ≤ 8 ∧ u.noticeShare ≤ 4

/-- Every lane stays within its capacities. -/
def State.LanesFit (s : State) : Prop := ∀ l, (s.lane l).Fits

/-- The clock grade is what a judgement gives now, and the growth expiry stands one nanosecond after a whole number of
seconds from LT_mark, LT having passed the second before it; it runs while the evaluated flag is set (R34, R35, R36). -/
def State.GradeStands (s : State) : Prop :=
  s.uncertainty.grade = s.judgedGrade ∧
  (s.uncertainty.evaluated = false → s.uncertainty.growthExpiry = none) ∧
  (s.uncertainty.evaluated = true → s.uncertainty.ltMark ≤ s.lt ∧
    ∃ n, s.uncertainty.growthExpiry = some (s.uncertainty.ltMark + n * 1000000000 + 1) ∧
      (0 < n → s.uncertainty.ltMark + (n - 1) * 1000000000 < s.lt))

/-- The draw of the book is due: LT has reached its Tw, and the book is in CALL or will enter it by a Tc that is due
too (R99, R101). -/
def State.DrawDue (s : State) (b : BookId) : Prop :=
  ∃ a, (s.book b).arming = some a ∧ a.tw ≤ s.lt ∧
    ((s.book b).phase = .call ∨ ((s.book b).phase = .armed ∧ a.tc ≤ s.lt))

/-- The entry is a TRIGGER of the book. -/
def HoldEntry.isTriggerOf (b : BookId) (e : HoldEntry) : Bool :=
  match e.body with
  | .frame _ => false
  | .trigger c _ => c == b

/-- A book is PENDING for a lane exactly when the lane has its pending trigger, HELD exactly when the lane's hold list
has its TRIGGER entry, one of either at most; a book before its uncross has none (R98, R103, R115, R129, R141). -/
def State.TriggersMatch (s : State) : Prop :=
  ∀ (l : LaneId) (b : BookId),
    (s.lane l).pendingTriggers.countP (fun p => p.book == b) = (if (s.book b).trigger l = .pending then 1 else 0) ∧
    (s.lane l).hold.countP (HoldEntry.isTriggerOf b) = (if (s.book b).trigger l = .held then 1 else 0) ∧
    ((s.book b).phase ≠ .uncross → (s.book b).phase ≠ .closed → (s.book b).trigger l = .none)

/-- Some lane has control permission on, so the part can be reached (R70, R191). -/
def State.Reachable (s : State) : Prop := ∃ l, (s.lane l).permission = true

/-- The ring holds numbers that rise strictly and were given by the counter, each in a slot of its own among the
4,096 (R149, R157). -/
def Journal.Ordered (j : Journal) : Prop :=
  (j.held.map Held.number).Pairwise (· < ·) ∧ (∀ h ∈ j.held, h.number < j.counter) ∧
    (j.held.map Held.slot).Nodup ∧ (∀ h ∈ j.held, h.slot < 4096)

/-- A book is in CALL, WINDOW, FREEZE or UNCROSS (R96). -/
def State.InAuction (s : State) (b : BookId) : Prop :=
  (s.book b).phase = .call ∨ (s.book b).phase = .window ∨ (s.book b).phase = .freeze ∨ (s.book b).phase = .uncross

end Sys2Proof.Machine
end

