-- ==== Sys2Proof/Certificates/Slice0/Obligations.lean ====
section
/-! DEFINITION. The statements for the provers, from the numbered rules of spec/. `s` is the state before a command
and `t` the state after it; an equation between whole states says too what the command leaves alone. -/

open Sys2Proof Sys2Proof.Machine

/-! ### The step, the queue and the tick -/

/-- A step executes the command at the front of the queue on the state with the queue's rest. -/
def Obligations.StepRunsFrontCommand : Prop :=
  ∀ (s : State) (c : Instr) (rest : List Instr),
    s.pending = c :: rest → step s = exec c { s with pending := rest }

/-- With no command waiting, one nanosecond of the oscillator passes, and the expiries that are then due join the
queue; nothing else changes. The model's choice (log 1). -/
def Obligations.EmptyQueueLetsOneNanosecondPass : Prop :=
  ∀ s : State, s.pending = [] →
    ∃ t, step s = .next t ∧ t.timebase = s.timebase.advance 1 ∧ t.timebase.osc = s.timebase.osc + 1 ∧
      t = { s with timebase := t.timebase, pending := t.pending } ∧
      t.pending = State.dueCommands { s with timebase := t.timebase } ∧
      (∀ b, Instr.tcExpiry b ∈ t.pending ↔
        ∃ a, (s.book b).phase = .armed ∧ (s.book b).arming = some a ∧ a.tc ≤ t.lt) ∧
      (∀ l, Instr.releaseExpiry l ∈ t.pending ↔ ∃ x, (s.lane l).releaseExpiry = some x ∧ x ≤ t.lt)

/-- LT advances by 10⁹ + r nanoseconds for each second of the oscillator, the sub-nanosecond part kept in the fraction
(R1). That an advance is the same whatever pieces it is cut into, to the last bit, is the model's choice: R1 does not
say how what lies below 1/65,536 ns is kept, and the fields osc and carry are the model's own (log 2). -/
def Obligations.TimebaseAdvancesAtScaledRate : Prop :=
  ∀ t : Timebase,
    (∀ a b : Nat, t.advance (a + b) = (t.advance a).advance b) ∧
    (-1000000000 ≤ t.r → t.carry < 1000000000 →
      t.advance 1000000000 =
        { t with lt := ((t.lt : Int) + 1000000000 + t.r).toNat, osc := t.osc + 1000000000 })

/-! ### Power-on -/

/-- The reset input gives the time path (R1, R2, R4, R15, R23, R29, R41), and the lanes, tables, books, journal, evidence
and handler (R42, R75, R95, R148, R173, R176, R179, R199), their power-on values; waiting commands stay (log 21). -/
def Obligations.ResetGivesPowerOnValues : Prop :=
  (∀ s : State, ∃ t, exec .powerOnReset s = .next t ∧
     t.timebase.lt = 0 ∧ t.timebase.frac = 0 ∧ t.timebase.r = 0 ∧
     (∀ ref, (t.monitor ref).refState = .listening ∧ (∃ e, (t.monitor ref).unit = .idle (some e)) ∧
       (t.monitor ref).missing = 0 ∧ (t.monitor ref).good = 0 ∧ (t.monitor ref).last = none ∧
       (t.monitor ref).announcementDiscards = 0 ∧ (t.monitor ref).orphanEdges = 0) ∧
     t.discipline = ⟨.free, .a, 0, 0, false, false⟩ ∧
     t.uncertainty = ⟨1000000000, 0, false, .untraceable, none⟩ ∧
     t.clock = ⟨3, 1, 500, 4, 1000000, 2000000, 100, 3⟩ ∧
     t.stamping.h = 50 ∧ t.stamping.l = 100000 ∧ t.stamping.q = 50000 ∧ t.stamping.entryType = 0x9A4B ∧
     t.pending = s.pending) ∧
  (∀ s : State, ∃ t, exec .powerOnReset s = .next t ∧
     (∀ l, (t.lane l).state = .disabled ∧ (t.lane l).aLink = .down ∧ (t.lane l).bLink = .down ∧
       (t.lane l).rx = none ∧ (t.lane l).cLane = 0 ∧ (t.lane l).uLane = 0 ∧ (t.lane l).allowance = 10 ∧
       ((t.lane l).permission = true ↔ l = 0) ∧ (t.lane l).compPending = false ∧ (t.lane l).lastProbeId = 0 ∧
       (t.lane l).probe = .none ∧ (t.lane l).hold = [] ∧ (t.lane l).credits = 0 ∧ (t.lane l).notices = [] ∧
       (t.lane l).reports = [] ∧ (t.lane l).pendingTriggers = [] ∧ (t.lane l).engineWait = 0 ∧
       (t.lane l).noticeShare = 0 ∧ (t.lane l).counts = .zero ∧ (t.lane l).requests = [] ∧ (t.lane l).replies = [] ∧
       (t.lane l).requestOverflow = 0 ∧ (t.lane l).shortControl = 0) ∧
     (∀ n : Fin 32, t.matchTable[n.val] = ⟨.session, 0, 0, false⟩) ∧
     (∀ c : Fin 16, t.classTable[c.val] = ⟨0, 0, none, .full, 0, .accept, .mark⟩) ∧
     (∀ b, (t.book b).phase = .idle ∧ (t.book b).arming = none ∧ (t.book b).draw = none ∧
       (t.book b).uncrossAt = none ∧ (t.book b).result = none ∧ ∀ l, (t.book b).trigger l = .none) ∧
     t.bookUnit = ⟨1, true, 0, 0, 0⟩ ∧
     t.journal.counter = 0 ∧ t.journal.held = [] ∧ t.journal.freeCount = 4096 ∧
     (∀ l, t.journal.reservation l = none) ∧ t.journal.gap = none ∧ t.journal.lostTotal = 0 ∧
     t.journal.highestExported = none ∧ t.journal.flushExpiry = none ∧ t.journal.flushDue = false ∧
     t.journal.resend = none ∧ t.journal.exportLane = 0 ∧ t.journal.flushInterval = 10 ∧
     (∀ i : Fin 8, t.evidence.counters[i.val] = ⟨0, .entryPass, none, none, none⟩) ∧
     (∀ i : Fin 2, t.evidence.monitors[i.val] = ⟨none, none, ⟨0, 0, 0⟩⟩) ∧
     t.evidence.period = 0 ∧ t.evidence.snapshotExpiry = none ∧ t.pointer = 0)

/-! ### The reference lines -/

/-- A message is a valid announcement exactly when it has the twelve bytes of R209 with the properties of R3, and
then it gives the seconds, the grade and the source it spells. -/
def Obligations.AnnouncementValidity : Prop :=
  ∀ (m : Bytes) (a : Announcement), announcementOf m = some a ↔
    ∃ s5 s4 s3 s2 s1 s0 g i1 i0 c : Byte, m = [0x5D, s5, s4, s3, s2, s1, s0, g, i1, i0, 0, c] ∧
      (m.map BitVec.toNat).sum % 256 = 0 ∧
      a.seconds = s5.toNat * 2 ^ 40 + s4.toNat * 2 ^ 32 + s3.toNat * 2 ^ 24 + s2.toNat * 2 ^ 16 + s1.toNat * 2 ^ 8
        + s0.toNat ∧
      a.grade.val = g.toNat ∧ a.source.toNat = i1.toNat * 2 ^ 8 + i0.toNat

/-- An announcement arms in IDLE, overruns the pending capture in ARMED and is discarded in GUARD; an edge is an orphan in
IDLE and GUARD, and in ARMED is refused for grade 7 and, in LOCKED, outside the capture window; the three expiries are
taken when the oscillator has reached them and not before; a DISABLED reference ignores announcements and edges (R3,
R5, R6, R7, R8, R9, R13). What a refusal then does stands in RefusedMarkerRule. -/
def Obligations.CaptureUnitActsByState : Prop :=
  (∀ (ref : RefLine) (m : Bytes) (s : State) (a b : Announcement) (x : Option Nat) (e : Nat),
     let k := s.monitor ref
     let discards := min (k.announcementDiscards + 1) 4294967295
     (k.refState = .disabled → exec (.announcementReceived ref m) s = .next s) ∧
     (k.refState ≠ .disabled → announcementOf m = none →
       exec (.announcementReceived ref m) s = .next (s.setMonitor ref { k with announcementDiscards := discards })) ∧
     (k.refState ≠ .disabled → announcementOf m = some a → k.unit = .idle x →
       exec (.announcementReceived ref m) s =
         .next (s.setMonitor ref { k with unit := .armed a (s.timebase.osc + 1000000000) })) ∧
     (k.refState ≠ .disabled → announcementOf m = some a → k.unit = .armed b e →
       exec (.announcementReceived ref m) s = .next ((s.setMonitor ref
         { k with
           unit := .guard (s.timebase.osc + s.clock.guardMs * 1000000)
           announcementDiscards := discards }).refuseMarker ref .overrun)) ∧
     (k.refState ≠ .disabled → announcementOf m = some a → k.unit = .guard e →
       exec (.announcementReceived ref m) s = .next (s.setMonitor ref { k with announcementDiscards := discards }))) ∧
  (∀ (ref : RefLine) (s : State) (a : Announcement) (e : Nat) (x : Option Nat),
     let k := s.monitor ref
     let orphan := s.setMonitor ref { k with orphanEdges := min (k.orphanEdges + 1) 4294967295 }
     let guarded := s.setMonitor ref { k with unit := .guard (s.timebase.osc + s.clock.guardMs * 1000000) }
     (k.refState = .disabled → exec (.markerEdge ref) s = .next s) ∧
     (k.refState ≠ .disabled →
       (k.unit = .idle x → exec (.markerEdge ref) s = .next orphan) ∧
       (k.unit = .guard e → exec (.markerEdge ref) s = .next orphan) ∧
       (k.unit = .armed a e → a.grade = 7 →
         exec (.markerEdge ref) s = .next (guarded.refuseMarker ref .gradeUnusable)) ∧
       (k.unit = .armed a e → a.grade ≠ 7 → s.discipline.state = .locked → s.clock.wc < (s.offsetOf a).natAbs →
         exec (.markerEdge ref) s = .next (guarded.refuseMarker ref .window)))) ∧
  (∀ (ref : RefLine) (s : State) (e : Nat) (a : Announcement),
     let k := s.monitor ref
     let entering (u : CaptureUnit) := s.setMonitor ref { k with unit := u }
     let idle : CaptureUnit := .idle (some (s.timebase.osc + 1000000000))
     (e ≤ s.timebase.osc →
       (k.unit = .idle (some e) →
         exec (.announcementExpiry ref) s = .next ((entering idle).refuseMarker ref .noAnnouncement)) ∧
       (k.unit = .armed a e → exec (.armExpiry ref) s =
         .next ((entering (.guard (s.timebase.osc + s.clock.guardMs * 1000000))).refuseMarker ref .noEdge)) ∧
       (k.unit = .guard e → exec (.guardExpiry ref) s = .next (entering idle))) ∧
     (s.timebase.osc < e →
       (k.unit = .idle (some e) → exec (.announcementExpiry ref) s = .next s) ∧
       (k.unit = .armed a e → exec (.armExpiry ref) s = .next s) ∧
       (k.unit = .guard e → exec (.guardExpiry ref) s = .next s)))

/-- A refused marker, whatever its reason: the missing count grows, the consecutive-good count is 0, and at the
missing threshold a LISTENING or HEALTHY reference becomes LOST. The loss of the selected reference switches to a
HEALTHY other one with auto-switch on, else sends LOCKED to HOLDOVER at the rate F; in FREE it does nothing (R10, R12,
R19, R28). That HOLDOVER keeps the lock count is the model's choice (log 32). -/
def Obligations.RefusedMarkerRule : Prop :=
  ∀ (ref : RefLine) (reason : RefusalReason) (s : State),
    let k := s.monitor ref
    let t := s.refuseMarker ref reason
    let missing := min (k.missing + 1) 255
    let lost := s.clock.m ≤ missing ∧ (k.refState = .listening ∨ k.refState = .healthy)
    let selectedLost := lost ∧ ref = s.discipline.selected ∧ s.discipline.state ≠ .free
    let switches := s.discipline.autoSwitch = true ∧ (s.monitor s.discipline.selected.other).refState = .healthy
    t.monitor ref = { k with missing := missing, good := 0, refState := if lost then .lost else k.refState } ∧
    t.monitor ref.other = s.monitor ref.other ∧
    (¬ lost → t.journal = s.journal ∧ t.evidence = s.evidence.apply { kind := .markerMissing }) ∧
    (lost → ¬ selectedLost → t.journal.counter = s.journal.counter + 1) ∧
    (¬ selectedLost → t.timebase = s.timebase ∧ t.discipline = s.discipline) ∧
    (selectedLost → t.timebase = { s.timebase with r := max (-200000) (min s.discipline.freq 200000) }) ∧
    (selectedLost → ¬ switches → s.discipline.state = .locked →
      t.discipline = { s.discipline with state := .holdover } ∧ t.journal.counter = s.journal.counter + 2) ∧
    (selectedLost → ¬ switches → s.discipline.state ≠ .locked →
      t.discipline = s.discipline ∧ t.journal.counter = s.journal.counter + 1) ∧
    (selectedLost → switches →
      t.discipline = { s.discipline with state := .acquire, lockCount := 0, selected := ref.other } ∧
      t.journal.counter = s.journal.counter + if s.discipline.state = .acquire then 2 else 3) ∧
    t = { s with
      monitorA := t.monitorA, monitorB := t.monitorB, timebase := t.timebase, discipline := t.discipline
      journal := t.journal, evidence := t.evidence }

/-- An accepted marker sets the last marker and the counts of its reference, moves LOST to LISTENING and LISTENING to
HEALTHY at three in a row from one source; FREE drops it, HOLDOVER drops it and re-acquires when the selected
reference becomes HEALTHY, and an accepted marker of the other reference evaluates nothing (R6, R10, R11, R16, R19,
R20). -/
def Obligations.AcceptedMarkerUpdatesReference : Prop :=
  ∀ (ref : RefLine) (s : State) (a : Announcement), s.Accepts ref a →
    let k := s.monitor ref
    let good := if ∃ p, k.last = some p ∧ p.source ≠ a.source then 1 else min (k.good + 1) 255
    let becomesHealthy := k.refState = .listening ∧ 3 ≤ good
    let switches := becomesHealthy ∧ ref ≠ s.discipline.selected ∧ s.discipline.autoSwitch = true ∧
      (s.discipline.state = .acquire ∨ s.discipline.state = .holdover) ∧
      ((s.monitor s.discipline.selected).refState = .lost ∨ (s.monitor s.discipline.selected).refState = .disabled)
    let evaluated := ref = s.discipline.selected ∧ (s.discipline.state = .acquire ∨ s.discipline.state = .locked)
    ∃ t, exec (.markerEdge ref) s = .next t ∧
      t.monitor ref = { k with
        unit := .guard (s.timebase.osc + s.clock.guardMs * 1000000)
        last := some ⟨s.lt, a.seconds, a.grade, a.source, s.offsetOf a⟩
        missing := 0
        good := good
        refState := match k.refState with
          | .lost => .listening
          | .listening => if 3 ≤ good then .healthy else .listening
          | r => r } ∧
      t.monitor ref.other = s.monitor ref.other ∧
      t.clock = s.clock ∧ t.stamping = s.stamping ∧ t.matchTable = s.matchTable ∧ t.classTable = s.classTable ∧
      t.pointer = s.pointer ∧ t.pending = s.pending ∧
      (¬ evaluated → t.uncertainty = s.uncertainty ∧ t.lanes = s.lanes ∧ t.books = s.books ∧ t.bookUnit = s.bookUnit) ∧
      (¬ evaluated → ¬ switches → t.timebase = s.timebase) ∧
      (s.discipline.state = .free → t.discipline = s.discipline) ∧
      (s.discipline.state = .holdover → ref = s.discipline.selected →
        t.discipline = if becomesHealthy then { s.discipline with state := .acquire, lockCount := 0 }
          else s.discipline) ∧
      (ref ≠ s.discipline.selected → ¬ switches → t.discipline = s.discipline) ∧
      (switches → t.discipline = { s.discipline with state := .acquire, lockCount := 0, selected := ref } ∧
        t.timebase = { s.timebase with r := max (-200000) (min s.discipline.freq 200000) })

/-! ### Evaluations -/

/-- A slew corrects F and r by the shifted offset rounded toward zero, clamps both, clears the step-pending flag,
fixes the uncertainty at the capture, and leaves LT alone; the lock count and the state follow R17 and R18 (R17, R18,
R24, R25, R30, R36). -/
def Obligations.SlewCorrectsRate : Prop :=
  ∀ (s : State) (a : Announcement), s.Evaluates a → (s.offsetOf a).natAbs ≤ s.clock.s →
    let theta := s.offsetOf a
    let freq := max (-150000) (min (s.discipline.freq - theta.tdiv (2 ^ s.clock.gi)) 150000)
    let base := min (theta.natAbs + gradeNs a.grade) 1000000000
    ∃ t, exec (.markerEdge s.discipline.selected) s = .next t ∧
      t.timebase = { s.timebase with r := max (-200000) (min (freq - theta.tdiv (2 ^ s.clock.gp)) 200000) } ∧
      t.discipline.freq = freq ∧ t.discipline.stepPending = false ∧
      t.discipline.selected = s.discipline.selected ∧ t.discipline.autoSwitch = s.discipline.autoSwitch ∧
      t.uncertainty = ⟨base, s.lt, true, if base ≤ s.stamping.l then .traceable else .degraded, some (s.lt + 1)⟩ ∧
      (s.discipline.state = .acquire → theta.natAbs ≤ s.clock.tLock →
        t.discipline.lockCount = s.discipline.lockCount + 1 ∧
          t.discipline.state = if s.clock.k ≤ s.discipline.lockCount + 1 then .locked else .acquire) ∧
      (s.discipline.state = .acquire → s.clock.tLock < theta.natAbs →
        t.discipline.lockCount = 0 ∧ t.discipline.state = .acquire) ∧
      (s.discipline.state = .locked → 8 * s.clock.tLock < theta.natAbs →
        t.discipline.lockCount = 0 ∧ t.discipline.state = .acquire) ∧
      (s.discipline.state = .locked → theta.natAbs ≤ 8 * s.clock.tLock →
        t.discipline.lockCount = s.discipline.lockCount ∧ t.discipline.state = .locked) ∧
      t = { s with
        timebase := t.timebase, discipline := t.discipline, uncertainty := t.uncertainty, monitorA := t.monitorA
        monitorB := t.monitorB, journal := t.journal, evidence := t.evidence }

/-- A step sets LT to the announced second and keeps the fraction, sets r to F, enters ACQUIRE with lock count 0, and
leaves only the reference's own error as uncertainty; a forward step carries an ARMED book over its boundaries, and
every other book stays as it is. An outstanding probe fails, a waiting compensation then being installed; the hold
lists keep their entries and gain at most triggers; the release and snapshot expiries follow the stepped LT, the moment
of which for a release expiry is the model's choice (log 26); notices, reports and requests stay. Each lane with a
frame in reception and no reservation gets one first, in ascending order: the next number with the lowest free slot
bound to it, or the number lost at once with its event (R24, R26, R31, R67, R69, R104, R130, R152, R159, R179). -/
def Obligations.StepSetsLtToAnnouncedSecond : Prop :=
  (∀ (s : State) (l : LaneId),
    let j := s.journal
    let given (lost : Bool) := j.reservations.set l.val (some ⟨j.counter, lost⟩)
    (∀ r, j.reservation l = some r → s.reserve l = s) ∧
    (j.reservation l = none → j.held.length < 4096 → ∃ slot, slot < 4096 ∧ (∀ h ∈ j.held, h.slot ≠ slot) ∧
      (∀ n, n < slot → ∃ h ∈ j.held, h.slot = n) ∧
      s.reserve l = { s with journal := { j with
        counter := j.counter + 1, held := j.held ++ [⟨j.counter, slot, .bound⟩], reservations := given false } }) ∧
    (j.reservation l = none → 4096 ≤ j.held.length →
      s.reserve l = { s with
        journal := { j with
          counter := j.counter + 1
          lostTotal := j.lostTotal + 1
          gap := some (match j.gap with
            | none => ⟨j.counter, 1⟩
            | some g => ⟨g.first, g.count + 1⟩)
          reservations := given true }
        evidence := s.evidence.apply { kind := .recordLost, lane := some l } })) ∧
  (∀ s : State,
    let taken (t : State) (l : LaneId) := if (s.lane l).rx.isSome then t.reserve l else t
    s.reserveForStep = taken (taken (taken (taken s 0) 1) 2) 3) ∧
  ∀ (s : State) (a : Announcement), s.Evaluates a → s.clock.s < (s.offsetOf a).natAbs → (∀ b, ¬ s.InAuction b) →
    let base := gradeNs a.grade
    let lt := a.seconds * 1000000000
    ∃ t, exec (.markerEdge s.discipline.selected) s = .next t ∧
      t.timebase = { s.timebase with lt := lt, r := max (-200000) (min s.discipline.freq 200000) } ∧
      t.discipline = { s.discipline with state := .acquire, lockCount := 0, stepPending := false } ∧
      t.uncertainty = ⟨base, lt, true, if base ≤ s.stamping.l then .traceable else .degraded, some (lt + 1)⟩ ∧
      t.clock = s.clock ∧ t.stamping = s.stamping ∧ t.matchTable = s.matchTable ∧ t.classTable = s.classTable ∧
      t.pointer = s.pointer ∧ t.pending = s.pending ∧
      (∀ k, (t.lane k).rx = (s.lane k).rx ∧ (t.lane k).aLink = (s.lane k).aLink ∧ (t.lane k).bLink = (s.lane k).bLink ∧
        (t.lane k).credits = (s.lane k).credits ∧ (t.lane k).notices = (s.lane k).notices ∧
        (t.lane k).reports = (s.lane k).reports ∧ (t.lane k).requests = (s.lane k).requests ∧
        (t.lane k).counts = (s.lane k).counts) ∧
      (∀ k,
        let before := s.lane k
        let u := t.lane k
        let fails := ∃ x, before.probe = .outstanding x
        (fails → u.probe = .none ∧
          u.state = (match before.state with
            | .probing .disabled => .disabled
            | .probing .active => .active
            | other => other) ∧
          ∀ m, ∀ r ∈ (t.lane m).replies, r.body ≠ .deferred k .probe) ∧
        (¬ fails → u.probe = before.probe ∧ u.state = before.state) ∧
        (fails ∧ before.rx = none → u.cLane = before.pendingC.getD before.cLane ∧
          u.uLane = before.pendingU.getD before.uLane ∧ u.pendingC = none ∧ u.pendingU = none) ∧
        (¬ (fails ∧ before.rx = none) → u.cLane = before.cLane ∧ u.uLane = before.uLane ∧
          u.pendingC = before.pendingC ∧ u.pendingU = before.pendingU) ∧
        (∃ added, bodies u.hold = bodies before.hold ++ added ∧ ∀ x ∈ added, ∃ b i, x.1 = .trigger b i) ∧
        (∀ z, u.releaseExpiry = some z →
          lt < z ∧ (∃ e ∈ u.hold, e.release = z) ∧ ∀ e ∈ u.hold, lt < e.release → z ≤ e.release) ∧
        (u.releaseExpiry = none → ∀ e ∈ u.hold, e.release ≤ lt)) ∧
      t.evidence.period = s.evidence.period ∧
      (s.evidence.snapshotExpiry = none → t.evidence.snapshotExpiry = none) ∧
      (∀ e, s.evidence.snapshotExpiry = some e →
        let second := s.evidence.period * 1000000000
        t.evidence.snapshotExpiry =
          if s.offsetOf a < 0 ∧ lt < e then some e else some ((lt / second + 1) * second)) ∧
      (∀ k, (s.lane k).rx = none → t.journal.reservation k = s.journal.reservation k) ∧
      (∀ k r, s.journal.reservation k = some r → t.journal.reservation k = some r) ∧
      (∀ k, (s.lane k).rx.isSome → s.journal.reservation k = none → ∃ r, t.journal.reservation k = some r ∧
        s.journal.counter ≤ r.number ∧ r.number < t.journal.counter ∧
        (r.lost = false → ∃ h ∈ t.journal.held, h.number = r.number ∧ h.content = .bound) ∧
        ∀ m q, k < m → (s.lane m).rx.isSome → s.journal.reservation m = none → t.journal.reservation m = some q →
          r.number < q.number) ∧
      (0 ≤ s.offsetOf a → t.bookUnit = s.bookUnit) ∧
      (∀ b, 0 ≤ s.offsetOf a ∨ (s.book b).phase ≠ .armed →
        (t.book b).withoutTriggers = (s.book b).withoutTriggers) ∧
      (s.offsetOf a < 0 → ∀ b arming, (s.book b).phase = .armed → (s.book b).arming = some arming →
        (lt < arming.tc → (t.book b).phase = .armed) ∧
        (arming.tc ≤ lt → lt < arming.tw → (t.book b).phase = .call) ∧
        (arming.tc ≤ lt → arming.tw ≤ lt →
          (t.book b).phase = .window ∨ (t.book b).phase = .freeze ∨ (t.book b).phase = .uncross))

/-- While a book is auction-active a large offset is deferred: LT and F stay, r takes the largest correction allowed,
the step-pending flag is set, the controller is in ACQUIRE with lock count 0, and the whole offset counts as
uncertainty (R24, R27, R32). -/
def Obligations.LargeOffsetIsDeferredInAuction : Prop :=
  ∀ (s : State) (a : Announcement) (b : BookId),
    s.Evaluates a → s.clock.s < (s.offsetOf a).natAbs → s.InAuction b →
    let theta := s.offsetOf a
    let base := min (theta.natAbs + gradeNs a.grade) 1000000000
    ∃ t, exec (.markerEdge s.discipline.selected) s = .next t ∧
      t.timebase = { s.timebase with
        r := max (-200000) (min (s.discipline.freq - theta.tdiv (2 ^ s.clock.gp)) 200000) } ∧
      t.discipline = { s.discipline with state := .acquire, lockCount := 0, stepPending := true } ∧
      t.uncertainty = ⟨base, s.lt, true, if base ≤ s.stamping.l then .traceable else .degraded, some (s.lt + 1)⟩ ∧
      t = { s with
        timebase := t.timebase, discipline := t.discipline, uncertainty := t.uncertainty, monitorA := t.monitorA
        monitorB := t.monitorB, journal := t.journal, evidence := t.evidence }

/-- The growth expiry judges the grade with the grown U_clock, grown no further than to the next expiry, and goes on to
that one, a second later; a change of grade gives one record; before its instant nothing happens. Every step keeps the
grade as a judgement would give it, since U_clock takes a new value only at the events that judge (R33, R34, R35,
R36, R37). -/
def Obligations.GrowthExpiryJudgesGrade : Prop :=
  (∀ s t : State, s.RatesBounded → s.GradeStands → step s = .next t → t.GradeStands) ∧
  ∀ (s : State) (e : Nat), s.uncertainty.growthExpiry = some e →
    let lt := min s.lt (e + 999999999)
    let grown := min (s.uncertainty.uBase + s.stamping.h * ((lt - s.uncertainty.ltMark + 999999999) / 1000000000))
      1000000000
    let grade : Grade := if s.uncertainty.evaluated then (if grown ≤ s.stamping.l then .traceable else .degraded)
      else .untraceable
    (s.lt < e → exec .growthExpiry s = .next s) ∧
    (e ≤ s.lt → ∃ t, exec .growthExpiry s = .next t ∧
      t.uncertainty = { s.uncertainty with growthExpiry := some (e + 1000000000), grade := grade } ∧
      (grade = s.uncertainty.grade → t.journal = s.journal ∧ t.evidence = s.evidence) ∧
      (grade ≠ s.uncertainty.grade → t.journal.counter = s.journal.counter + 1) ∧
      t = { s with uncertainty := t.uncertainty, journal := t.journal, evidence := t.evidence })

/-! ### Links -/

/-- A link event is taken by the state of its link. A lost A link ends the frame in reception, counted, and the
probe; a lost B link leaves no credits, and counts a frame it cut; each event gives a LANE record (R46, R47, R67,
R72). That a return on an UP link and a loss on a DOWN link leave the state as it is, is the model's choice (log 3), and
so is the operand that says whether a frame was cut (log 6). -/
def Obligations.LinkEventsByLinkState : Prop :=
  ∀ (l : LaneId) (cut : Bool) (s : State),
    let u := s.lane l
    (u.aLink = .up → exec (.aLinkReturned l) s = .next s) ∧
    (u.aLink = .down → exec (.aLinkReturned l) s =
      .next ((s.setLane l { u with aLink := .up }).offer (.lane { lane := l, event := .aLinkReturned }))) ∧
    (u.bLink = .up → exec (.bLinkReturned l) s = .next s) ∧
    (u.bLink = .down → exec (.bLinkReturned l) s =
      .next ((s.setLane l { u with bLink := .up }).offer (.lane { lane := l, event := .bLinkReturned }))) ∧
    (u.aLink = .down → exec (.aLinkLost l) s = .next s) ∧
    (u.bLink = .down → exec (.bLinkLost l cut) s = .next s) ∧
    (u.bLink = .up → ∃ t, exec (.bLinkLost l cut) s = .next t ∧
      t.lane l = { u with
        bLink := .down, bTx := none, credits := 0, hold := (t.lane l).hold
        counts := if cut then { u.counts with bTruncated := min (u.counts.bTruncated + 1) 4294967295 }
          else u.counts } ∧
      bodies (t.lane l).hold = bodies u.hold ∧ (u.credits = 0 → (t.lane l).hold = u.hold) ∧
      (∀ k, k ≠ l → t.lane k = s.lane k) ∧ t.books = s.books ∧ t.bookUnit = s.bookUnit ∧
      t.journal.counter = s.journal.counter + 1 ∧ t.fixedPart = s.fixedPart) ∧
    (u.aLink = .up → u.rx = none → u.probe = .none → exec (.aLinkLost l) s =
      .next ((s.setLane l { u with aLink := .down, aTx := none }).offer (.lane { lane := l, event := .aLinkLost }))) ∧
    (u.aLink = .up → ∃ t, exec (.aLinkLost l) s = .next t ∧
      (t.lane l).aLink = .down ∧ (t.lane l).aTx = none ∧ (t.lane l).rx = none ∧ (t.lane l).probe = .none ∧
      (t.lane l).counts = (if u.rx.isSome then { u.counts with aTruncated := min (u.counts.aTruncated + 1) 4294967295 }
        else u.counts) ∧
      (t.lane l).state = (if u.probe = .none then u.state
        else match u.state with
          | .probing .disabled => .disabled
          | .probing .active => .active
          | other => other) ∧
      (t.lane l).bLink = u.bLink ∧ (t.lane l).credits = u.credits ∧ (t.lane l).notices = u.notices ∧
      (t.lane l).reports = u.reports ∧ (t.lane l).requests = u.requests ∧
      (u.rx.isSome ∨ u.probe ≠ .none → (t.lane l).compPending = false) ∧
      (∀ k, k ≠ l → (t.lane k).withoutReplies = (s.lane k).withoutReplies) ∧
      (∀ b, (t.book b).withoutTriggers = (s.book b).withoutTriggers) ∧ t.bookUnit = s.bookUnit ∧
      s.journal.counter + (if u.probe = .none then 1 else 2) ≤ t.journal.counter ∧ t.fixedPart = s.fixedPart)

/-! ### The A port -/

/-- The start of a frame forms the stamp from LT and C_lane, U_stamp from U_clock and U_lane, the stamp grade from
both, and keeps the day origin; a port whose link is DOWN receives nothing, and one frame is in reception at a time
(R33, R34, R38, R39, R48, R57). A growth expiry that is due and not yet taken does not enter: U_clock is then the one
just before its instant. -/
def Obligations.StartOfFrameFormsStamp : Prop :=
  ∀ (l : LaneId) (s : State),
    let u := s.lane l
    let lt := match s.uncertainty.growthExpiry with
      | none => s.lt
      | some e => min s.lt (e - 1)
    let uClock := if s.uncertainty.evaluated then
        min (s.uncertainty.uBase + s.stamping.h * ((lt - s.uncertainty.ltMark + 999999999) / 1000000000)) 1000000000
      else 1000000000
    let uStamp := min (uClock + u.uLane) 1000000000
    let grade : Grade := if s.uncertainty.grade = .untraceable then .untraceable
      else if uStamp ≤ s.stamping.l then .traceable else .degraded
    (u.aLink = .down ∨ u.rx.isSome → exec (.startOfFrame l) s = .next s) ∧
    (u.aLink = .up → u.rx = none → exec (.startOfFrame l) s =
      .next (s.setLane l { u with rx := some ⟨s.lt, s.lt - u.cLane, uStamp, grade, s.stamping.dayOrigin⟩ }))

/-- Frames that end oversize, short or with a failed check, and control frames the port does not take, are counted and
dropped: on an A port where a frame is in reception, which ends with it, and on a B port whose link is UP (R49, R51,
R71, R73, R183). Why a frame is recognised so stands in FrameRecognition. That the end of a frame where none is in
reception does nothing is the model's choice (log 3). -/
def Obligations.DiscardedFramesAreCounted : Prop :=
  ∀ (l : LaneId) (f : Bytes) (s : State) (rx : Reception),
    let u := s.lane l
    let inc (n : Nat) := min (n + 1) 4294967295
    let counted (c : LaneCounts) := s.setLane l { u with counts := c }
    let ended (t : State) := (t.endReception l).afterReception l
    (u.rx = none → exec (.aFrameDiscarded l f) s = .next s ∧ exec (.aControlFrame l f) s = .next s) ∧
    (u.rx = some rx → recogniseA s.stamping.entryType f = .oversize → exec (.aFrameDiscarded l f) s =
      .next (ended (counted { u.counts with aOversize := inc u.counts.aOversize }))) ∧
    (u.rx = some rx → recogniseA s.stamping.entryType f = .failedCheck → exec (.aFrameDiscarded l f) s =
      .next (ended (counted { u.counts with aFcsError := inc u.counts.aFcsError }))) ∧
    (u.rx = some rx → recogniseA s.stamping.entryType f = .control → exec (.aControlFrame l f) s =
      .next (ended (counted { u.counts with aControlDiscarded := inc u.counts.aControlDiscarded }))) ∧
    (u.bLink = .down → exec (.bFrameDiscarded l f) s = .next s ∧ exec (.bControlDiscarded l f) s = .next s ∧
      exec (.shortControlFrame l f) s = .next s) ∧
    (u.bLink = .up → recogniseB f = .oversize → exec (.bFrameDiscarded l f) s =
      .next (counted { u.counts with bOversize := inc u.counts.bOversize })) ∧
    (u.bLink = .up → recogniseB f = .failedCheck → exec (.bFrameDiscarded l f) s =
      .next (counted { u.counts with bFcsError := inc u.counts.bFcsError })) ∧
    (u.bLink = .up → recogniseB f = .partSent → exec (.bControlDiscarded l f) s =
      .next (counted { u.counts with bControlDiscarded := inc u.counts.bControlDiscarded })) ∧
    (u.bLink = .up → recogniseB f = .noKind → exec (.shortControlFrame l f) s =
      .next (s.setLane l { u with shortControl := inc u.shortControl }))

/-- How a frame that ended is recognised: by its length, its check, its type and, for a control frame, its kind byte; and
the four conditions of a well-formed entry frame (R49, R50, R51, R55, R71, R183, R204). -/
def Obligations.FrameRecognition : Prop :=
  (∀ (entryType : Nat) (f : Bytes),
     (2048 < f.length → recogniseA entryType f = .oversize ∧ recogniseB f = .oversize) ∧
     (f.length < 18 ∨ (f.length ≤ 2048 ∧ checkHolds f = false) →
       recogniseA entryType f = .failedCheck ∧ recogniseB f = .failedCheck) ∧
     (18 ≤ f.length → f.length ≤ 2048 → checkHolds f = true →
       let control := (f[12]?).map BitVec.toNat = some 0x9A ∧ (f[13]?).map BitVec.toNat = some 0x4C
       let kind := (f[14]?).map BitVec.toNat
       (control → 19 ≤ f.length →
         (recogniseA entryType f = if kind = some 0x33 then .probe else .control) ∧
         recogniseB f =
           if kind = some 0x20 then .creditGrant
           else if kind = some 0x21 then .uncrossDone
           else if kind = some 0x30 ∨ kind = some 0x31 ∨ kind = some 0x32 ∨ kind = some 0x33 ∨ kind = some 0x34 then
             .partSent
           else .request) ∧
       (control → f.length = 18 → recogniseA entryType f = .control ∧ recogniseB f = .noKind) ∧
       (¬ control → recogniseB f = .report ∧
         recogniseA entryType f = if frameType f = entryType then .entry else .foreign))) ∧
  (∀ f : Bytes, 18 ≤ f.length →
     (entryWellFormed f = true ↔
       f.length ≤ 1518 ∧ 38 ≤ f.length ∧ (f[14]?).map BitVec.toNat = some 1 ∧
       ∃ hi lo : Byte, f[16]? = some hi ∧ f[17]? = some lo ∧
         (hi.toNat * 256 + lo.toNat = f.length - 38 ∨
           (f.length = 64 ∧ hi.toNat * 256 + lo.toNat ≤ f.length - 38))))

/-- The end of a frame in reception: nothing is in reception, a reservation still held becomes a VOID record, ripe
pending triggers are placed and the others wait, and a written compensation is installed unless a probe is queued or
outstanding (R48, R69, R140, R141, R153). That a trigger ripe under the old C_lane is placed although a compensation
waits, the placement test coming before the installation, is the model's choice (log 11), and so is that a field not
written keeps the value installed at the installation (log 35). -/
def Obligations.EndOfReceptionRule : Prop :=
  ∀ (l : LaneId) (s : State),
    let u := s.lane l
    let t := (s.endReception l).afterReception l
    (t.lane l).rx = none ∧ t.journal.reservation l = none ∧
    (∀ r h, s.journal.reservation l = some r → r.lost = false → h ∈ s.journal.held → h.number = r.number →
      { h with content := .written s.lt .gapVoid } ∈ t.journal.held) ∧
    (∀ p ∈ u.pendingTriggers, p.endInstant + u.cLane ≤ s.lt → p ∉ (t.lane l).pendingTriggers ∧
      (t.book p.book).trigger l = .held ∧ (.trigger p.book p.endInstant, s.lt) ∈ bodies (t.lane l).hold) ∧
    (∀ p ∈ u.pendingTriggers, (∀ q ∈ u.pendingTriggers, q.book = p.book → q = p) → u.compPending = false →
      s.lt < p.endInstant + u.cLane → p ∈ (t.lane l).pendingTriggers) ∧
    (u.compPending = true → u.probe = .none →
      (t.lane l).cLane = u.pendingC.getD u.cLane ∧ (t.lane l).uLane = u.pendingU.getD u.uLane ∧
      (t.lane l).pendingC = none ∧ (t.lane l).pendingU = none) ∧
    (u.compPending = false ∨ u.probe ≠ .none → (t.lane l).cLane = u.cLane ∧ (t.lane l).uLane = u.uLane ∧
      (t.lane l).pendingC = u.pendingC ∧ (t.lane l).pendingU = u.pendingU) ∧
    (u.compPending = false → u.pendingTriggers = [] → s.journal.reservation l = none →
      t = s.setLane l { u with rx := none }) ∧
    (∀ k, k ≠ l → t.lane k = s.lane k) ∧ (∀ b, (t.book b).withoutTriggers = (s.book b).withoutTriggers) ∧
    t.bookUnit = s.bookUnit ∧ t.fixedPart = s.fixedPart

/-- An entry frame is handled by the state of its lane, and its reception then ends: DISABLED counts it, DRAINING and
PROBING refuse it, ACTIVE refuses a malformed one and judges any other by its class, its book's answer and the hold
list (R53, R54, R55, R80, R121, R122). What the query to the book takes stands in BoundariesAreTakenInOrder. -/
def Obligations.EntryFrameByLaneState : Prop :=
  ∀ (l : LaneId) (f : Bytes) (s : State) (rx : Reception), (s.lane l).rx = some rx →
    recogniseA s.stamping.entryType f = .entry →
    let u := s.lane l
    let h := entryHeader (payload f)
    let ended (t : State) := (t.endReception l).afterReception l
    let refusedAs (r : EntryRefusal) := ended (s.refuseEntry l rx ⟨h, none, none, .opened, .refused r⟩ r)
    let c := s.classTable[(s.classify h).val]
    let asked := match c.book with
      | none => s
      | some b => s.takeForQuery b rx.stamp
    let gating := match c.book with
      | none => .opened
      | some b => (asked.book b).answer l rx.stamp
    let room := frameCount (asked.lane l).hold < 64
    let judged (d : Disposition) : Judged := ⟨h, some (s.classify h), c.book, gating, d⟩
    let early := gating = .opened ∨ ((gating = .call ∨ gating = .window) ∧ c.admission = .accept)
    let late := (gating = .freeze ∨ gating = .post) ∧ c.lateAction = .mark
    let outcome (t : State) := exec (.entryFrame l f) s = .next (ended t)
    (u.state = .disabled → outcome ((s.setLane l { u with
        counts := { u.counts with disabledDiscarded := min (u.counts.disabledDiscarded + 1) 4294967295 } }).raise
      { kind := .discardedDisabled, lane := some l })) ∧
    (u.state = .draining → exec (.entryFrame l f) s = .next (refusedAs .laneDraining)) ∧
    (∀ r, u.state = .probing r → exec (.entryFrame l f) s = .next (refusedAs .laneProbing)) ∧
    (u.state = .active → entryWellFormed f = false → exec (.entryFrame l f) s = .next (refusedAs .malformed)) ∧
    (u.state = .active → entryWellFormed f = true →
      (early → room → outcome (asked.forwardEntry l f rx (judged .pass) (s.classify h) c)) ∧
      (late → room → outcome (asked.forwardEntry l f rx (judged .late) (s.classify h) c)) ∧
      (early ∨ late → ¬ room → outcome (asked.refuseEntry l rx (judged (.refused .overflow)) .overflow)) ∧
      ((gating = .call ∨ gating = .window) → c.admission = .refuse →
        outcome (asked.refuseEntry l rx (judged (.refused .auctionExcluded)) .auctionExcluded)) ∧
      ((gating = .freeze ∨ gating = .post) → c.lateAction = .refuse →
        outcome (asked.refuseEntry l rx (judged (.refused .lateRefused)) .lateRefused)))

/-- The class of a header: an enabled entry matches where its value and the header agree outside the mask within the
selector's width, a class record by its two sets, and the first of classes 0 to 14 that matches is the class, 15
where none does (R77, R79, R80). -/
def Obligations.ClassificationRule : Prop :=
  ∀ (s : State) (h : EntryHeader),
    let width (sel : Selector) := match sel with
      | .session => 16
      | .member => 16
      | .instrument => 32
      | .kind => 8
    let read (sel : Selector) : Nat := match sel with
      | .session => h.session
      | .member => h.member
      | .instrument => h.instrument
      | .kind => h.kind.code
    let hits (n : EntryId) : Prop :=
      s.matchTable[n.val].enabled = true ∧
        ∀ i : Nat, i < width s.matchTable[n.val].selector →
          s.matchTable[n.val].mask.getLsbD i = true ∨
            (read s.matchTable[n.val].selector).testBit i = s.matchTable[n.val].value.getLsbD i
    let matching (c : ClassId) : Prop :=
      (s.classTable[c.val].anyOf ≠ 0 ∨ s.classTable[c.val].allOf ≠ 0) ∧
      (s.classTable[c.val].anyOf = 0 ∨ ∃ n : EntryId, s.classTable[c.val].anyOf.getLsbD n.val = true ∧ hits n) ∧
      ∀ n : EntryId, s.classTable[c.val].allOf.getLsbD n.val = true → hits n
    (∀ c : ClassId, c.val < 15 →
      (s.classify h = c ↔ matching c ∧ ∀ d : ClassId, d.val < c.val → ¬ matching d)) ∧
    (s.classify h = 15 ↔ ∀ c : ClassId, c.val < 15 → ¬ matching c)

/-- The gating phase a book answers for a stamp of a lane, phase by phase (R110, R111). -/
def Obligations.GatingAnswerTable : Prop :=
  ∀ (b : Book) (l : LaneId) (stamp : Nat) (a : Arming) (d : Draw), b.arming = some a → b.draw = some d →
    let e := d.endInstant
    let byStamp : Gating :=
      if stamp < a.tc then .opened
      else if stamp < a.tw then .call
      else if stamp < e then .window
      else if stamp < e + a.d * 1000000 then .freeze
      else .post
    ({ b with arming := none, draw := none, phase := .idle }.answer l stamp = .opened) ∧
    ({ b with draw := none, phase := .armed }.answer l stamp = .opened) ∧
    ({ b with draw := none, phase := .call }.answer l stamp = if stamp < a.tc then .opened else .call) ∧
    (b.phase = .window ∨ b.phase = .freeze → b.answer l stamp = byStamp) ∧
    (b.phase = .uncross ∨ b.phase = .closed →
      b.answer l stamp =
        if (b.trigger l = .held ∨ b.trigger l = .released) ∧ stamp < e then .post else byStamp)

/-- A refused entry frame gives a notice, or its suppression when sixteen wait, one ENTRY record under the lane's
number, and the events of its reason; it joins no hold list (R122, R123, R124, R125, R149, R153, R158). -/
def Obligations.RefusedEntryIsRecordedAndNoticed : Prop :=
  ∀ (l : LaneId) (s : State) (rx : Reception) (j : Judged) (r : EntryRefusal), j.disposition = .refused r →
    let u := s.lane l
    let t := s.refuseEntry l rx j r
    let full := 16 ≤ u.notices.length
    let number := ((s.journal.reservation l).map Reservation.number).getD s.journal.counter
    let record : RecordBody := .entry
      { lane := l, stamp := rx.stamp, uStamp := rx.uStamp, grade := rx.grade, cls := j.cls, book := j.book
        gating := j.gating, disposition := .refused r, notice := some (if full then .suppressed else .queued)
        header := j.header }
    let event (k : EvidenceKind) : EvidenceEvent := { kind := k, lane := some l, cls := j.cls, book := j.book }
    let reasonEvents := match r with
      | .malformed => [event .entryMalformed]
      | .overflow => [event .entryRefused, event .overflow]
      | _ => [event .entryRefused]
    let lostBefore := s.journal.reservation l = none ∧ 4096 ≤ s.journal.held.length
    let events := (if lostBefore then [event .recordLost] else []) ++ reasonEvents
      ++ (if full then [event .noticeSuppressed] else [])
    t = { s with lanes := t.lanes, journal := t.journal, evidence := events.foldl Evidence.apply s.evidence } ∧
    (∀ k, k ≠ l → t.lane k = s.lane k) ∧
    t.lane l = { u with
      notices := if full then u.notices
        else u.notices ++ [⟨number, l, r, rx.stamp, j.header, j.cls, j.book, j.gating⟩] } ∧
    (s.journal.reservation l = none → t.journal.counter = s.journal.counter + 1) ∧
    (s.journal.reservation l = none → s.journal.held.length < 4096 →
      t.journal.held = s.journal.held ++ [⟨number, s.journal.lowestFree, .written s.lt record⟩]) ∧
    (∀ x, s.journal.reservation l = some x →
      t.journal.counter = s.journal.counter ∧ t.journal.reservation l = none ∧
      (x.lost = false → ∀ h ∈ s.journal.held, h.number = x.number →
        { h with content := .written s.lt record } ∈ t.journal.held) ∧
      (x.lost = true → t.journal.held = s.journal.held))

/-- A passed or late entry frame gives one ENTRY record and the event of its disposition, and joins the hold list with
the trailer that carries its number, to be released its delay after the capture (R61, R122, R123, R128, R129,
R149). -/
def Obligations.ForwardedEntryIsRecordedAndHeld : Prop :=
  ∀ (l : LaneId) (s : State) (f : Bytes) (rx : Reception) (j : Judged) (n : ClassId) (c : ClassRecord),
    j.cls = some n → (j.disposition = .pass ∨ j.disposition = .late) →
    let number := ((s.journal.reservation l).map Reservation.number).getD s.journal.counter
    let late := decide (j.disposition = .late)
    let event (k : EvidenceKind) : EvidenceEvent := { kind := k, lane := some l, cls := some n, book := j.book }
    let lostBefore := s.journal.reservation l = none ∧ 4096 ≤ s.journal.held.length
    let record : RecordBody := .entry
      { lane := l, stamp := rx.stamp, uStamp := rx.uStamp, grade := rx.grade, cls := some n, book := j.book
        gating := j.gating, disposition := j.disposition, notice := none, header := j.header }
    ∃ w : State, s.forwardEntry l f rx j n c =
        w.admitFrame l (orderKeyOf j.header) j.book (some n) rx.captured (rx.captured + c.delayUnits * s.stamping.q)
          (withTrailer f (trailer c.format number l n j.book rx j.gating late)) ∧
      w = { s with
        journal := w.journal
        evidence := ((if lostBefore then [event .recordLost] else []) ++
          [event (if late then .entryLate else .entryPass)]).foldl Evidence.apply s.evidence } ∧
      (s.journal.reservation l = none → w.journal.counter = s.journal.counter + 1) ∧
      (s.journal.reservation l = none → s.journal.held.length < 4096 →
        w.journal.held = s.journal.held ++ [⟨number, s.journal.lowestFree, .written s.lt record⟩]) ∧
      (∀ x, s.journal.reservation l = some x →
        w.journal.counter = s.journal.counter ∧ w.journal.reservation l = none ∧
        (x.lost = false → ∀ h ∈ s.journal.held, h.number = x.number →
          { h with content := .written s.lt record } ∈ w.journal.held))

/-- A frame that joins a hold list stands at its tail in a slot that was free, its release time kept; one that is not
yet due moves the release expiry no later than its release time, and nothing but the lane and the events of waits
changes (R127, R129, R130, R133). A slot still in transmission is not free (R137), but for the model's choice where
63 others are held (log 30). -/
def Obligations.AdmittedFrameJoinsTail : Prop :=
  ∀ (l : LaneId) (s : State) (key : Option OrderKey) (book : Option BookId) (cls : Option ClassId)
    (captured release : Nat) (f : Bytes),
    let u := s.lane l
    let t := s.admitFrame l key book cls captured release f
    ∃ slot, bodies (t.lane l).hold = bodies u.hold ++ [(.frame ⟨key, book, cls, captured, slot, f⟩, release)] ∧
      (frameCount u.hold < 64 → slot < 64 ∧ ∀ e ∈ u.hold, ∀ g, e.body = .frame g → g.slot ≠ slot) ∧
      (frameCount u.hold < 63 → ∀ sent, u.bTx = some sent → sent.slot ≠ some slot) ∧
      t.lane l = { u with hold := (t.lane l).hold, releaseExpiry := (t.lane l).releaseExpiry } ∧
      (release ≤ s.lt → (t.lane l).releaseExpiry = u.releaseExpiry) ∧
      (s.lt < release → t.evidence = s.evidence ∧ (t.lane l).releaseExpiry =
        some (match u.releaseExpiry with
          | none => release
          | some x => min x release)) ∧
      (∀ k, k ≠ l → t.lane k = s.lane k) ∧
      t = { s with lanes := t.lanes, evidence := t.evidence, freeIndex := s.freeIndex + 1 }

/-- A foreign frame is counted and discarded in DISABLED, joins the hold list without key, book and class in every
other state while there is room, and overflows otherwise; the reception then ends (R52, R127). -/
def Obligations.ForeignFrameByLaneState : Prop :=
  ∀ (l : LaneId) (f : Bytes) (s : State) (rx : Reception), (s.lane l).rx = some rx →
    recogniseA s.stamping.entryType f = .foreign →
    let u := s.lane l
    let seen := s.raise { kind := .foreign, lane := some l }
    let inc (n : Nat) := min (n + 1) 4294967295
    let outcome (t : State) := exec (.foreignFrame l f) s = .next ((t.endReception l).afterReception l)
    (u.state = .disabled → outcome ((seen.setLane l { u with
      counts := { u.counts with disabledDiscarded := inc u.counts.disabledDiscarded } }).raise
        { kind := .discardedDisabled, lane := some l })) ∧
    (u.state ≠ .disabled → frameCount u.hold < 64 →
      outcome (seen.admitFrame l none none none rx.captured rx.captured f)) ∧
    (u.state ≠ .disabled → 64 ≤ frameCount u.hold → outcome ((seen.setLane l { u with
      counts := { u.counts with foreignOverflow := inc u.counts.foreignOverflow } }).raise
        { kind := .overflow, lane := some l }))

/-- A returning probe installs half the round trip and the allowance of it, limited to 65,535; a stale one is counted;
the timeout, taken when LT has reached T1 + 10 ms, ends the probe with the values as they were. In each case the lane
returns to the state it came from, the deferred PROBE reply is completed with the outcome, and a written compensation
that waits then replaces the result, field by field (R62, R63, R64, R65, R66, R67, R69). That a T2 below T1 counts as
R = 0 is the model's choice (log 36), and so is that the field not written keeps the result of the probe (log 35). -/
def Obligations.ProbeEndsByReturnOrTimeout : Prop :=
  ∀ (l : LaneId) (f : Bytes) (s : State) (rx : Reception) (t1 : Nat),
    let u := s.lane l
    let p := payload f
    let back : LaneState := match u.state with
      | .probing .disabled => .disabled
      | .probing .active => .active
      | other => other
    let quiet := u.pendingC = none ∧ u.pendingU = none
    let answered (k : LaneId) (outcome trip : Bytes) (c v : Nat) : List Reply :=
      let content := uField 1 l.val ++ uField 1 4 ++ (1 :: outcome) ++ trip ++ uField 2 c ++ uField 2 v
      (s.lane k).replies.map fun r => if r.body = .deferred l .probe then ⟨r.id, r.kind, .completed .ok content⟩ else r
    (u.rx = some rx → recogniseA s.stamping.entryType f = .probe → u.probe = .outstanding t1 → 3 ≤ p.length →
      field p 1 2 = u.lastProbeId → quiet →
      ∃ t, exec (.probeReturn l f) s = .next t ∧
        (t.lane l).cLane = min ((rx.captured - t1) / 2) 65535 ∧
        (t.lane l).uLane = min (((rx.captured - t1) * u.allowance + 99) / 100) 65535 ∧
        (t.lane l).probe = .none ∧ (t.lane l).state = back ∧ (t.lane l).rx = none ∧
        (t.lane l).counts = u.counts ∧ (t.lane l).credits = u.credits ∧
        (∀ k, k ≠ l → (t.lane k).withoutReplies = (s.lane k).withoutReplies) ∧
        (∀ b, (t.book b).withoutTriggers = (s.book b).withoutTriggers) ∧
        t.journal.counter = s.journal.counter + 1 ∧ t.fixedPart = s.fixedPart) ∧
    (u.rx = some rx → recogniseA s.stamping.entryType f = .probe → u.probe = .outstanding t1 → 3 ≤ p.length →
      field p 1 2 = u.lastProbeId →
      let roundTrip := rx.captured - t1
      let newC := min (roundTrip / 2) 65535
      let newU := min ((roundTrip * u.allowance + 99) / 100) 65535
      ∃ t, exec (.probeReturn l f) s = .next t ∧
        (t.lane l).cLane = u.pendingC.getD newC ∧ (t.lane l).uLane = u.pendingU.getD newU ∧
        (t.lane l).pendingC = none ∧ (t.lane l).pendingU = none ∧
        (t.lane l).probe = .none ∧ (t.lane l).state = back ∧ (t.lane l).rx = none ∧
        (∀ k, (t.lane k).replies = answered k (uField 1 1) (1 :: uField 4 roundTrip) newC newU) ∧
        (¬ quiet → t.journal.counter = s.journal.counter + 2)) ∧
    (u.rx = some rx → recogniseA s.stamping.entryType f = .probe →
      (u.probe = .none ∨ u.probe = .queued ∨ p.length < 3 ∨ field p 1 2 ≠ u.lastProbeId) →
      exec (.probeReturn l f) s = .next
        (((s.setLane l { u with counts := { u.counts with
          probeStale := min (u.counts.probeStale + 1) 4294967295 } }).endReception l).afterReception l)) ∧
    (u.probe = .outstanding t1 → s.lt < t1 + 10000000 → exec (.probeTimeout l) s = .next s) ∧
    (u.probe = .outstanding t1 → t1 + 10000000 ≤ s.lt →
      ∃ t, exec (.probeTimeout l) s = .next t ∧
        (t.lane l).probe = .none ∧ (t.lane l).state = back ∧ (t.lane l).rx = u.rx ∧
        (quiet → (t.lane l).cLane = u.cLane ∧ (t.lane l).uLane = u.uLane) ∧
        (quiet → t.journal.counter = s.journal.counter + 1) ∧
        (∀ k r, r ∈ (t.lane k).replies → r.body ≠ .deferred l .probe) ∧
        (∀ k, (t.lane k).replies = answered k (uField 1 2) (fill 5) u.cLane u.uLane) ∧
        (∀ k, k ≠ l → (t.lane k).withoutReplies = (s.lane k).withoutReplies) ∧
        (∀ b, (t.book b).withoutTriggers = (s.book b).withoutTriggers) ∧ t.fixedPart = s.fixedPart)

/-! ### The B port -/

/-- A report joins a FIFO of thirty-two or is dropped with an event; a request joins a queue of eight, is counted where
the queue is full, and is discarded and counted on a lane without permission; a credit grant adds its credits up to
thirty-two, what is above raising one event, then judging the waits if the count has changed, and one too short is
counted; a port whose link is DOWN receives none of them (R70, R71, R133, R134, R146, R184, R198). What the judgement
of the waits gives stands in ExpiriesFollowLt. -/
def Obligations.ReportsRequestsAndCredits : Prop :=
  (∀ (l : LaneId) (f : Bytes) (s : State),
     let u := s.lane l
     (u.bLink = .down → exec (.reportFrame l f) s = .next s ∧ exec (.controlRequestArrival l f) s = .next s ∧
       exec (.creditGrant l f) s = .next s) ∧
     (u.bLink = .up → recogniseB f = .report →
       (u.reports.length < 32 →
         exec (.reportFrame l f) s = .next (s.setLane l { u with reports := u.reports ++ [f] })) ∧
       (32 ≤ u.reports.length →
         exec (.reportFrame l f) s = .next (s.raise { kind := .reportDropped, lane := some l }))) ∧
     (u.bLink = .up → recogniseB f = .request →
       (u.permission = false → exec (.controlRequestArrival l f) s = .next (s.setLane l { u with
         counts := { u.counts with requestNoPermission := min (u.counts.requestNoPermission + 1) 4294967295 } })) ∧
       (u.permission = true → u.requests.length < 8 →
         exec (.controlRequestArrival l f) s = .next (s.setLane l { u with requests := u.requests ++ [f] })) ∧
       (u.permission = true → 8 ≤ u.requests.length → exec (.controlRequestArrival l f) s = .next (s.setLane l
         { u with requestOverflow := min (u.requestOverflow + 1) 4294967295 })))) ∧
  (∀ (l : LaneId) (f : Bytes) (s : State), (s.lane l).bLink = .up → recogniseB f = .creditGrant →
     let u := s.lane l
     let p := payload f
     let n := field p 1 1
     let granted := min (u.credits + n) 32
     let noted := if 32 < u.credits + n ∧ n ≠ 0 then s.raise { kind := .creditExcess, lane := some l } else s
     (p.length < 2 → exec (.creditGrant l f) s = .next (s.setLane l
       { u with shortControl := min (u.shortControl + 1) 4294967295 })) ∧
     (2 ≤ p.length → granted = u.credits → exec (.creditGrant l f) s = .next noted) ∧
     (2 ≤ p.length → granted ≠ u.credits →
       exec (.creditGrant l f) s = .next ((noted.setLane l { u with credits := granted }).judgeWaits l)) ∧
     (2 ≤ p.length → ∃ t, exec (.creditGrant l f) s = .next t ∧
       t.lane l = { u with credits := granted, hold := (t.lane l).hold } ∧
       bodies (t.lane l).hold = bodies u.hold ∧
       (∀ k, k ≠ l → t.lane k = s.lane k) ∧
       t = { s with lanes := t.lanes, evidence := t.evidence }))

/-- A confirmation closes a book in UNCROSS with its result, is late in a CLOSED book without a result, and is
unexpected, counted, in any other phase and in a CLOSED book that has one; one too short or with an unlisted code is
counted as malformed (R116, R118, R120, R198). -/
def Obligations.ConfirmationByPhase : Prop :=
  ∀ (l : LaneId) (f : Bytes) (s : State) (b : BookId) (r : ConfirmResult),
    (s.lane l).bLink = .up → recogniseB f = .uncrossDone →
    let p := payload f
    let k := s.book b
    let u := s.bookUnit
    (p.length < 3 ∨ 8 ≤ field p 1 1 ∨ field p 2 1 < 1 ∨ 3 < field p 2 1 → exec (.uncrossDone l f) s =
      .next { s with bookUnit := { u with malformed := min (u.malformed + 1) 4294967295 } }) ∧
    (3 ≤ p.length → field p 1 1 = b.val →
      field p 2 1 = (match r with
        | .done => 1
        | .noCross => 2
        | .aborted => 3) →
      (k.phase = .uncross → exec (.uncrossDone l f) s =
        .next ((s.setBook b { k with phase := .closed, result := some r, uncrossAt := none }).offer
          (.book { book := b, event := .confirmed, result := some r }))) ∧
      (k.phase = .closed → k.result = none → exec (.uncrossDone l f) s =
        .next (s.offer (.book { book := b, event := .lateConfirmation, result := some r }))) ∧
      (k.phase ≠ .uncross → (k.phase = .closed → k.result ≠ none) → exec (.uncrossDone l f) s =
        .next ({ s with bookUnit := { u with unexpected := min (u.unexpected + 1) 4294967295 } }.offer
          (.book { book := b, event := .unexpectedConfirmation, result := some r, phase := some k.phase }))))

/-! ### What leaves a lane -/

/-- The release arbiter offers the earliest entry of a list that is due, has a credit if it is a frame, and follows no
entry that conflicts with it. Two keys conflict when the session is the same and one is session-wide or the references
are equal; a TRIGGER conflicts with what belongs to its book (R128, R130, R131, R132, R136). -/
def Obligations.ReleaseArbiterOffersEarliestEligible : Prop :=
  (∀ (s : State) (l : LaneId),
     let u := s.lane l
     let isEligible (before : List HoldEntry) (e : HoldEntry) : Prop :=
       e.release ≤ s.lt ∧ (e.isFrame = true → 1 ≤ u.credits) ∧ ∀ f ∈ before, f.conflicts e = false
     (∀ before e behind, s.releaseCandidate l = some (before, e, behind) ↔
       u.hold = before ++ e :: behind ∧ isEligible before e ∧
         ∀ b f c, before = b ++ f :: c → ¬ isEligible b f) ∧
     (s.releaseCandidate l = none ↔ ∀ before e behind, u.hold = before ++ e :: behind → ¬ isEligible before e)) ∧
  ((∀ h : EntryHeader,
     orderKeyOf h =
       if h.kind = .new ∨ h.kind = .modify ∨ h.kind = .cancel then some (.order h.session h.clientRef)
       else if h.kind = .massCancel then some (.sessionWide h.session)
       else none) ∧
   ∀ (e f : HoldEntry), e.conflicts f = true ↔
     (∃ a b x y, e.body = .frame a ∧ f.body = .frame b ∧ a.key = some x ∧ b.key = some y ∧
       ((∃ n r, x = .order n r ∧ y = .order n r) ∨ (∃ n r, x = .order n r ∧ y = .sessionWide n) ∨
         (∃ n r, x = .sessionWide n ∧ y = .order n r) ∨ (∃ n, x = .sessionWide n ∧ y = .sessionWide n))) ∨
     (∃ b i, e.body = .trigger b i ∧ ((∃ g, f.body = .frame g ∧ g.book = some b) ∨ ∃ k, f.body = .trigger b k)) ∨
     (∃ b i g, f.body = .trigger b i ∧ e.body = .frame g ∧ g.book = some b))

/-- A free B egress sends, in this order, the release candidate, the completed reply at the head, an export frame; the
reply or the export goes ahead once the wait count is eight. A frame takes a credit, is sent from its slot and raises
FRAME_RELEASED with its residence; a trigger is reported RELEASED with its record; the release expiry stays with the
release times that are left, the waits are judged, and a drain that ends gives its record and its deferred reply (R44,
R72, R115, R130, R133, R135, R137, R138, R144, R145, R163, R185). One judgement after the removal and the change of the
credits together is the model's choice (log 14). -/
def Obligations.EngineEgressSendsFirstCandidate : Prop :=
  ∀ (s : State) (l : LaneId) (before behind : List HoldEntry) (e : HoldEntry) (id kind : Nat) (status : Status)
    (content : Bytes) (rest : List Reply),
    let u := s.lane l
    let replyPresent := ∃ r w, u.replies = r :: w ∧ ∃ x y, r.body = .completed x y
    let exportPresent := s.journal.exportLane = l ∧ s.journal.exportReady = true
    let others := replyPresent ∨ exportPresent
    let releases := s.releaseCandidate l = some (before, e, behind) ∧ ¬ (u.engineWait = 8 ∧ others)
    let yields := s.releaseCandidate l = none ∨ (u.engineWait = 8 ∧ others)
    let waited (n : Nat) : Prop := (others → n = min (u.engineWait + 1) 8) ∧ (¬ others → n = u.engineWait)
    let left (x : Option Nat) : Prop :=
      (u.releaseExpiry = none → x = none) ∧
      ∀ y, u.releaseExpiry = some y →
        (∀ z, x = some z → y ≤ z ∧ (∃ f ∈ before ++ behind, f.release = z) ∧
          ∀ f ∈ before ++ behind, y ≤ f.release → z ≤ f.release) ∧
        (x = none → ∀ f ∈ before ++ behind, f.release < y)
    let removed (x : Option Nat) (n credits : Nat) (sent : Sending) : State := s.setLane l { u with
      hold := before ++ behind, releaseExpiry := x, engineWait := n, credits := credits, bTx := some sent }
    let triggerSent (b : BookId) (i : Nat) : Sending :=
      ⟨ownFrame (4 + l.val) (uField 1 0x32 ++ uField 1 b.val ++ timeField i ++ uField 1 l.val), none⟩
    let ended (w : State) : State :=
      if u.state = .draining ∧ before ++ behind = [] then
        ((w.setLane l { w.lane l with state := .disabled }).offer (.lane { lane := l, event := .disabled })).completeReply l
          .drain .ok (uField 1 l.val ++ uField 1 2 ++ fill 2 ++ fill 5 ++ uField 2 u.cLane ++ uField 2 u.uLane)
      else w
    let departed (t : State) : Prop :=
      exec (.engineEgressChoice l) s = .next t ∧
      bodies (t.lane l).hold = bodies (before ++ behind) ∧
      waited (t.lane l).engineWait ∧
      (t.lane l).state = (if u.state = .draining ∧ before ++ behind = [] then .disabled else u.state) ∧
      (t.lane l).notices = u.notices ∧ (t.lane l).reports = u.reports ∧ (t.lane l).requests = u.requests ∧
      (t.lane l).pendingTriggers = u.pendingTriggers ∧ (t.lane l).rx = u.rx ∧
      (∀ k, k ≠ l → (t.lane k).withoutReplies = (s.lane k).withoutReplies) ∧
      (∀ b, (t.book b).withoutTriggers = (s.book b).withoutTriggers) ∧ t.bookUnit = s.bookUnit ∧
      t.fixedPart = s.fixedPart
    (u.bLink = .down → exec (.engineEgressChoice l) s = .next s) ∧
    (u.bLink = .up → releases → ∀ g, e.body = .frame g → ∃ t, departed t ∧
      (∃ x n, left x ∧ waited n ∧ t = ended (((removed x n (u.credits - 1) ⟨g.frame, some g.slot⟩).raise
        { kind := .frameReleased, lane := some l, cls := g.cls, book := g.book
          residence := if g.cls = none then none else some (s.lt - g.captured) }).judgeWaits l)) ∧
      (t.lane l).credits = u.credits - 1 ∧ (t.lane l).bTx = some ⟨g.frame, some g.slot⟩ ∧ t.books = s.books ∧
      (u.state ≠ .draining → t.journal = s.journal)) ∧
    (u.bLink = .up → releases → ∀ b i, e.body = .trigger b i → ∃ t, departed t ∧
      (∃ x n, left x ∧ waited n ∧ t = ended ((((removed x n u.credits (triggerSent b i)).setBook b
        { s.book b with triggers := (s.book b).triggers.set l.val .released }).offer
          (.book { book := b, event := .triggerReleased, lane := some l })).judgeWaits l)) ∧
      (t.lane l).credits = u.credits ∧ (t.lane l).bTx = some (triggerSent b i) ∧
      (t.book b).trigger l = .released ∧ (∀ c k, (c, k) ≠ (b, l) → (t.book c).trigger k = (s.book c).trigger k)) ∧
    (u.bLink = .up → yields → u.replies = ⟨id, kind, .completed status content⟩ :: rest →
      exec (.engineEgressChoice l) s = .next (s.setLane l { u with
        replies := rest, engineWait := 0
        bTx := some ⟨ownFrame (4 + l.val) (uField 1 0x30 ++ uField 2 id ++ uField 1 kind ++ uField 1 status.code
          ++ uField 2 content.length ++ content), none⟩ })) ∧
    (u.bLink = .up → yields → ¬ replyPresent → exportPresent →
      exec (.engineEgressChoice l) s = .next ({ s with journal := s.journal.afterExport s.lt }.setLane l { u with
        engineWait := 0
        bTx := some ⟨ownFrame (4 + l.val) (exportPayload s.journal.exportBatch.1 s.journal.exportBatch.2), none⟩ })) ∧
    (u.bLink = .up → s.releaseCandidate l = none → ¬ others →
      exec (.engineEgressChoice l) s = .next (s.setLane l { u with bTx := none }))

/-- An export frame is ready while a resend is in progress, and else where the export run has sixteen records or has
some and the flush is noted. A normal export frame takes the first sixteen records of the run that starts at the lowest
position not EXPORTED and goes on while the positions are WRITTEN; they become EXPORTED, the last is the highest
exported, the flush note is cleared, and the flush expiry is set from the first record that remains: due again where
its instant is reached, none where no record remains; a resend frame takes EXPORTED records from the cursor and changes
none of them (R161, R162, R163, R168). That a resend frame too clears the note and sets the expiry is the model's
choice (log 13). -/
def Obligations.ExportFrameTakesRun : Prop :=
  ∀ (j : Journal) (lt : Nat),
    let run := ((j.held.dropWhile Held.isExported).takeWhile Held.isWritten).take 16
    let after := j.afterExport lt
    let whole := (j.held.dropWhile Held.isExported).takeWhile Held.isWritten
    (j.exportReady = true ↔ j.resend ≠ none ∨ (whole ≠ [] ∧ (16 ≤ whole.length ∨ j.flushDue = true))) ∧
    let remaining := ((after.held.dropWhile Held.isExported).takeWhile Held.isWritten).head?
    (j.resend ≠ none ∨ run ≠ [] →
      (remaining = none → after.flushDue = false ∧ after.flushExpiry = none) ∧
      (∀ h w r, remaining = some h → h.content = .written w r →
        (w + j.flushInterval * 1000000 ≤ lt → after.flushDue = true ∧ after.flushExpiry = none) ∧
        (lt < w + j.flushInterval * 1000000 →
          after.flushDue = false ∧ after.flushExpiry = some (w + j.flushInterval * 1000000)))) ∧
    (j.resend = none → run ≠ [] →
      j.exportBatch = (run, false) ∧
      (j.afterExport lt).highestExported = run.getLast?.map Held.number ∧
      (∀ h ∈ j.held, ∃ h' ∈ (j.afterExport lt).held, h'.number = h.number ∧ h'.slot = h.slot ∧
        ((∃ r ∈ run, r.number = h.number) → h.isWritten = true → h'.isExported = true) ∧
        ((∀ r ∈ run, r.number ≠ h.number) → h' = h)) ∧
      (j.afterExport lt).held.length = j.held.length ∧ (j.afterExport lt).counter = j.counter) ∧
    (∀ c, j.resend = some c →
      j.exportBatch = (((j.held.dropWhile fun h => h.number < c).takeWhile Held.isExported).take 16, true) ∧
      (j.afterExport lt).held = j.held ∧ (j.afterExport lt).highestExported = j.highestExported ∧
      (∀ h, j.exportBatch.1.getLast? = some h →
        (j.afterExport lt).resend =
          (((j.held.dropWhile fun g => g.number ≤ h.number).head?).filter Held.isExported).map Held.number))

/-- A free A egress sends a queued probe, else the report at the head, else the notice at the head; the notice goes
first when four reports have gone before it and fewer than twenty-four wait (R62, R126, R147). -/
def Obligations.GatewayEgressSendsFirstCandidate : Prop :=
  ∀ (s : State) (l : LaneId) (f : Bytes) (fs : List Bytes) (n : Notice) (ns : List Notice),
    let u := s.lane l
    let outcome (t : State) := exec (.gatewayEgressChoice l) s = .next t
    let noticeFirst := u.noticeShare = 4 ∧ u.reports.length < 24
    let sendsNotice := outcome (s.setLane l { u with
      notices := ns, noticeShare := 0, aTx := some (ownFrame l.val n.payload) })
    (u.aLink = .down → outcome s) ∧
    (u.aLink = .up → u.probe = .queued → outcome ((s.setLane l { u with
      probe := .outstanding s.lt
      aTx := some (ownFrame l.val (uField 1 0x33 ++ uField 2 u.lastProbeId)) }).offer
        (.lane { lane := l, event := .probeStarted }))) ∧
    (u.aLink = .up → u.probe ≠ .queued → u.reports = f :: fs → u.notices = [] →
      outcome (s.setLane l { u with reports := fs, aTx := some f })) ∧
    (u.aLink = .up → u.probe ≠ .queued → u.reports = f :: fs → u.notices = n :: ns → ¬ noticeFirst →
      outcome (s.setLane l { u with reports := fs, noticeShare := min (u.noticeShare + 1) 4, aTx := some f })) ∧
    (u.aLink = .up → u.probe ≠ .queued → u.reports = f :: fs → u.notices = n :: ns → noticeFirst → sendsNotice) ∧
    (u.aLink = .up → u.probe ≠ .queued → u.reports = [] → u.notices = n :: ns → sendsNotice) ∧
    (u.aLink = .up → u.probe ≠ .queued → u.reports = [] → u.notices = [] → outcome (s.setLane l { u with aTx := none }))

/-- The expiries that follow LT are taken when LT has reached them and not before: the release expiry goes on to the
next release time and judges the waits, the placement expiry of a book makes a placement test, which places every
pending trigger that is ripe, in their order, unless an earlier stamp is in reception, the flush expiry notes the
flush, the snapshot expiry offers a snapshot, the uncross timeout closes a book in UNCROSS without a result (R117,
R130, R139, R140, R141, R162, R179). A judgement of the waits marks, in the order of the list and once in its life,
each due entry that waits by a conflict alone or by a lack of credit alone, each mark with its event (R133). -/
def Obligations.ExpiriesFollowLt : Prop :=
  (∀ (s : State) (l : LaneId),
     let u := s.lane l
     let due (e : HoldEntry) : Bool := decide (e.release ≤ s.lt)
     let starved (e : HoldEntry) : Bool := e.isFrame && decide (u.credits = 0)
     let conflicted (i : Nat) (e : HoldEntry) : Bool := (u.hold.take i).any fun f => f.conflicts e
     let byConflict (e : HoldEntry) (i : Nat) : Bool := due e && !starved e && conflicted i e
     let byCredit (e : HoldEntry) (i : Nat) : Bool := due e && starved e && !conflicted i e
     let event (k : EvidenceKind) (e : HoldEntry) : EvidenceEvent :=
       { kind := k, lane := some l, cls := e.cls, book := e.book }
     s.judgeWaits l = (s.setLane l { u with hold := u.hold.zipIdx.map fun (e, i) => { e with
         conflictWaited := e.conflictWaited || byConflict e i
         creditWaited := e.creditWaited || byCredit e i } }).raiseAll
       (u.hold.zipIdx.flatMap fun (e, i) =>
         if byConflict e i && !e.conflictWaited then [event .conflictWait e]
         else if byCredit e i && !e.creditWaited then [event .creditWait e]
         else [])) ∧
  (∀ (s : State) (l : LaneId) (b : BookId) (x : Nat),
     let u := s.lane l
     (u.releaseExpiry = some x → s.lt < x → exec (.releaseExpiry l) s = .next s) ∧
     (u.releaseExpiry = some x → x ≤ s.lt → ∃ y,
       exec (.releaseExpiry l) s = .next ((s.setLane l { u with releaseExpiry := y }).judgeWaits l) ∧
       (∀ z, y = some z → s.lt < z ∧ (∃ e ∈ u.hold, e.release = z) ∧ ∀ e ∈ u.hold, s.lt < e.release → z ≤ e.release) ∧
       (y = none → ∀ e ∈ u.hold, e.release ≤ s.lt)) ∧
     (let reached (p : PendingTrigger) : Prop := p.book = b ∧ ∃ y, p.expiry = some y ∧ y ≤ s.lt
      let ripe := u.pendingTriggers.filter fun p => decide (p.endInstant + u.cLane ≤ s.lt) &&
        match u.rx with
        | none => true
        | some rx => decide (p.endInstant ≤ rx.stamp)
      let taken := u.pendingTriggers.map fun p => if p.book = b then { p with expiry := none } else p
      let waiting := taken.filter fun p => !ripe.any fun q => q.book == p.book
      ((∀ p ∈ u.pendingTriggers, ¬ reached p) → exec (.placementExpiry l b) s = .next s) ∧
      ((∃ p ∈ u.pendingTriggers, reached p) → ∃ t, exec (.placementExpiry l b) s = .next t ∧
        t.lane l = { u with hold := (t.lane l).hold, pendingTriggers := waiting } ∧
        bodies (t.lane l).hold = bodies u.hold ++ ripe.map (fun p => (.trigger p.book p.endInstant, s.lt)) ∧
        (∀ c k, (t.book c).trigger k =
          if k = l ∧ ripe.any (fun p => p.book == c) then .held else (s.book c).trigger k) ∧
        (ripe = [] → t = s.setLane l { u with pendingTriggers := taken }) ∧
        (∀ p, ripe = [p] → t = ((s.setLane l { u with
            hold := u.hold ++ [⟨.trigger p.book p.endInstant, s.lt, false, false⟩]
            pendingTriggers := waiting }).setBook p.book
          { s.book p.book with triggers := (s.book p.book).triggers.set l.val .held }).judgeWaits l) ∧
        (∀ k, k ≠ l → t.lane k = s.lane k) ∧ (∀ c, (t.book c).withoutTriggers = (s.book c).withoutTriggers) ∧
        t = { s with lanes := t.lanes, books := t.books, evidence := t.evidence })) ∧
     (s.journal.flushExpiry = some x → s.lt < x → exec .flushExpiry s = .next s) ∧
     (s.journal.flushExpiry = some x → x ≤ s.lt →
       exec .flushExpiry s = .next { s with journal := { s.journal with flushExpiry := none, flushDue := true } }) ∧
     (s.evidence.snapshotExpiry = some x → s.lt < x → exec .snapshotExpiry s = .next s) ∧
     (s.evidence.snapshotExpiry = some x → x ≤ s.lt → 0 < s.evidence.period → s.journal.held.length < 4096 →
       ∃ t next, exec .snapshotExpiry s = .next t ∧
         t.evidence = { s.evidence with snapshotExpiry := some next } ∧ s.lt < next ∧
         next % (s.evidence.period * 1000000000) = 0 ∧ next ≤ s.lt + s.evidence.period * 1000000000 ∧
         t.journal.held = s.journal.held ++ [⟨s.journal.counter, s.journal.lowestFree, .written s.lt (.snapshot
           { counters := s.evidence.counters.toList.map Counter.value
             monitors := s.evidence.monitors.toList.map ResidenceMonitor.values })⟩] ∧
         t = { s with journal := t.journal, evidence := t.evidence })) ∧
  (∀ (s : State) (b : BookId) (x : Nat), (s.book b).uncrossAt = some x →
     let k := s.book b
     (k.phase = .uncross → x ≤ s.lt → exec (.uncrossTimeout b) s =
       .next ((s.setBook b { k with phase := .closed, uncrossAt := none }).offer
         (.book { book := b, event := .unconfirmed }))) ∧
     (k.phase ≠ .uncross ∨ s.lt < x → exec (.uncrossTimeout b) s = .next s))

/-! ### Books -/

/-- The draw of a book: one advance of the End Generator gives x, the offset into the window is x times the window
length plus one, divided by 2³², and it never exceeds the length. The generator serves draws in ascending book number:
an expiry or a phase query that makes a book draw, while lower-numbered books have draws due, does what it would do
after the expiry of the lowest of them, which leaves the draws of all the others as due as they were. That a lagging
expiry of an earlier Tw counts with them is the model's choice (log 40) (R106, R107, R109). -/
def Obligations.DrawFollowsGenerator : Prop :=
  (∀ (a : Arming) (g : BitVec 32) (unseeded : Bool),
    let d := drawFor a g unseeded
    d.x.toNat = (2147001325 * g.toNat + 715136305) % 2 ^ 32 ∧ d.offset = d.x.toNat * (a.w + 1) / 2 ^ 32 ∧
      d.offset ≤ a.w ∧ d.endInstant = a.tw + d.offset * 1000000 ∧ d.unseeded = unseeded) ∧
  ∀ (s : State) (b c : BookId) (a : Arming) (stamp : Nat), (s.book b).arming = some a →
    c < b → s.DrawDue c → (∀ e, e < c → ¬ s.DrawDue e) →
    let k := s.book b
    let expiry : Instr := if (s.book c).phase = .armed then .tcExpiry c else .twExpiry c
    ∃ u, exec expiry s = .next u ∧ ¬ u.DrawDue c ∧ (∀ e, e ≠ c → (u.DrawDue e ↔ s.DrawDue e)) ∧
      (k.phase = .armed → a.tc ≤ s.lt → a.tw ≤ s.lt → exec (.tcExpiry b) s = exec (.tcExpiry b) u) ∧
      (k.phase = .call → a.tw ≤ s.lt → exec (.twExpiry b) s = exec (.twExpiry b) u) ∧
      (k.phase = .armed → a.tc ≤ stamp → a.tw ≤ max stamp s.lt → s.takeForQuery b stamp = u.takeForQuery b stamp) ∧
      (k.phase = .call → a.tw ≤ stamp → s.takeForQuery b stamp = u.takeForQuery b stamp)

/-- The boundaries of a book are taken in phase order as LT reaches them, those due behind the first with it: each
taking moves the phase, the taking of Tw draws from the End Generator, the taking of E + D asks each lane of the set
for a trigger and sets the timeout; each gives a BOOK record. Before its instant, and in another phase, an expiry
does nothing. A phase query takes in the same way the boundary ahead if it is at or before its stamp, and those behind
it at or before the stamp, and does nothing else; that those behind it which only LT has reached go with it is the
model's choice (log 10). Where the draw of a lower-numbered book is due, DrawFollowsGenerator says what comes first
(R99, R100, R101, R102, R103, R109, R120). -/
def Obligations.BoundariesAreTakenInOrder : Prop :=
  ∀ (s : State) (b : BookId) (a : Arming) (d : Draw) (stamp : Nat), (s.book b).arming = some a →
    let k := s.book b
    let fresh := drawFor a s.bookUnit.generator s.bookUnit.unseeded
    let fromFreeze (m e : Nat) : Phase := if m < e + a.d * 1000000 then .freeze else .uncross
    let fromWindow (m e : Nat) : Phase := if m < e then .window else fromFreeze m e
    let fromCall (m : Nat) : Phase := if m < a.tw then .call else fromWindow m fresh.endInstant
    let fromArmed (m : Nat) : Phase := if m < a.tc then .armed else fromCall m
    let moved (t : State) (draws : Bool) (phase : Phase) : Prop :=
      (t.book b).phase = phase ∧ (t.book b).arming = some a ∧ (t.book b).result = k.result ∧
      (t.book b).draw = (if draws ∧ (phase = .window ∨ phase = .freeze ∨ phase = .uncross) then some fresh
        else k.draw) ∧
      t.bookUnit = (if draws ∧ (phase = .window ∨ phase = .freeze ∨ phase = .uncross) then
        { s.bookUnit with generator := fresh.x } else s.bookUnit) ∧
      (phase ≠ .uncross → t.lanes = s.lanes ∧ (t.book b).triggers = k.triggers ∧
        (t.book b).uncrossAt = k.uncrossAt) ∧
      (phase = .uncross → (t.book b).uncrossAt = some (s.lt + a.timeoutMs * 1000000) ∧
        (∀ l, a.lanes.has l = true → (t.book b).trigger l = .pending ∨ (t.book b).trigger l = .held) ∧
        ∀ l, a.lanes.has l = false → (t.book b).trigger l = k.trigger l) ∧
      (∀ c, c ≠ b → (t.book c).withoutTriggers = (s.book c).withoutTriggers) ∧
      t.journal.counter = s.journal.counter + (phase.code - k.phase.code) ∧ t.fixedPart = s.fixedPart
    let alone (m : Nat) : Prop := m < a.tw ∨ ∀ c, c < b → ¬ s.DrawDue c
    (k.phase = .armed → alone s.lt → ∃ t, exec (.tcExpiry b) s = .next t ∧ moved t true (fromArmed s.lt)) ∧
    (k.phase = .call → alone s.lt → ∃ t, exec (.twExpiry b) s = .next t ∧ moved t true (fromCall s.lt)) ∧
    (k.phase = .window → k.draw = some d → ∃ t, exec (.eExpiry b) s = .next t ∧
      moved t false (fromWindow s.lt d.endInstant)) ∧
    (k.phase = .freeze → k.draw = some d → ∃ t, exec (.uncrossExpiry b) s = .next t ∧
      moved t false (fromFreeze s.lt d.endInstant)) ∧
    (k.phase ≠ .armed → exec (.tcExpiry b) s = .next s) ∧ (k.phase ≠ .call → exec (.twExpiry b) s = .next s) ∧
    (k.phase ≠ .window → exec (.eExpiry b) s = .next s) ∧ (k.phase ≠ .freeze → exec (.uncrossExpiry b) s = .next s) ∧
    (let asked := s.takeForQuery b stamp
     let m := max stamp s.lt
     let takes (instant : Nat) (draws : Bool) (phase : Phase) : Prop :=
       (stamp < instant → asked = s) ∧ (instant ≤ stamp → (draws = true → alone m) → moved asked draws phase)
     (k.phase = .armed → takes a.tc true (fromArmed m)) ∧ (k.phase = .call → takes a.tw true (fromCall m)) ∧
     (k.phase = .window → k.draw = some d → takes d.endInstant false (fromWindow m d.endInstant)) ∧
     (k.phase = .freeze → k.draw = some d → takes (d.endInstant + a.d * 1000000) false (fromFreeze m d.endInstant)) ∧
     (k.phase = .idle ∨ k.phase = .uncross ∨ k.phase = .closed → asked = s))

/-- An offered record takes the next number; with a free slot it is written at the end of the held order in the lowest
free slot, with the LT of the moment; without one it is lost, counted, joins the pending gap or starts one, and raises
its event (R149, R158, R159). -/
def Obligations.OfferedRecordIsWrittenOrLost : Prop :=
  ∀ (s : State) (r : RecordBody),
    let j := s.journal
    let t := s.offer r
    t = { s with journal := t.journal, evidence := t.evidence } ∧ t.journal.counter = j.counter + 1 ∧
    (j.held.length < 4096 → ∃ slot, t.journal.held = j.held ++ [⟨j.counter, slot, .written s.lt r⟩] ∧ slot < 4096 ∧
      (∀ h ∈ j.held, h.slot ≠ slot) ∧ (∀ n, n < slot → ∃ h ∈ j.held, h.slot = n) ∧
      t.journal.lostTotal = j.lostTotal ∧ t.journal.gap = j.gap ∧ t.evidence = s.evidence) ∧
    (4096 ≤ j.held.length →
      t.journal = { j with
        counter := j.counter + 1
        lostTotal := j.lostTotal + 1
        gap := some (match j.gap with
          | none => ⟨j.counter, 1⟩
          | some g => ⟨g.first, g.count + 1⟩) } ∧
      t.evidence = s.evidence.apply (match r with
        | .entry e => { kind := .recordLost, lane := some e.lane, cls := e.cls, book := e.book }
        | _ => { kind := .recordLost }))

/-- An evidence event adds one, held at 2⁴⁸ − 1, to each counter whose kind and filters it meets, adds a residence to
each monitor whose filters a released frame meets, and changes no setting (R171, R173, R174, R175, R176, R177). -/
def Obligations.EvidenceEventIsCounted : Prop :=
  ∀ (s : State) (e : EvidenceEvent) (i : Fin 8) (m : Fin 2),
    let c := s.evidence.counters[i.val]
    let q := s.evidence.monitors[m.val]
    let t := s.raise e
    let laneMeets (f : Option LaneSet) := f = none ∨ ∃ set l, f = some set ∧ e.lane = some l ∧ set.has l = true
    let selected := c.kind = e.kind ∧ laneMeets c.lanes ∧ (c.cls = none ∨ c.cls = e.cls) ∧
      (c.book = none ∨ c.book = e.book)
    let measured := e.kind = .frameReleased ∧ laneMeets q.lanes ∧ (q.cls = none ∨ q.cls = e.cls)
    (selected → t.evidence.counters[i.val] = { c with value := min (c.value + 1) (2 ^ 48 - 1) }) ∧
    (¬ selected → t.evidence.counters[i.val] = c) ∧
    (∀ r, e.residence = some r → measured → t.evidence.monitors[m.val] = { q with values :=
      ⟨min (q.values.count + 1) (2 ^ 48 - 1), min (q.values.sum + r) (2 ^ 64 - 1),
        min (max q.values.maximum r) (2 ^ 32 - 1)⟩ }) ∧
    (e.residence = none ∨ ¬ measured → t.evidence.monitors[m.val] = q) ∧
    t = { s with evidence := { s.evidence with
      counters := t.evidence.counters, monitors := t.evidence.monitors } }

/-! ### Requests: what the Control Handler does with every one -/

/-- The handler takes the request at the head of the first lane, from the pointer on, whose request queue is not empty and
whose reply queue has a place. A request of an unknown kind is answered UNKNOWN_REQUEST and changes nothing; one too
short for its fields is answered BAD_VALUE, with id 0 when it is too short for its id (R183, R186, R187). A request
command where no request can be taken does nothing: the model's choice (log 3). -/
def Obligations.RequestsOutOfLine : Prop :=
  (∀ (s : State) (l : LaneId) (f : Bytes),
     let servable (k : LaneId) : Prop := (s.lane k).requests ≠ [] ∧ (s.lane k).replies.length < 8
     (s.nextRequest = some (l, f) ↔
       servable l ∧ (s.lane l).requests.head? = some f ∧
         ∀ i j : Fin 4, s.pointer + i = l → j < i → ¬ servable (s.pointer + j)) ∧
     (s.nextRequest = none ↔ ∀ k, ¬ servable k)) ∧
  (∀ (s : State) (row : Instr) (l : LaneId) (p f : Bytes),
     (s.Serves .unknownRequest l p → exec .unknownRequest s = .next (s.refused l p .unknownRequest)) ∧
     (s.nextRequest = some (l, f) → payload f = p → requestRow p = row → p.length < 3 + fieldBytes p →
       exec row s = .next ((s.popRequest l).placeReply l
         ⟨if p.length < 3 then 0 else field p 1 2, field p 0 1, .completed .badValue []⟩)) ∧
     (s.nextRequest = none → exec .statusRead s = .next s ∧ exec .datapathReset s = .next s ∧
       exec .tableRead s = .next s ∧ exec .bookArm s = .next s ∧ exec .drain s = .next s))

/-- Whatever a request asks, its taking ends with one reply at the tail of the requesting lane's reply queue, with
the request's own id and kind; the request has left its queue, the pointer names the next lane, and no other lane's
requests or number of replies change (R184, R185, R186, R187). -/
def Obligations.EveryTakenRequestGetsOneReply : Prop :=
  ∀ (s : State) (row : Instr) (l : LaneId) (p : Bytes), s.Serves row l p →
    ∃ t body, exec row s = .next t ∧
      (t.lane l).replies.getLast? = some ⟨field p 1 2, field p 0 1, body⟩ ∧
      (t.lane l).replies.length = (s.lane l).replies.length + 1 ∧
      (t.lane l).requests = (s.lane l).requests.tail ∧ t.pointer = l + 1 ∧
      (∀ k, k ≠ l → (t.lane k).requests = (s.lane k).requests ∧
        (t.lane k).replies.length = (s.lane k).replies.length) ∧
      t.pending = s.pending

/-! ### Requests: tables -/

/-- A MATCH write is judged by the entry number, the locks of R86 and R87, and the values; a CLASS write by the record
number, the lock of R89, and the codes; an accepted one replaces the whole item, with its TABLE record, and is
answered with the content (R85, R86, R87, R88, R89, R92, R189). That an enabled code above 1 is BAD_VALUE wherever the
entry's pattern is not locked is the model's choice, R85 not naming that code (log 16), and so is that a CLASS write
with a presence byte above 1 carries no book (log 39). -/
def Obligations.ClassificationTableWrites : Prop :=
  (∀ (s : State) (l : LaneId) (p : Bytes) (n : EntryId), s.Serves .tableWriteMatch l p →
     let e := s.matchTable[n.val]
     let refusedAs (st : Status) := exec .tableWriteMatch s = .next (s.refused l p st)
     let changes := field p 5 1 ≠ e.selector.code ∨ field p 6 4 ≠ e.value.toNat ∨ field p 10 4 ≠ e.mask.toNat
     let turns := (field p 14 1 = 0 ∧ e.enabled = true) ∨ (field p 14 1 = 1 ∧ e.enabled = false)
     let inAuction := ∃ c : ClassId, ∃ b, s.classTable[c.val].book = some b ∧ s.InAuction b ∧
       (s.classTable[c.val].anyOf.getLsbD n.val = true ∨ s.classTable[c.val].allOf.getLsbD n.val = true)
     let locked := (e.enabled = true ∧ changes) ∨ (turns ∧ inAuction)
     (field p 3 1 ≠ 1 → refusedAs .badValue) ∧
     (field p 3 1 = 1 → 32 ≤ field p 4 1 → refusedAs .badIndex) ∧
     (field p 3 1 = 1 → field p 4 1 = n.val →
       (locked → refusedAs .locked) ∧
       (¬ locked → (3 < field p 5 1 ∨ 1 < field p 14 1) → refusedAs .badValue) ∧
       ∀ (sel : Selector) (on : Bool), field p 5 1 = sel.code → field p 14 1 = (if on then 1 else 0) → ¬ locked →
         let w : MatchEntry := ⟨sel, BitVec.ofNat 32 (field p 6 4), BitVec.ofNat 32 (field p 10 4), on⟩
         (field p 6 4 < 2 ^ sel.width → field p 10 4 < 2 ^ sel.width → exec .tableWriteMatch s =
           .next (({ s.popRequest l with matchTable := s.matchTable.set n.val w }.offer
             (.table .matchTable n.val w.content)).replied l p
             (.completed .ok (uField 1 1 ++ uField 1 n.val ++ w.content)))) ∧
         (2 ^ sel.width ≤ field p 6 4 ∨ 2 ^ sel.width ≤ field p 10 4 → refusedAs .badValue))) ∧
  (∀ (s : State) (l : LaneId) (p : Bytes) (n : ClassId) (book : Option BookId), s.Serves .tableWriteClass l p →
     let refusedAs (st : Status) := exec .tableWriteClass s = .next (s.refused l p st)
     let carries := (book = none ∧ field p 13 1 = 0) ∨ (∃ b, book = some b ∧ field p 13 1 = 1 ∧ field p 14 1 = b.val)
     let noBook := 1 < field p 13 1 ∨ (field p 13 1 = 1 ∧ 7 < field p 14 1)
     let heldLocked := ∃ b, s.classTable[n.val].book = some b ∧ s.InAuction b
     let badCode := 1 < field p 15 1 ∨ 7 < field p 16 1 ∨ 1 < field p 17 1 ∨ 1 < field p 18 1
     (16 ≤ field p 4 1 → refusedAs .badIndex) ∧
     (field p 4 1 = n.val → heldLocked → refusedAs .locked) ∧
     (field p 4 1 = n.val → ¬ heldLocked → noBook → refusedAs .badValue) ∧
     (field p 4 1 = n.val → ¬ heldLocked → carries →
       ((∃ b, book = some b ∧ s.InAuction b) → refusedAs .locked) ∧
       ((∀ b, book = some b → ¬ s.InAuction b) → badCode → refusedAs .badValue) ∧
       ((∀ b, book = some b → ¬ s.InAuction b) → ¬ badCode →
         let w : ClassRecord :=
           { anyOf := BitVec.ofNat 32 (field p 5 4), allOf := BitVec.ofNat 32 (field p 9 4), book := book
             format := if field p 15 1 = 0 then .full else .compact, delayUnits := field p 16 1
             admission := if field p 17 1 = 0 then .accept else .refuse
             lateAction := if field p 18 1 = 0 then .mark else .refuse }
         exec .tableWriteClass s =
           .next (({ s.popRequest l with classTable := s.classTable.set n.val w }.offer
             (.table .classTable n.val w.content)).replied l p
             (.completed .ok (uField 1 2 ++ uField 1 n.val ++ w.content))))))

/-- A LANE write is judged in the order of R191; an accepted one writes allowance and permission at once, and C_lane
and U_lane as pending, installed at once when no frame is in reception and no probe is queued or outstanding (R68,
R69, R189, R191, R207). That the reply of a write installed at once shows its values as installed and none pending, and
that of a waiting one the installed and the pending values, a pending field that was not written being absent, is the
model's choice (logs 23 and 38). -/
def Obligations.LaneWriteJudgement : Prop :=
  ∀ (s : State) (l k : LaneId) (p : Bytes), s.Serves .tableWriteLane l p →
    let refusedAs (st : Status) := exec .tableWriteLane s = .next (s.refused l p st)
    let read (offset width : Nat) : Option Nat :=
      if field p offset 1 = 1 then some (field p (offset + 1) width) else none
    let c := read 5 2
    let u := read 8 2
    let a := read 11 1
    let perm := read 13 1
    let illPresence := 1 < field p 5 1 ∨ 1 < field p 8 1 ∨ 1 < field p 11 1 ∨ 1 < field p 13 1
    let empty := c = none ∧ u = none ∧ a = none ∧ perm = none
    let inAuction := ∃ b x, s.InAuction b ∧ (s.book b).arming = some x ∧ x.lanes.has k = true
    let locked := ¬ (c = none ∧ u = none ∧ a = none) ∧ inAuction
    let outside := (∃ v, a = some v ∧ 50 < v) ∨ ∃ v, perm = some v ∧ 1 < v
    let lastOff := perm = some 0 ∧ ∀ m, m ≠ k → (s.lane m).permission = false
    (4 ≤ field p 4 1 → refusedAs .badIndex) ∧
    (field p 4 1 = k.val →
      (illPresence ∨ empty → refusedAs .badValue) ∧
      (¬ illPresence → ¬ empty → locked → refusedAs .locked) ∧
      (¬ illPresence → ¬ empty → ¬ locked → outside → refusedAs .badValue) ∧
      (¬ illPresence → ¬ empty → ¬ locked → ¬ outside → lastOff → refusedAs .refusedState) ∧
      (¬ illPresence → ¬ empty → ¬ locked → ¬ outside → ¬ lastOff →
        let before := s.lane k
        let now := before.rx = none ∧ before.probe = .none ∧
          (c ≠ none ∨ u ≠ none ∨ before.pendingC ≠ none ∨ before.pendingU ≠ none)
        let written : LaneUnit := { before with
          allowance := a.getD before.allowance
          permission := if perm = none then before.permission else decide (perm = some 1)
          pendingC := c.or before.pendingC
          pendingU := u.or before.pendingU }
        ∃ (t : State) (content : Bytes), exec .tableWriteLane s = .next (t.replied l p (.completed .ok (uField 1 3 ++ uField 1 k.val ++ content))) ∧
          (t.lane k).allowance = written.allowance ∧ (t.lane k).permission = written.permission ∧
          (now → (t.lane k).cLane = written.pendingC.getD before.cLane ∧
            (t.lane k).uLane = written.pendingU.getD before.uLane ∧
            (t.lane k).pendingC = none ∧ (t.lane k).pendingU = none ∧ t.journal.counter = s.journal.counter + 2 ∧
            content = { written with
              cLane := written.pendingC.getD before.cLane, uLane := written.pendingU.getD before.uLane
              pendingC := none, pendingU := none }.tableContent) ∧
          (¬ now → t = { s.popRequest l with
            lanes := ((s.popRequest l).setLane k { (s.popRequest l).lane k with
              allowance := written.allowance, permission := written.permission
              pendingC := written.pendingC, pendingU := written.pendingU }).lanes
            journal := t.journal, evidence := t.evidence } ∧
            content = written.tableContent ∧ t.journal.counter = s.journal.counter + 1) ∧
          (∀ m, m ≠ k → m ≠ l → t.lane m = s.lane m) ∧
          t.timebase = s.timebase ∧ t.discipline = s.discipline ∧ t.stamping = s.stamping ∧
          (∀ b, (t.book b).withoutTriggers = (s.book b).withoutTriggers)))

/-- A STAMPING write is judged by its index, the setting lock, its setting code and its range, in this order; an
accepted one changes its setting, and H and L then judge the clock grade; where the grade stands as judged, a write of
the value already held gives its TABLE record and its reply alone (R36, R41, R60, R90, R92, R189). -/
def Obligations.StampingWriteJudgement : Prop :=
  ∀ (s : State) (row : Instr) (l : LaneId) (p : Bytes), s.Serves row l p →
    (row = .tableWriteH ∨ row = .tableWriteL ∨ row = .tableWriteDayOrigin ∨ row = .tableWriteEntryFrameType ∨
      row = .tableWriteQ) →
    let code := field p 5 1
    let v := field p 6 8
    let refusedAs (st : Status) := exec row s = .next (s.refused l p st)
    let accepted (x : Stamping) (after : State → State) := exec row s =
      .next ((after ({ s.popRequest l with stamping := x }.offer (.table .stamping 0 x.content))).replied l p
        (.completed .ok (uField 1 4 ++ uField 1 0 ++ x.content)))
    let free := field p 4 1 = 0 ∧ ∀ b, ¬ s.InAuction b
    (field p 4 1 ≠ 0 → refusedAs .badIndex) ∧
    (field p 4 1 = 0 → (∃ b, s.InAuction b) → refusedAs .locked) ∧
    (free → code < 1 ∨ 5 < code → refusedAs .badValue) ∧
    (free → code = 1 → (v < 2 ^ 48 → accepted { s.stamping with dayOrigin := v } id) ∧
      (2 ^ 48 ≤ v → refusedAs .badValue)) ∧
    (free → code = 2 → (1 ≤ v ∧ v ≤ 50000 → accepted { s.stamping with h := v } State.judgeGrade) ∧
      (v < 1 ∨ 50000 < v → refusedAs .badValue)) ∧
    (free → code = 3 → (1000 ≤ v ∧ v ≤ 10000000 → accepted { s.stamping with l := v } State.judgeGrade) ∧
      (v < 1000 ∨ 10000000 < v → refusedAs .badValue)) ∧
    (free → code = 2 → v = s.stamping.h → 1 ≤ v → v ≤ 50000 → s.GradeStands → accepted s.stamping id) ∧
    (free → code = 3 → v = s.stamping.l → 1000 ≤ v → v ≤ 10000000 → s.GradeStands → accepted s.stamping id) ∧
    (free → code = 4 → (100 ≤ v ∧ v ≤ 100000 → accepted { s.stamping with q := v } id) ∧
      (v < 100 ∨ 100000 < v → refusedAs .badValue)) ∧
    (free → code = 5 → (v ≤ 0xFFFF ∧ v ≠ 0x9A4C → accepted { s.stamping with entryType := v } id) ∧
      (0xFFFF < v ∨ v = 0x9A4C → refusedAs .badValue))

/-- A numeric CLOCK setting is limited to its range and answered OK, or OK_CLAMPED when the limit was applied; an on/off
setting takes on or off alone; a reference enable acts at the write, off being a loss when the reference is the
selected one (R13, R19, R23, R28, R92, R151, R189, R190). What the REFERENCE_DISABLED record carries of the discipline
is the model's choice (log 33). -/
def Obligations.ClockTableWrites : Prop :=
  (∀ (s : State) (row : Instr) (l : LaneId) (p : Bytes), s.Serves row l p →
     (row = .tableWriteClockSetting ∨ row = .tableWriteAutoSwitch) →
     let code := field p 5 1
     let v := field p 6 8
     let refusedAs (st : Status) := exec row s = .next (s.refused l p st)
     let q := s.popRequest l
     let written (t : State) (st : Status) := exec row s =
       .next ((t.offer (.table .clock 0 t.clockContent)).replied l p
         (.completed st (uField 1 5 ++ uField 1 0 ++ t.clockContent)))
     let clamped (low high : Nat) (set : Nat → ClockSettings) :=
       (v < low → written { q with clock := set low } .okClamped) ∧
       (low ≤ v → v ≤ high → written { q with clock := set v } .ok) ∧
       (high < v → written { q with clock := set high } .okClamped)
     (field p 4 1 ≠ 0 → refusedAs .badIndex) ∧
     (field p 4 1 = 0 →
       (code < 1 ∨ 9 < code → refusedAs .badValue) ∧
       (code = 1 → clamped 0 7 fun x => { s.clock with gi := x }) ∧
       (code = 2 → clamped 0 7 fun x => { s.clock with gp := x }) ∧
       (code = 3 → clamped 50 100000 fun x => { s.clock with tLock := x }) ∧
       (code = 4 → clamped 1 15 fun x => { s.clock with k := x }) ∧
       (code = 5 → clamped 1000 10000000 fun x => { s.clock with s := x }) ∧
       (code = 6 → clamped 100 100000000 fun x => { s.clock with wc := x }) ∧
       (code = 7 → clamped 10 500 fun x => { s.clock with guardMs := x }) ∧
       (code = 8 → clamped 1 15 fun x => { s.clock with m := x }) ∧
       (code = 9 → (v = 0 → written { q with discipline := { s.discipline with autoSwitch := false } } .ok) ∧
         (v = 1 → written { q with discipline := { s.discipline with autoSwitch := true } } .ok) ∧
         (1 < v → refusedAs .badValue)))) ∧
  (∀ (s : State) (l : LaneId) (p : Bytes), s.Serves .tableWriteReferenceEnable l p →
     let ref : RefLine := if field p 5 1 = 10 then .a else .b
     let m := s.monitor ref
     let v := field p 6 8
     let after (x : Monitor) := (s.popRequest l).setMonitor ref x
     let recorded (t : State) := t.offer (.table .clock 0 t.clockContent)
     let answered (base t : State) := exec .tableWriteReferenceEnable s =
       .next (t.replied l p (.completed .ok (uField 1 5 ++ uField 1 0 ++ base.clockContent)))
     let off := after { m with refState := .disabled, unit := .idle none }
     let on := after { m with
       refState := .listening, missing := 0, good := 0, unit := .idle (some (s.timebase.osc + 1000000000)) }
     let named := field p 4 1 = 0
     (¬ named → exec .tableWriteReferenceEnable s = .next (s.refused l p .badIndex)) ∧
     (named → 1 < v → exec .tableWriteReferenceEnable s = .next (s.refused l p .badValue)) ∧
     (named → (v = 0 ∧ m.refState = .disabled) ∨ (v = 1 ∧ m.refState ≠ .disabled) → answered (after m) (recorded (after m))) ∧
     (named → v = 1 → m.refState = .disabled → answered on ((recorded on).offerClock .referenceListening ref)) ∧
     (named → v = 0 → m.refState ≠ .disabled → ref ≠ s.discipline.selected →
       answered off ((recorded off).offerClock .referenceDisabled ref)) ∧
     (named → v = 0 → m.refState ≠ .disabled → ref = s.discipline.selected →
       answered off ((recorded off).offerClock .referenceDisabled ref).lossOfSelected))

/-- The JOURNAL settings and the COUNTER items are judged by index and range and never clamped; a new flush interval
sets the flush expiry again; a written counter or monitor starts from zero under its whole new setting; a new
snapshot period sets the expiry or cancels it (R92, R162, R164, R178, R179, R189). -/
def Obligations.JournalAndCounterWrites : Prop :=
  ∀ (s : State) (row : Instr) (l : LaneId) (p : Bytes), s.Serves row l p →
    let q := s.popRequest l
    let index := field p 4 1
    let v := field p 6 8
    let refusedAs (st : Status) := exec row s = .next (s.refused l p st)
    let journal (j : Journal) := exec row s =
      .next (({ q with journal := j }.offer (.table .journal 0 j.settingsContent)).replied l p
        (.completed .ok (uField 1 6 ++ uField 1 0 ++ j.settingsContent)))
    let evidence (e : Evidence) := exec row s =
      .next (({ q with evidence := e }.offer (.table .counter index (e.itemContent index))).replied l p
        (.completed .ok (uField 1 7 ++ uField 1 index ++ e.itemContent index)))
    let laneFilter (x : Option LaneSet) := (x = none ∧ field p 6 1 = 255) ∨
      ∃ m, x = some m ∧ m ≠ 0 ∧ field p 6 1 = m.toNat
    let classFilter (x : Option ClassId) := (x = none ∧ field p 7 1 = 255) ∨ ∃ c, x = some c ∧ field p 7 1 = c.val
    let bookFilter (x : Option BookId) := (x = none ∧ field p 8 1 = 255) ∨ ∃ b, x = some b ∧ field p 8 1 = b.val
    (row = .tableWriteExportLane → (index ≠ 0 → refusedAs .badIndex) ∧
      (index = 0 → field p 5 1 ≠ 1 ∨ 3 < v → refusedAs .badValue) ∧
      (∀ k : LaneId, index = 0 → field p 5 1 = 1 → v = k.val → journal { s.journal with exportLane := k })) ∧
    (row = .tableWriteFlushInterval → (index ≠ 0 → refusedAs .badIndex) ∧
      (index = 0 → v < 1 ∨ 1000 < v → refusedAs .badValue) ∧
      (index = 0 → 1 ≤ v → v ≤ 1000 → journal ({ s.journal with flushInterval := v }.setFlush s.lt))) ∧
    (row = .tableWriteCounter →
      (10 < index → refusedAs .badIndex) ∧
      (∀ (n : Fin 8) (kind : EvidenceKind) (lanes : Option LaneSet) (cls : Option ClassId) (book : Option BookId),
        index = n.val → field p 5 1 = kind.code → laneFilter lanes → classFilter cls → bookFilter book →
        evidence { s.evidence with counters := s.evidence.counters.set n.val ⟨0, kind, lanes, cls, book⟩ }) ∧
      (∀ (n : Fin 2) (lanes : Option LaneSet) (cls : Option ClassId),
        index = 8 + n.val → laneFilter lanes → classFilter cls →
        evidence { s.evidence with monitors := s.evidence.monitors.set n.val ⟨lanes, cls, ⟨0, 0, 0⟩⟩ }) ∧
      (index < 8 → (field p 5 1 < 1 ∨ 16 < field p 5 1 ∨ field p 6 1 = 0 ∨ (15 < field p 6 1 ∧ field p 6 1 < 255) ∨
        (15 < field p 7 1 ∧ field p 7 1 < 255) ∨ (7 < field p 8 1 ∧ field p 8 1 < 255)) → refusedAs .badValue) ∧
      (index = 8 ∨ index = 9 → (field p 6 1 = 0 ∨ (15 < field p 6 1 ∧ field p 6 1 < 255) ∨
        (15 < field p 7 1 ∧ field p 7 1 < 255)) → refusedAs .badValue)) ∧
    (row = .tableWriteSnapshotPeriod →
      (3600 < field p 5 2 → refusedAs .badValue) ∧
      (field p 5 2 = 0 → evidence { s.evidence with period := 0, snapshotExpiry := none }) ∧
      (1 ≤ field p 5 2 → field p 5 2 ≤ 3600 → evidence { s.evidence with
        period := field p 5 2
        snapshotExpiry := some ((s.lt / (field p 5 2 * 1000000000) + 1) * (field p 5 2 * 1000000000)) }))

/-- A TABLE_READ is answered with the item as it stands, changes nothing and offers no record; an unlisted table is
BAD_VALUE, an index outside the table's range BAD_INDEX (R93, R189, R192). -/
def Obligations.TableReadReturnsItem : Prop :=
  ∀ (s : State) (l : LaneId) (p : Bytes), s.Serves .tableRead l p →
    let table := field p 3 1
    let index := field p 4 1
    let answered (content : Bytes) := exec .tableRead s =
      .next ((s.popRequest l).replied l p (.completed .ok (uField 1 table ++ uField 1 index ++ content)))
    let refusedAs (st : Status) := exec .tableRead s = .next (s.refused l p st)
    (table < 1 ∨ 7 < table → refusedAs .badValue) ∧
    (table = 1 → (32 ≤ index → refusedAs .badIndex) ∧
      ∀ n : EntryId, index = n.val → answered s.matchTable[n.val].content) ∧
    (table = 2 → (16 ≤ index → refusedAs .badIndex) ∧
      ∀ n : ClassId, index = n.val → answered s.classTable[n.val].content) ∧
    (table = 3 → (4 ≤ index → refusedAs .badIndex) ∧
      ∀ k : LaneId, index = k.val → answered ((s.popRequest l).lane k).tableContent) ∧
    (table = 4 → (0 < index → refusedAs .badIndex) ∧ (index = 0 → answered s.stamping.content)) ∧
    (table = 5 → (0 < index → refusedAs .badIndex) ∧ (index = 0 → answered s.clockContent)) ∧
    (table = 6 → (0 < index → refusedAs .badIndex) ∧ (index = 0 → answered s.journal.settingsContent)) ∧
    (table = 7 → (10 < index → refusedAs .badIndex) ∧ (index ≤ 10 → answered (s.evidence.itemContent index)))

/-! ### Requests: books -/

/-- BOOK_ARM is judged in the order of R97; an accepted arming sets its fields, clears what the book held, and enters
ARMED, or CALL when LT has reached Tc, with the BOOK record (R94, R97, R98, R120, R193). -/
def Obligations.BookArmJudgement : Prop :=
  ∀ (s : State) (l : LaneId) (p : Bytes) (b : BookId), s.Serves .bookArm l p →
    let refusedAs (st : Status) := exec .bookArm s = .next (s.refused l p st)
    let tc := field p 4 6 * 1000000000 + field p 10 2 * 1000000
    let tw := field p 12 6 * 1000000000 + field p 18 2 * 1000000
    let w := field p 20 4
    let d := field p 24 2
    let timeout := field p 26 4
    let lanes := field p 30 1
    let waiting := (s.book b).phase = .closed ∧
      ∃ k, (s.book b).trigger k = .pending ∨ (s.book b).trigger k = .held
    let busyPhase := (s.book b).phase ≠ .idle ∧ (s.book b).phase ≠ .closed
    let traceable := s.discipline.state = .locked ∨ s.discipline.state = .holdover
    let outside := 999 < field p 10 2 ∨ 999 < field p 18 2 ∨ 600000 < w ∨ 10000 < d ∨ timeout < 100 ∨
      120000 < timeout ∨ lanes = 0 ∨ 15 < lanes
    let late := tw < tc ∨ tw ≤ s.lt
    let a : Arming := ⟨tc, tw, w, d, timeout, BitVec.ofNat 4 lanes, 0⟩
    let armed (phase : Phase) (event : BookEvent) := exec .bookArm s =
      .next (((((s.popRequest l).setBook b
        ⟨phase, some a, none, none, none, Vector.replicate 4 .none⟩).offer (.book
          { book := b, event := event, tc := some tc, tw := some tw, w := some w, d := some d
            timeoutMs := some timeout, lanes := some a.lanes }))).replied l p
        (.completed .ok (uField 1 phase.code)))
    (8 ≤ field p 3 1 → refusedAs .badIndex) ∧
    (field p 3 1 = b.val →
      (busyPhase → refusedAs .refusedState) ∧
      (¬ busyPhase → waiting → refusedAs .busy) ∧
      (¬ busyPhase → ¬ waiting → ¬ traceable → refusedAs .notTraceable) ∧
      (¬ busyPhase → ¬ waiting → traceable → outside ∨ late → refusedAs .badValue) ∧
      (¬ busyPhase → ¬ waiting → traceable → ¬ outside → ¬ late →
        (s.lt < tc → armed .armed .armed) ∧ (tc ≤ s.lt → armed .call .lateArm)))

/-- BOOK_DISARM returns an ARMED book, or a CLOSED one with no trigger waiting, to IDLE with every field absent;
BOOK_EXTEND moves Tw in CALL and E in WINDOW by at most what is left of an hour; BOOK_SEED sets the End Generator and
clears the unseeded flag (R108, R112, R113, R119, R193). -/
def Obligations.DisarmExtendSeed : Prop :=
  ∀ (s : State) (l : LaneId) (p : Bytes) (b : BookId) (a : Arming) (d : Draw),
    let q := s.popRequest l
    let k := s.book b
    let waiting := k.phase = .closed ∧ ∃ m, k.trigger m = .pending ∨ k.trigger m = .held
    let ext := field p 4 4
    let applied := min ext (3600000 - a.extension)
    let status : Status := if applied = ext then .ok else .okClamped
    (s.Serves .bookDisarm l p →
      let refusedAs (st : Status) := exec .bookDisarm s = .next (s.refused l p st)
      (8 ≤ field p 3 1 → refusedAs .badIndex) ∧
      (field p 3 1 = b.val → waiting → refusedAs .busy) ∧
      (field p 3 1 = b.val → k.phase ≠ .armed → k.phase ≠ .closed → refusedAs .refusedState) ∧
      (field p 3 1 = b.val → k.phase = .armed ∨ (k.phase = .closed ∧ ¬ waiting) → exec .bookDisarm s =
        .next (((q.setBook b ⟨.idle, none, none, none, none, Vector.replicate 4 .none⟩).offer
          (.book { book := b, event := .disarmed, phase := some k.phase })).replied l p
          (.completed .ok (uField 1 k.phase.code))))) ∧
    (s.Serves .bookExtend l p →
      let refusedAs (st : Status) := exec .bookExtend s = .next (s.refused l p st)
      (8 ≤ field p 3 1 → refusedAs .badIndex) ∧
      (field p 3 1 = b.val → ext < 1 ∨ 600000 < ext → refusedAs .badValue) ∧
      (field p 3 1 = b.val → 1 ≤ ext → ext ≤ 600000 →
        (k.phase = .idle ∨ k.phase = .armed → refusedAs .refusedState) ∧
        (k.phase = .freeze ∨ k.phase = .uncross ∨ k.phase = .closed → refusedAs .tooLate) ∧
        (k.phase = .call → k.arming = some a → exec .bookExtend s =
          .next (((q.setBook b { k with arming := some { a with
            tw := a.tw + applied * 1000000, extension := a.extension + applied } }).offer
            (.book { book := b, event := .extended, applied := some applied, phase := some .call
                     tw := some (a.tw + applied * 1000000) })).replied l p
            (.completed status (uField 4 applied ++ uField 1 2)))) ∧
        (k.phase = .window → k.arming = some a → k.draw = some d → exec .bookExtend s =
          .next (((q.setBook b { k with
            arming := some { a with extension := a.extension + applied }
            draw := some { d with endInstant := d.endInstant + applied * 1000000 } }).offer
            (.book { book := b, event := .extended, applied := some applied, phase := some .window })).replied l p
            (.completed status (uField 4 applied ++ uField 1 3)))))) ∧
    (s.Serves .bookSeed l p →
      let count := min (s.bookUnit.seedCount + 1) 4294967295
      exec .bookSeed s = .next (({ q with bookUnit := { s.bookUnit with
        generator := BitVec.ofNat 32 (field p 3 4), unseeded := false, seedCount := count } }.offer
          (.seed count)).replied l p (.completed .ok (uField 4 count))))

/-! ### Requests: clock and lanes -/

/-- The clock commands act by the discipline state, each answered OK with the state and the selection after it: ACQUIRE
enters ACQUIRE from FREE and HOLDOVER, with the switch of R19 where it applies; RELEASE enters FREE at the rate F and
ends traceability; SELECT_A and SELECT_B select at the rate F; CLEAR_MISSING clears both missing counts; an unlisted
command is BAD_VALUE (R14, R19, R21, R22, R35, R36, R193). That CLEAR_MISSING clears the count of a DISABLED reference
too is the model's choice, R14 saying both (log 31). -/
def Obligations.ClockCommandsActByState : Prop :=
  (∀ (s : State) (l : LaneId) (p : Bytes),
     let d := s.discipline
     let switches := d.autoSwitch = true ∧ ((s.monitor d.selected).refState = .lost ∨
       (s.monitor d.selected).refState = .disabled) ∧ (s.monitor d.selected.other).refState = .healthy
     let answered (row : Instr) (t : State) := exec row s = .next (t.replied l p
       (.completed .ok (uField 1 t.discipline.state.code ++ uField 1 (refCode t.discipline.selected))))
     let toF : Timebase := { s.timebase with r := max (-200000) (min d.freq 200000) }
     (s.Serves .acquire l p → field p 3 1 ≠ 1 → exec .acquire s = .next (s.refused l p .badValue)) ∧
     (s.Serves .acquire l p → field p 3 1 = 1 →
       (d.state = .acquire ∨ d.state = .locked → answered .acquire (s.popRequest l)) ∧
       (d.state = .free ∨ d.state = .holdover → ∃ t : State, answered .acquire t ∧
         t.discipline = { d with
           state := .acquire, lockCount := 0, selected := if switches then d.selected.other else d.selected } ∧
         t.timebase = (if switches then toF else s.timebase) ∧
         t.journal.counter = s.journal.counter + (if switches then 2 else 1) ∧
         t = { s.popRequest l with
           discipline := t.discipline, timebase := t.timebase, journal := t.journal, evidence := t.evidence })) ∧
     (s.Serves .release l p →
       (d.state = .free → answered .release (s.popRequest l)) ∧
       (d.state ≠ .free → ∃ t : State, answered .release t ∧
         t.discipline = { d with state := .free, lockCount := 0, stepPending := false } ∧ t.timebase = toF ∧
         t.uncertainty = ⟨1000000000, s.uncertainty.ltMark, false, .untraceable, none⟩ ∧
         t.journal.counter = s.journal.counter + (if s.uncertainty.grade = .untraceable then 1 else 2) ∧
         t = { s.popRequest l with
           discipline := t.discipline, timebase := t.timebase, uncertainty := t.uncertainty
           journal := t.journal, evidence := t.evidence }))) ∧
  (∀ (s : State) (l : LaneId) (p : Bytes) (row : Instr) (ref : RefLine), s.Serves row l p →
     let d := s.discipline
     let answered (t : State) := exec row s = .next (t.replied l p
       (.completed .ok (uField 1 t.discipline.state.code ++ uField 1 (refCode t.discipline.selected))))
     let held := d.state = .locked ∨ d.state = .holdover
     ((row = .selectA ∧ ref = .a) ∨ (row = .selectB ∧ ref = .b) →
       (d.selected = ref → answered (s.popRequest l)) ∧
       (d.selected ≠ ref → ∃ t : State, answered t ∧
         t.discipline = { d with
           selected := ref
           lockCount := if d.state = .free then d.lockCount else 0
           state := if held then .acquire else d.state } ∧
         t.timebase = { s.timebase with r := max (-200000) (min d.freq 200000) } ∧
         t.journal.counter = s.journal.counter + (if held then 2 else 1) ∧
         t = { s.popRequest l with
           discipline := t.discipline, timebase := t.timebase, journal := t.journal, evidence := t.evidence })) ∧
     (row = .clearMissing → ∃ t : State, answered t ∧
       (∀ r, t.monitor r = { s.monitor r with
         missing := 0
         refState := if (s.monitor r).refState = .lost then .listening else (s.monitor r).refState }) ∧
       t.journal.counter = s.journal.counter + (if s.monitorA.refState = .lost then 1 else 0)
         + (if s.monitorB.refState = .lost then 1 else 0) ∧
       t = { s.popRequest l with
         monitorA := t.monitorA, monitorB := t.monitorB, journal := t.journal, evidence := t.evidence }))

/-- ENABLE, DRAIN and DISABLE act by the state of the lane they name, a deferred DRAIN reply being SUPERSEDED and a DRAIN
of a list that is not empty deferring its reply; PROBE enters PROBING with the next id and one queued probe, fails at
once with the A link DOWN, is refused during an auction of the lane, and is BUSY in DRAINING and PROBING (R43, R44,
R45, R62, R67, R72, R194). That BUSY comes before the auction is looked at is the model's choice (log 15). -/
def Obligations.LaneCommandsActByState : Prop :=
  (∀ (s : State) (l k : LaneId) (p : Bytes) (row : Instr), s.Serves row l p →
     (row = .enable ∨ row = .drain ∨ row = .disable) →
     let q := s.popRequest l
     let u := s.lane k
     let code := if row = .enable then 1 else if row = .drain then 2 else 3
     let refusedAs (st : Status) := exec row s = .next (s.refused l p st)
     let content := uField 1 k.val ++ uField 1 code ++ fill 2 ++ fill 5 ++ uField 2 u.cLane ++ uField 2 u.uLane
     let answered (t : State) := exec row s = .next (t.replied l p (.completed .ok content))
     let entered (st : LaneState) (e : LaneEvent) :=
       (q.setLane k { q.lane k with state := st }).offer (.lane { lane := k, event := e })
     (4 ≤ field p 3 1 → refusedAs .badIndex) ∧
     (field p 3 1 = k.val → field p 4 1 ≠ code → refusedAs .badValue) ∧
     (field p 3 1 = k.val → field p 4 1 = code →
       ((∃ r, u.state = .probing r) → refusedAs .busy) ∧
       (row = .enable → u.state = .disabled → answered (entered .active .enabled)) ∧
       (row = .enable → u.state = .active → answered q) ∧
       (row = .enable → u.state = .draining →
         answered ((entered .active .enabled).completeReply k .drain .superseded [])) ∧
       (row = .drain → u.state = .disabled → answered q) ∧
       (row = .drain → u.state = .active → u.hold = [] → answered (entered .disabled .disabled)) ∧
       (row = .drain → u.state = .active → u.hold ≠ [] →
         exec row s = .next ((entered .draining .drainStarted).replied l p (.deferred k .drain))) ∧
       (row = .drain → u.state = .draining → refusedAs .busy) ∧
       (row = .disable → u.state = .disabled → answered q) ∧
       (row = .disable → u.state = .active → answered (entered .disabled .disabled)) ∧
       (row = .disable → u.state = .draining →
         answered ((entered .disabled .disabled).completeReply k .drain .superseded [])))) ∧
  (∀ (s : State) (l k : LaneId) (p : Bytes) (ret : ReturnState), s.Serves .probe l p →
     let q := s.popRequest l
     let u := s.lane k
     let refusedAs (st : Status) := exec .probe s = .next (s.refused l p st)
     let inAuction := ∃ b x, s.InAuction b ∧ (s.book b).arming = some x ∧ x.lanes.has k = true
     let origin := (u.state = .disabled ∧ ret = .disabled) ∨ (u.state = .active ∧ ret = .active)
     let id := if u.lastProbeId = 65535 then 0 else u.lastProbeId + 1
     (4 ≤ field p 3 1 → refusedAs .badIndex) ∧
     (field p 3 1 = k.val → field p 4 1 ≠ 4 → refusedAs .badValue) ∧
     (field p 3 1 = k.val → field p 4 1 = 4 →
       (u.state = .draining ∨ (∃ r, u.state = .probing r) → refusedAs .busy) ∧
       (origin → inAuction → refusedAs .refusedState) ∧
       (origin → ¬ inAuction → u.lastProbeId ≤ 65535 → u.aLink = .up → exec .probe s =
         .next (((q.setLane k { q.lane k with state := .probing ret, lastProbeId := id, probe := .queued }).offer
           (.lane { lane := k, event := .probing })).replied l p (.deferred k .probe))) ∧
       (origin → ¬ inAuction → u.lastProbeId ≤ 65535 → u.aLink = .down → ∃ t : State, exec .probe s =
           .next (t.replied l p (.completed .ok
             (uField 1 k.val ++ uField 1 4 ++ (1 :: uField 1 2) ++ fill 5 ++ uField 2 u.cLane ++ uField 2 u.uLane))) ∧
         (t.lane k).state = u.state ∧ (t.lane k).probe = .none ∧ (t.lane k).lastProbeId = id ∧
         (u.pendingC = none → u.pendingU = none →
           (t.lane k).withoutReplies = { (q.lane k).withoutReplies with lastProbeId := id, probe := .none } ∧
             t.journal.counter = s.journal.counter + 2) ∧
         (∀ m, m ≠ k → (t.lane m).withoutReplies = (q.lane m).withoutReplies) ∧
         (∀ b, (t.book b).withoutTriggers = (s.book b).withoutTriggers) ∧ t.timebase = s.timebase ∧
         t.discipline = s.discipline)))

/-! ### Requests: journal, evidence, status, reset -/

/-- JOURNAL_RELEASE frees the EXPORTED records at or below its number, limited to the highest exported, and a pending
gap then takes the next number; JOURNAL_RESEND sets the cursor on an EXPORTED record and refuses any other number (R160,
R166, R168, R195). -/
def Obligations.JournalReleaseAndResend : Prop :=
  ∀ (s : State) (l : LaneId) (p : Bytes),
    let q := s.popRequest l
    let j := s.journal
    let n := field p 3 8
    let freed (m : Nat) (h : Held) : Bool := h.isExported && decide (h.number ≤ m)
    (s.Serves .journalRelease l p →
      (j.highestExported = none → exec .journalRelease s =
        .next (q.replied l p (.completed .okClamped (fill 9 ++ uField 4 0)))) ∧
      (∀ top, j.highestExported = some top →
        let m := min n top
        ∃ t : State, exec .journalRelease s = .next (t.replied l p (.completed (if n ≤ top then .ok else .okClamped)
            ((1 :: uField 8 m) ++ uField 4 (j.held.countP (freed m))))) ∧
          (j.gap = none ∨ j.held.countP (freed m) = 0 → t.journal.held = j.held.filter (fun h => !freed m h) ∧
            t.journal.counter = j.counter) ∧
          (∀ g, j.gap = some g → 0 < j.held.countP (freed m) → j.held.length ≤ 4096 →
            t.journal.gap = none ∧ t.journal.counter = j.counter + 1 ∧
            ∃ slot, t.journal.held = j.held.filter (fun h => !freed m h) ++
              [⟨j.counter, slot, .written s.lt (.gapFull g.first g.count)⟩]) ∧
          t.journal.highestExported = j.highestExported ∧ t.journal.lostTotal = j.lostTotal ∧
          t = { q with journal := t.journal })) ∧
    (s.Serves .journalResend l p →
      ((∃ h : Held, h ∈ j.held ∧ h.number = n ∧ h.isExported = true) → exec .journalResend s =
        .next ({ q with journal := { j with resend := some n } }.replied l p (.completed .ok
          (uField 4 (j.held.countP fun h : Held => h.isExported && decide (n ≤ h.number)))))) ∧
      ((∀ h : Held, h ∈ j.held → h.number = n → h.isExported = false) →
        exec .journalResend s = .next (s.refused l p .badIndex)))

/-- COUNTER_READ is answered with every value and changes nothing (R181). -/
def Obligations.CounterReadReturnsValues : Prop :=
  ∀ (s : State) (l : LaneId) (p : Bytes), s.Serves .counterRead l p →
    exec .counterRead s = .next ((s.popRequest l).replied l p (.completed .ok
      ((s.evidence.counters.toList.flatMap fun c => uField 6 c.value) ++
        s.evidence.monitors.toList.flatMap fun m =>
          uField 6 m.values.count ++ uField 8 m.values.sum ++ uField 4 m.values.maximum)))

/-- COUNTER_CLEAR sets every value to 0, keeps the settings, P and the snapshot expiry, and offers the cleared notice
before its reply (R182). -/
def Obligations.CounterClearZeroesValues : Prop :=
  ∀ (s : State) (l : LaneId) (p : Bytes), s.Serves .counterClear l p →
    ∃ e : Evidence, exec .counterClear s =
        .next (({ s.popRequest l with evidence := e }.offer .cleared).replied l p (.completed .ok [])) ∧
      (∀ i : Fin 8, e.counters[i.val] = { s.evidence.counters[i.val] with value := 0 }) ∧
      (∀ i : Fin 2, e.monitors[i.val] = { s.evidence.monitors[i.val] with values := ⟨0, 0, 0⟩ }) ∧
      e.period = s.evidence.period ∧ e.snapshotExpiry = s.evidence.snapshotExpiry

/-- STATUS_READ is answered OK in every state and changes nothing; its reply begins with the identity and says nothing
of the End Generator's state: two states that differ in that alone get the same reply. Nor does it say anything of the
draw of a book in CALL or WINDOW: two states that differ in that and in the generator's state get the same reply (R95,
R107, R196). -/
def Obligations.StatusReadSealsDraws : Prop :=
  ∀ (s s' : State) (l : LaneId) (p : Bytes) (b : BookId) (g : BitVec 32) (d : Option Draw),
    s.Serves .statusRead l p →
    let sameReply := ∃ content, exec .statusRead s =
        .next ((s.popRequest l).replied l p (.completed .ok ([0x0A, 0x04, 0x01] ++ content))) ∧
      exec .statusRead s' =
        .next ((s'.popRequest l).replied l p (.completed .ok ([0x0A, 0x04, 0x01] ++ content)))
    (s' = { s with bookUnit := { s.bookUnit with generator := g } } → sameReply) ∧
    ((s.book b).phase = .call ∨ (s.book b).phase = .window →
      s' = { s.setBook b { s.book b with draw := d } with bookUnit := { s.bookUnit with generator := g } } → sameReply)

/-- DATAPATH_RESET is refused during an auction; else every lane is DISABLED without frame entries, notices, reports
and credits, trigger entries staying, its reply giving the flushed counts in lane order (R74, R147, R197). -/
def Obligations.DatapathResetFlushesLanes : Prop :=
  ∀ (s : State) (l : LaneId) (p : Bytes), s.Serves .datapathReset l p →
    ((∃ b, s.InAuction b) → exec .datapathReset s = .next (s.refused l p .refusedState)) ∧
    ((∀ b, ¬ s.InAuction b) → ∃ t : State, exec .datapathReset s = .next (t.replied l p (.completed .ok
        (uField 1 (frameCount (s.lane 0).hold) ++ uField 1 (frameCount (s.lane 1).hold)
          ++ uField 1 (frameCount (s.lane 2).hold) ++ uField 1 (frameCount (s.lane 3).hold)))) ∧
      (∀ k, (t.lane k).state = .disabled ∧ (t.lane k).rx = none ∧ (t.lane k).probe = .none ∧
        (t.lane k).notices = [] ∧ (t.lane k).reports = [] ∧ (t.lane k).credits = 0 ∧ (t.lane k).noticeShare = 0 ∧
        (∀ e ∈ (t.lane k).hold, e.isFrame = false) ∧
        (∀ e ∈ bodies (s.lane k).hold, (∃ b i, e.1 = .trigger b i) → e ∈ bodies (t.lane k).hold) ∧
        (t.lane k).allowance = (s.lane k).allowance ∧ (t.lane k).permission = (s.lane k).permission ∧
        (t.lane k).aLink = (s.lane k).aLink ∧ (t.lane k).bLink = (s.lane k).bLink ∧
        (t.lane k).lastProbeId = (s.lane k).lastProbeId ∧ (t.lane k).engineWait = (s.lane k).engineWait) ∧
      (∀ b, (t.book b).withoutTriggers = (s.book b).withoutTriggers) ∧ t.bookUnit = s.bookUnit ∧
      t.timebase = s.timebase ∧ t.discipline = s.discipline ∧ t.uncertainty = s.uncertainty ∧
      t.monitorA = s.monitorA ∧ t.monitorB = s.monitorB ∧ t.stamping = s.stamping ∧ t.clock = s.clock ∧
      t.matchTable = s.matchTable ∧ t.classTable = s.classTable ∧ s.journal.counter + 4 ≤ t.journal.counter)

/-! ### Invariants that every step keeps, and rules of the whole part -/

/-- Every step keeps the applied rate within 200,000 ppb and the frequency term within 150,000 ppb (R2), and keeps some
lane with control permission on, so that the part can always be reached (R70, R191). -/
def Obligations.StepKeepsRatesAndPermission : Prop :=
  (∀ s t : State, s.RatesBounded → step s = .next t → t.RatesBounded) ∧
  (∀ s t : State, s.Reachable → step s = .next t → t.Reachable)

/-- Every step keeps every lane within its capacities: 64 frames, 32 credits, 16 notices, 32 reports, 8 requests, 8
replies, and the limits of its two egress counts. Every step keeps the triggers of the lanes as the books have them, so
that no lane ever holds more than eight (R115, R125, R129, R134, R145, R146, R147, R184, R185). -/
def Obligations.StepKeepsLanesFit : Prop :=
  (∀ s t : State, s.LanesFit → step s = .next t → t.LanesFit) ∧
  (∀ s t : State, s.TriggersMatch → step s = .next t → t.TriggersMatch) ∧
  (∀ s : State, s.TriggersMatch → ∀ l, triggerCount (s.lane l).hold ≤ 8)

/-- Every step keeps the ring in order: its numbers rise strictly and were all given by the counter, and each record
has a slot of its own among the 4,096 (R149, R157, R158). -/
def Obligations.StepKeepsJournalOrdered : Prop :=
  ∀ s t : State, s.journal.Ordered → step s = .next t → t.journal.Ordered

/-- The state after power-on meets the six invariants. -/
def Obligations.ResetMeetsInvariants : Prop :=
  State.reset.RatesBounded ∧ State.reset.LanesFit ∧ State.reset.journal.Ordered ∧ State.reset.Reachable ∧
    State.reset.GradeStands ∧ State.reset.TriggersMatch

/-- While a book is auction-active no command but the reset input moves LT: a step of the clock is deferred, and LT
advances only as the oscillator does (R1, R26, R27). -/
def Obligations.NoCommandMovesLtInAuction : Prop :=
  ∀ (s t : State) (b : BookId) (c : Instr), s.InAuction b → c ≠ .powerOnReset → exec c s = .next t → t.lt = s.lt

/-- While a book is auction-active no command but the reset input changes the stamping settings, a class record that
names the book, the enabled field of a match entry that such a class names, or the pattern of such an entry while it
is enabled; the pattern of one that is not enabled may be written (R86, R87, R89, R90). -/
def Obligations.TablesLockedInAuction : Prop :=
  ∀ (s t : State) (b : BookId) (c : Instr) (n : ClassId) (m : EntryId),
    s.InAuction b → c ≠ .powerOnReset → exec c s = .next t →
    t.stamping = s.stamping ∧
    (s.classTable[n.val].book = some b → t.classTable[n.val] = s.classTable[n.val]) ∧
    (s.classTable[n.val].book = some b →
      (s.classTable[n.val].anyOf.has m = true ∨ s.classTable[n.val].allOf.has m = true) →
      t.matchTable[m.val].enabled = s.matchTable[m.val].enabled ∧
        (s.matchTable[m.val].enabled = true → t.matchTable[m.val] = s.matchTable[m.val]))

/-- In WINDOW, FREEZE and UNCROSS a book keeps its draw: no command but the reset input changes x, the offset or the
flag, and the end instant is moved by BOOK_EXTEND alone, in WINDOW alone, and never back (R101, R106, R113). -/
def Obligations.DrawStaysInAuction : Prop :=
  ∀ (s t : State) (b : BookId) (d : Draw) (c : Instr),
    ((s.book b).phase = .window ∨ (s.book b).phase = .freeze ∨ (s.book b).phase = .uncross) →
    (s.book b).draw = some d → c ≠ .powerOnReset → exec c s = .next t →
    ∃ d', (t.book b).draw = some d' ∧ d'.x = d.x ∧ d'.offset = d.offset ∧ d'.unseeded = d.unseeded ∧
      d.endInstant ≤ d'.endInstant ∧ ((s.book b).phase ≠ .window → d'.endInstant = d.endInstant) ∧
      (c ≠ .bookExtend → d'.endInstant = d.endInstant)
end

