-- ==== Sys2Proof/Laws/State.lean ====
section
/-! SUPPORT. The small lemmas of the updates of State: one per field per update, true by `rfl`, and the reads of what
was just written. -/

namespace Sys2Proof.Machine


/-! ### setLane -/

@[simp] theorem State.setLane_timebase (s : State) (l : LaneId) (u : LaneUnit) :
    (s.setLane l u).timebase = s.timebase := rfl
@[simp] theorem State.setLane_monitorA (s : State) (l : LaneId) (u : LaneUnit) :
    (s.setLane l u).monitorA = s.monitorA := rfl
@[simp] theorem State.setLane_monitorB (s : State) (l : LaneId) (u : LaneUnit) :
    (s.setLane l u).monitorB = s.monitorB := rfl
@[simp] theorem State.setLane_discipline (s : State) (l : LaneId) (u : LaneUnit) :
    (s.setLane l u).discipline = s.discipline := rfl
@[simp] theorem State.setLane_uncertainty (s : State) (l : LaneId) (u : LaneUnit) :
    (s.setLane l u).uncertainty = s.uncertainty := rfl
@[simp] theorem State.setLane_clock (s : State) (l : LaneId) (u : LaneUnit) : (s.setLane l u).clock = s.clock := rfl
@[simp] theorem State.setLane_stamping (s : State) (l : LaneId) (u : LaneUnit) :
    (s.setLane l u).stamping = s.stamping := rfl
@[simp] theorem State.setLane_matchTable (s : State) (l : LaneId) (u : LaneUnit) :
    (s.setLane l u).matchTable = s.matchTable := rfl
@[simp] theorem State.setLane_classTable (s : State) (l : LaneId) (u : LaneUnit) :
    (s.setLane l u).classTable = s.classTable := rfl
@[simp] theorem State.setLane_books (s : State) (l : LaneId) (u : LaneUnit) : (s.setLane l u).books = s.books := rfl
@[simp] theorem State.setLane_bookUnit (s : State) (l : LaneId) (u : LaneUnit) :
    (s.setLane l u).bookUnit = s.bookUnit := rfl
@[simp] theorem State.setLane_journal (s : State) (l : LaneId) (u : LaneUnit) :
    (s.setLane l u).journal = s.journal := rfl
@[simp] theorem State.setLane_evidence (s : State) (l : LaneId) (u : LaneUnit) :
    (s.setLane l u).evidence = s.evidence := rfl
@[simp] theorem State.setLane_pointer (s : State) (l : LaneId) (u : LaneUnit) :
    (s.setLane l u).pointer = s.pointer := rfl
@[simp] theorem State.setLane_pending (s : State) (l : LaneId) (u : LaneUnit) :
    (s.setLane l u).pending = s.pending := rfl
@[simp] theorem State.setLane_freeIndex (s : State) (l : LaneId) (u : LaneUnit) :
    (s.setLane l u).freeIndex = s.freeIndex := rfl
@[simp] theorem State.lt_setLane (s : State) (l : LaneId) (u : LaneUnit) : (s.setLane l u).lt = s.lt := rfl
@[simp] theorem State.book_setLane (s : State) (l : LaneId) (u : LaneUnit) (b : BookId) :
    (s.setLane l u).book b = s.book b := rfl
@[simp] theorem State.monitor_setLane (s : State) (l : LaneId) (u : LaneUnit) (r : RefLine) :
    (s.setLane l u).monitor r = s.monitor r := by cases r <;> rfl

@[simp] theorem State.lane_setLane_same (s : State) (l : LaneId) (u : LaneUnit) : (s.setLane l u).lane l = u := by
  simp [State.lane, State.setLane]

@[simp] theorem State.lane_setLane_of_ne (s : State) {l k : LaneId} (u : LaneUnit) (h : k ≠ l) :
    (s.setLane l u).lane k = s.lane k := by
  have h' : l.val ≠ k.val := fun e => h (Fin.ext e.symm)
  simp [State.lane, State.setLane, h']

theorem State.lane_setLane (s : State) (l k : LaneId) (u : LaneUnit) :
    (s.setLane l u).lane k = if k = l then u else s.lane k := by
  by_cases h : k = l
  · subst h; simp
  · simp [h]

@[simp] theorem State.setLane_setLane_same (s : State) (l : LaneId) (u v : LaneUnit) :
    (s.setLane l u).setLane l v = s.setLane l v := by
  simp [State.setLane]

@[simp] theorem State.setLane_lane_self (s : State) (l : LaneId) : s.setLane l (s.lane l) = s := by
  simp [State.setLane, State.lane]


/-! ### setBook -/

@[simp] theorem State.setBook_timebase (s : State) (b : BookId) (k : Book) :
    (s.setBook b k).timebase = s.timebase := rfl
@[simp] theorem State.setBook_monitorA (s : State) (b : BookId) (k : Book) :
    (s.setBook b k).monitorA = s.monitorA := rfl
@[simp] theorem State.setBook_monitorB (s : State) (b : BookId) (k : Book) :
    (s.setBook b k).monitorB = s.monitorB := rfl
@[simp] theorem State.setBook_discipline (s : State) (b : BookId) (k : Book) :
    (s.setBook b k).discipline = s.discipline := rfl
@[simp] theorem State.setBook_uncertainty (s : State) (b : BookId) (k : Book) :
    (s.setBook b k).uncertainty = s.uncertainty := rfl
@[simp] theorem State.setBook_clock (s : State) (b : BookId) (k : Book) : (s.setBook b k).clock = s.clock := rfl
@[simp] theorem State.setBook_stamping (s : State) (b : BookId) (k : Book) :
    (s.setBook b k).stamping = s.stamping := rfl
@[simp] theorem State.setBook_lanes (s : State) (b : BookId) (k : Book) : (s.setBook b k).lanes = s.lanes := rfl
@[simp] theorem State.setBook_matchTable (s : State) (b : BookId) (k : Book) :
    (s.setBook b k).matchTable = s.matchTable := rfl
@[simp] theorem State.setBook_classTable (s : State) (b : BookId) (k : Book) :
    (s.setBook b k).classTable = s.classTable := rfl
@[simp] theorem State.setBook_bookUnit (s : State) (b : BookId) (k : Book) :
    (s.setBook b k).bookUnit = s.bookUnit := rfl
@[simp] theorem State.setBook_journal (s : State) (b : BookId) (k : Book) : (s.setBook b k).journal = s.journal := rfl
@[simp] theorem State.setBook_evidence (s : State) (b : BookId) (k : Book) :
    (s.setBook b k).evidence = s.evidence := rfl
@[simp] theorem State.setBook_pointer (s : State) (b : BookId) (k : Book) : (s.setBook b k).pointer = s.pointer := rfl
@[simp] theorem State.setBook_pending (s : State) (b : BookId) (k : Book) : (s.setBook b k).pending = s.pending := rfl
@[simp] theorem State.setBook_freeIndex (s : State) (b : BookId) (k : Book) :
    (s.setBook b k).freeIndex = s.freeIndex := rfl
@[simp] theorem State.lt_setBook (s : State) (b : BookId) (k : Book) : (s.setBook b k).lt = s.lt := rfl
@[simp] theorem State.lane_setBook (s : State) (b : BookId) (k : Book) (l : LaneId) :
    (s.setBook b k).lane l = s.lane l := rfl
@[simp] theorem State.monitor_setBook (s : State) (b : BookId) (k : Book) (r : RefLine) :
    (s.setBook b k).monitor r = s.monitor r := by cases r <;> rfl

@[simp] theorem State.book_setBook_same (s : State) (b : BookId) (k : Book) : (s.setBook b k).book b = k := by
  simp [State.book, State.setBook]

@[simp] theorem State.book_setBook_of_ne (s : State) {b c : BookId} (k : Book) (h : c ≠ b) :
    (s.setBook b k).book c = s.book c := by
  have h' : b.val ≠ c.val := fun e => h (Fin.ext e.symm)
  simp [State.book, State.setBook, h']

theorem State.book_setBook (s : State) (b c : BookId) (k : Book) :
    (s.setBook b k).book c = if c = b then k else s.book c := by
  by_cases h : c = b
  · subst h; simp
  · simp [h]

@[simp] theorem State.setBook_setBook_same (s : State) (b : BookId) (k m : Book) :
    (s.setBook b k).setBook b m = s.setBook b m := by
  simp [State.setBook]

@[simp] theorem Book.trigger_setTrigger_same (k : Book) (l : LaneId) (t : TriggerState) :
    (k.setTrigger l t).trigger l = t := by
  simp [Book.trigger, Book.setTrigger]

@[simp] theorem Book.trigger_setTrigger_of_ne (k : Book) {l m : LaneId} (t : TriggerState) (h : m ≠ l) :
    (k.setTrigger l t).trigger m = k.trigger m := by
  have h' : l.val ≠ m.val := fun e => h (Fin.ext e.symm)
  simp [Book.trigger, Book.setTrigger, h']

@[simp] theorem Book.setTrigger_phase (k : Book) (l : LaneId) (t : TriggerState) :
    (k.setTrigger l t).phase = k.phase := rfl
@[simp] theorem Book.setTrigger_arming (k : Book) (l : LaneId) (t : TriggerState) :
    (k.setTrigger l t).arming = k.arming := rfl
@[simp] theorem Book.setTrigger_draw (k : Book) (l : LaneId) (t : TriggerState) :
    (k.setTrigger l t).draw = k.draw := rfl
@[simp] theorem Book.setTrigger_uncrossAt (k : Book) (l : LaneId) (t : TriggerState) :
    (k.setTrigger l t).uncrossAt = k.uncrossAt := rfl
@[simp] theorem Book.setTrigger_result (k : Book) (l : LaneId) (t : TriggerState) :
    (k.setTrigger l t).result = k.result := rfl

/-! ### setMonitor -/

@[simp] theorem State.setMonitor_timebase (s : State) (r : RefLine) (m : Monitor) :
    (s.setMonitor r m).timebase = s.timebase := by cases r <;> rfl
@[simp] theorem State.setMonitor_discipline (s : State) (r : RefLine) (m : Monitor) :
    (s.setMonitor r m).discipline = s.discipline := by cases r <;> rfl
@[simp] theorem State.setMonitor_uncertainty (s : State) (r : RefLine) (m : Monitor) :
    (s.setMonitor r m).uncertainty = s.uncertainty := by cases r <;> rfl
@[simp] theorem State.setMonitor_clock (s : State) (r : RefLine) (m : Monitor) :
    (s.setMonitor r m).clock = s.clock := by cases r <;> rfl
@[simp] theorem State.setMonitor_stamping (s : State) (r : RefLine) (m : Monitor) :
    (s.setMonitor r m).stamping = s.stamping := by cases r <;> rfl
@[simp] theorem State.setMonitor_lanes (s : State) (r : RefLine) (m : Monitor) :
    (s.setMonitor r m).lanes = s.lanes := by cases r <;> rfl
@[simp] theorem State.setMonitor_matchTable (s : State) (r : RefLine) (m : Monitor) :
    (s.setMonitor r m).matchTable = s.matchTable := by cases r <;> rfl
@[simp] theorem State.setMonitor_classTable (s : State) (r : RefLine) (m : Monitor) :
    (s.setMonitor r m).classTable = s.classTable := by cases r <;> rfl
@[simp] theorem State.setMonitor_books (s : State) (r : RefLine) (m : Monitor) :
    (s.setMonitor r m).books = s.books := by cases r <;> rfl
@[simp] theorem State.setMonitor_bookUnit (s : State) (r : RefLine) (m : Monitor) :
    (s.setMonitor r m).bookUnit = s.bookUnit := by cases r <;> rfl
@[simp] theorem State.setMonitor_journal (s : State) (r : RefLine) (m : Monitor) :
    (s.setMonitor r m).journal = s.journal := by cases r <;> rfl
@[simp] theorem State.setMonitor_evidence (s : State) (r : RefLine) (m : Monitor) :
    (s.setMonitor r m).evidence = s.evidence := by cases r <;> rfl
@[simp] theorem State.setMonitor_pointer (s : State) (r : RefLine) (m : Monitor) :
    (s.setMonitor r m).pointer = s.pointer := by cases r <;> rfl
@[simp] theorem State.setMonitor_pending (s : State) (r : RefLine) (m : Monitor) :
    (s.setMonitor r m).pending = s.pending := by cases r <;> rfl
@[simp] theorem State.setMonitor_freeIndex (s : State) (r : RefLine) (m : Monitor) :
    (s.setMonitor r m).freeIndex = s.freeIndex := by cases r <;> rfl
@[simp] theorem State.lt_setMonitor (s : State) (r : RefLine) (m : Monitor) :
    (s.setMonitor r m).lt = s.lt := by cases r <;> rfl
@[simp] theorem State.lane_setMonitor (s : State) (r : RefLine) (m : Monitor) (l : LaneId) :
    (s.setMonitor r m).lane l = s.lane l := by cases r <;> rfl
@[simp] theorem State.book_setMonitor (s : State) (r : RefLine) (m : Monitor) (b : BookId) :
    (s.setMonitor r m).book b = s.book b := by cases r <;> rfl

@[simp] theorem State.monitor_setMonitor_same (s : State) (r : RefLine) (m : Monitor) :
    (s.setMonitor r m).monitor r = m := by
  cases r <;> rfl

@[simp] theorem State.monitor_setMonitor_other (s : State) (r : RefLine) (m : Monitor) :
    (s.setMonitor r m).monitor r.other = s.monitor r.other := by
  cases r <;> rfl

@[simp] theorem RefLine.other_ne (r : RefLine) : r.other ≠ r := by cases r <;> decide

@[simp] theorem RefLine.other_other (r : RefLine) : r.other.other = r := by cases r <;> rfl


/-! ### raise -/

@[simp] theorem State.raise_timebase (s : State) (e : EvidenceEvent) : (s.raise e).timebase = s.timebase := rfl
@[simp] theorem State.raise_monitorA (s : State) (e : EvidenceEvent) : (s.raise e).monitorA = s.monitorA := rfl
@[simp] theorem State.raise_monitorB (s : State) (e : EvidenceEvent) : (s.raise e).monitorB = s.monitorB := rfl
@[simp] theorem State.raise_discipline (s : State) (e : EvidenceEvent) : (s.raise e).discipline = s.discipline := rfl
@[simp] theorem State.raise_uncertainty (s : State) (e : EvidenceEvent) :
    (s.raise e).uncertainty = s.uncertainty := rfl
@[simp] theorem State.raise_clock (s : State) (e : EvidenceEvent) : (s.raise e).clock = s.clock := rfl
@[simp] theorem State.raise_stamping (s : State) (e : EvidenceEvent) : (s.raise e).stamping = s.stamping := rfl
@[simp] theorem State.raise_lanes (s : State) (e : EvidenceEvent) : (s.raise e).lanes = s.lanes := rfl
@[simp] theorem State.raise_matchTable (s : State) (e : EvidenceEvent) : (s.raise e).matchTable = s.matchTable := rfl
@[simp] theorem State.raise_classTable (s : State) (e : EvidenceEvent) : (s.raise e).classTable = s.classTable := rfl
@[simp] theorem State.raise_books (s : State) (e : EvidenceEvent) : (s.raise e).books = s.books := rfl
@[simp] theorem State.raise_bookUnit (s : State) (e : EvidenceEvent) : (s.raise e).bookUnit = s.bookUnit := rfl
@[simp] theorem State.raise_journal (s : State) (e : EvidenceEvent) : (s.raise e).journal = s.journal := rfl
@[simp] theorem State.raise_pointer (s : State) (e : EvidenceEvent) : (s.raise e).pointer = s.pointer := rfl
@[simp] theorem State.raise_pending (s : State) (e : EvidenceEvent) : (s.raise e).pending = s.pending := rfl
@[simp] theorem State.raise_freeIndex (s : State) (e : EvidenceEvent) : (s.raise e).freeIndex = s.freeIndex := rfl
@[simp] theorem State.lane_raise (s : State) (e : EvidenceEvent) (l : LaneId) : (s.raise e).lane l = s.lane l := rfl
@[simp] theorem State.book_raise (s : State) (e : EvidenceEvent) (b : BookId) : (s.raise e).book b = s.book b := rfl
@[simp] theorem State.lt_raise (s : State) (e : EvidenceEvent) : (s.raise e).lt = s.lt := rfl
@[simp] theorem State.monitor_raise (s : State) (e : EvidenceEvent) (r : RefLine) :
    (s.raise e).monitor r = s.monitor r := by cases r <;> rfl
@[simp] theorem State.raiseAll_timebase (s : State) (es : List EvidenceEvent) :
    (s.raiseAll es).timebase = s.timebase := rfl
@[simp] theorem State.raiseAll_monitorA (s : State) (es : List EvidenceEvent) :
    (s.raiseAll es).monitorA = s.monitorA := rfl
@[simp] theorem State.raiseAll_monitorB (s : State) (es : List EvidenceEvent) :
    (s.raiseAll es).monitorB = s.monitorB := rfl
@[simp] theorem State.raiseAll_discipline (s : State) (es : List EvidenceEvent) :
    (s.raiseAll es).discipline = s.discipline := rfl
@[simp] theorem State.raiseAll_uncertainty (s : State) (es : List EvidenceEvent) :
    (s.raiseAll es).uncertainty = s.uncertainty := rfl
@[simp] theorem State.raiseAll_clock (s : State) (es : List EvidenceEvent) : (s.raiseAll es).clock = s.clock := rfl
@[simp] theorem State.raiseAll_stamping (s : State) (es : List EvidenceEvent) :
    (s.raiseAll es).stamping = s.stamping := rfl
@[simp] theorem State.raiseAll_lanes (s : State) (es : List EvidenceEvent) : (s.raiseAll es).lanes = s.lanes := rfl
@[simp] theorem State.raiseAll_matchTable (s : State) (es : List EvidenceEvent) :
    (s.raiseAll es).matchTable = s.matchTable := rfl
@[simp] theorem State.raiseAll_classTable (s : State) (es : List EvidenceEvent) :
    (s.raiseAll es).classTable = s.classTable := rfl
@[simp] theorem State.raiseAll_books (s : State) (es : List EvidenceEvent) : (s.raiseAll es).books = s.books := rfl
@[simp] theorem State.raiseAll_bookUnit (s : State) (es : List EvidenceEvent) :
    (s.raiseAll es).bookUnit = s.bookUnit := rfl
@[simp] theorem State.raiseAll_journal (s : State) (es : List EvidenceEvent) :
    (s.raiseAll es).journal = s.journal := rfl
@[simp] theorem State.raiseAll_pointer (s : State) (es : List EvidenceEvent) :
    (s.raiseAll es).pointer = s.pointer := rfl
@[simp] theorem State.raiseAll_pending (s : State) (es : List EvidenceEvent) :
    (s.raiseAll es).pending = s.pending := rfl
@[simp] theorem State.raiseAll_freeIndex (s : State) (es : List EvidenceEvent) :
    (s.raiseAll es).freeIndex = s.freeIndex := rfl
@[simp] theorem State.lane_raiseAll (s : State) (es : List EvidenceEvent) (l : LaneId) :
    (s.raiseAll es).lane l = s.lane l := rfl
@[simp] theorem State.book_raiseAll (s : State) (es : List EvidenceEvent) (b : BookId) :
    (s.raiseAll es).book b = s.book b := rfl
@[simp] theorem State.lt_raiseAll (s : State) (es : List EvidenceEvent) : (s.raiseAll es).lt = s.lt := rfl
@[simp] theorem State.raiseAll_nil (s : State) : s.raiseAll [] = s := rfl

/-! ### offer: a record changes the journal, and the evidence where it is lost -/

@[simp] theorem State.offer_timebase (s : State) (r : RecordBody) : (s.offer r).timebase = s.timebase := rfl
@[simp] theorem State.offer_monitorA (s : State) (r : RecordBody) : (s.offer r).monitorA = s.monitorA := rfl
@[simp] theorem State.offer_monitorB (s : State) (r : RecordBody) : (s.offer r).monitorB = s.monitorB := rfl
@[simp] theorem State.offer_discipline (s : State) (r : RecordBody) : (s.offer r).discipline = s.discipline := rfl
@[simp] theorem State.offer_uncertainty (s : State) (r : RecordBody) : (s.offer r).uncertainty = s.uncertainty := rfl
@[simp] theorem State.offer_clock (s : State) (r : RecordBody) : (s.offer r).clock = s.clock := rfl
@[simp] theorem State.offer_stamping (s : State) (r : RecordBody) : (s.offer r).stamping = s.stamping := rfl
@[simp] theorem State.offer_lanes (s : State) (r : RecordBody) : (s.offer r).lanes = s.lanes := rfl
@[simp] theorem State.offer_matchTable (s : State) (r : RecordBody) : (s.offer r).matchTable = s.matchTable := rfl
@[simp] theorem State.offer_classTable (s : State) (r : RecordBody) : (s.offer r).classTable = s.classTable := rfl
@[simp] theorem State.offer_books (s : State) (r : RecordBody) : (s.offer r).books = s.books := rfl
@[simp] theorem State.offer_bookUnit (s : State) (r : RecordBody) : (s.offer r).bookUnit = s.bookUnit := rfl
@[simp] theorem State.offer_pointer (s : State) (r : RecordBody) : (s.offer r).pointer = s.pointer := rfl
@[simp] theorem State.offer_pending (s : State) (r : RecordBody) : (s.offer r).pending = s.pending := rfl
@[simp] theorem State.offer_freeIndex (s : State) (r : RecordBody) : (s.offer r).freeIndex = s.freeIndex := rfl
@[simp] theorem State.lane_offer (s : State) (r : RecordBody) (l : LaneId) : (s.offer r).lane l = s.lane l := rfl
@[simp] theorem State.book_offer (s : State) (r : RecordBody) (b : BookId) : (s.offer r).book b = s.book b := rfl
@[simp] theorem State.lt_offer (s : State) (r : RecordBody) : (s.offer r).lt = s.lt := rfl
@[simp] theorem State.monitor_offer (s : State) (r : RecordBody) (q : RefLine) :
    (s.offer r).monitor q = s.monitor q := by cases q <;> rfl
@[simp] theorem State.offerClock_timebase (s : State) (e : ClockEvent) (q : RefLine) (th : Option Int) :
    (s.offerClock e q th).timebase = s.timebase := rfl
@[simp] theorem State.offerClock_monitorA (s : State) (e : ClockEvent) (q : RefLine) (th : Option Int) :
    (s.offerClock e q th).monitorA = s.monitorA := rfl
@[simp] theorem State.offerClock_monitorB (s : State) (e : ClockEvent) (q : RefLine) (th : Option Int) :
    (s.offerClock e q th).monitorB = s.monitorB := rfl
@[simp] theorem State.offerClock_discipline (s : State) (e : ClockEvent) (q : RefLine) (th : Option Int) :
    (s.offerClock e q th).discipline = s.discipline := rfl
@[simp] theorem State.offerClock_uncertainty (s : State) (e : ClockEvent) (q : RefLine) (th : Option Int) :
    (s.offerClock e q th).uncertainty = s.uncertainty := rfl
@[simp] theorem State.offerClock_clock (s : State) (e : ClockEvent) (q : RefLine) (th : Option Int) :
    (s.offerClock e q th).clock = s.clock := rfl
@[simp] theorem State.offerClock_stamping (s : State) (e : ClockEvent) (q : RefLine) (th : Option Int) :
    (s.offerClock e q th).stamping = s.stamping := rfl
@[simp] theorem State.offerClock_lanes (s : State) (e : ClockEvent) (q : RefLine) (th : Option Int) :
    (s.offerClock e q th).lanes = s.lanes := rfl
@[simp] theorem State.offerClock_matchTable (s : State) (e : ClockEvent) (q : RefLine) (th : Option Int) :
    (s.offerClock e q th).matchTable = s.matchTable := rfl
@[simp] theorem State.offerClock_classTable (s : State) (e : ClockEvent) (q : RefLine) (th : Option Int) :
    (s.offerClock e q th).classTable = s.classTable := rfl
@[simp] theorem State.offerClock_books (s : State) (e : ClockEvent) (q : RefLine) (th : Option Int) :
    (s.offerClock e q th).books = s.books := rfl
@[simp] theorem State.offerClock_bookUnit (s : State) (e : ClockEvent) (q : RefLine) (th : Option Int) :
    (s.offerClock e q th).bookUnit = s.bookUnit := rfl
@[simp] theorem State.offerClock_pointer (s : State) (e : ClockEvent) (q : RefLine) (th : Option Int) :
    (s.offerClock e q th).pointer = s.pointer := rfl
@[simp] theorem State.offerClock_pending (s : State) (e : ClockEvent) (q : RefLine) (th : Option Int) :
    (s.offerClock e q th).pending = s.pending := rfl
@[simp] theorem State.offerClock_freeIndex (s : State) (e : ClockEvent) (q : RefLine) (th : Option Int) :
    (s.offerClock e q th).freeIndex = s.freeIndex := rfl
@[simp] theorem State.lane_offerClock (s : State) (e : ClockEvent) (q : RefLine) (th : Option Int) (l : LaneId) :
    (s.offerClock e q th).lane l = s.lane l := rfl
@[simp] theorem State.book_offerClock (s : State) (e : ClockEvent) (q : RefLine) (th : Option Int) (b : BookId) :
    (s.offerClock e q th).book b = s.book b := rfl
@[simp] theorem State.lt_offerClock (s : State) (e : ClockEvent) (q : RefLine) (th : Option Int) :
    (s.offerClock e q th).lt = s.lt := rfl
@[simp] theorem State.monitor_offerClock (s : State) (e : ClockEvent) (q : RefLine) (th : Option Int) (r : RefLine) :
    (s.offerClock e q th).monitor r = s.monitor r := by cases r <;> rfl
@[simp] theorem State.offerLane_timebase (s : State) (k : LaneId) (e : LaneEvent) :
    (s.offerLane k e).timebase = s.timebase := rfl
@[simp] theorem State.offerLane_monitorA (s : State) (k : LaneId) (e : LaneEvent) :
    (s.offerLane k e).monitorA = s.monitorA := rfl
@[simp] theorem State.offerLane_monitorB (s : State) (k : LaneId) (e : LaneEvent) :
    (s.offerLane k e).monitorB = s.monitorB := rfl
@[simp] theorem State.offerLane_discipline (s : State) (k : LaneId) (e : LaneEvent) :
    (s.offerLane k e).discipline = s.discipline := rfl
@[simp] theorem State.offerLane_uncertainty (s : State) (k : LaneId) (e : LaneEvent) :
    (s.offerLane k e).uncertainty = s.uncertainty := rfl
@[simp] theorem State.offerLane_clock (s : State) (k : LaneId) (e : LaneEvent) :
    (s.offerLane k e).clock = s.clock := rfl
@[simp] theorem State.offerLane_stamping (s : State) (k : LaneId) (e : LaneEvent) :
    (s.offerLane k e).stamping = s.stamping := rfl
@[simp] theorem State.offerLane_lanes (s : State) (k : LaneId) (e : LaneEvent) :
    (s.offerLane k e).lanes = s.lanes := rfl
@[simp] theorem State.offerLane_matchTable (s : State) (k : LaneId) (e : LaneEvent) :
    (s.offerLane k e).matchTable = s.matchTable := rfl
@[simp] theorem State.offerLane_classTable (s : State) (k : LaneId) (e : LaneEvent) :
    (s.offerLane k e).classTable = s.classTable := rfl
@[simp] theorem State.offerLane_books (s : State) (k : LaneId) (e : LaneEvent) :
    (s.offerLane k e).books = s.books := rfl
@[simp] theorem State.offerLane_bookUnit (s : State) (k : LaneId) (e : LaneEvent) :
    (s.offerLane k e).bookUnit = s.bookUnit := rfl
@[simp] theorem State.offerLane_pointer (s : State) (k : LaneId) (e : LaneEvent) :
    (s.offerLane k e).pointer = s.pointer := rfl
@[simp] theorem State.offerLane_pending (s : State) (k : LaneId) (e : LaneEvent) :
    (s.offerLane k e).pending = s.pending := rfl
@[simp] theorem State.offerLane_freeIndex (s : State) (k : LaneId) (e : LaneEvent) :
    (s.offerLane k e).freeIndex = s.freeIndex := rfl
@[simp] theorem State.lane_offerLane (s : State) (k : LaneId) (e : LaneEvent) (l : LaneId) :
    (s.offerLane k e).lane l = s.lane l := rfl
@[simp] theorem State.book_offerLane (s : State) (k : LaneId) (e : LaneEvent) (b : BookId) :
    (s.offerLane k e).book b = s.book b := rfl
@[simp] theorem State.lt_offerLane (s : State) (k : LaneId) (e : LaneEvent) : (s.offerLane k e).lt = s.lt := rfl
@[simp] theorem State.monitor_offerLane (s : State) (k : LaneId) (e : LaneEvent) (r : RefLine) :
    (s.offerLane k e).monitor r = s.monitor r := by cases r <;> rfl
@[simp] theorem State.offerTable_timebase (s : State) (t : TableId) (i : Nat) (c : Bytes) :
    (s.offerTable t i c).timebase = s.timebase := rfl
@[simp] theorem State.offerTable_monitorA (s : State) (t : TableId) (i : Nat) (c : Bytes) :
    (s.offerTable t i c).monitorA = s.monitorA := rfl
@[simp] theorem State.offerTable_monitorB (s : State) (t : TableId) (i : Nat) (c : Bytes) :
    (s.offerTable t i c).monitorB = s.monitorB := rfl
@[simp] theorem State.offerTable_discipline (s : State) (t : TableId) (i : Nat) (c : Bytes) :
    (s.offerTable t i c).discipline = s.discipline := rfl
@[simp] theorem State.offerTable_uncertainty (s : State) (t : TableId) (i : Nat) (c : Bytes) :
    (s.offerTable t i c).uncertainty = s.uncertainty := rfl
@[simp] theorem State.offerTable_clock (s : State) (t : TableId) (i : Nat) (c : Bytes) :
    (s.offerTable t i c).clock = s.clock := rfl
@[simp] theorem State.offerTable_stamping (s : State) (t : TableId) (i : Nat) (c : Bytes) :
    (s.offerTable t i c).stamping = s.stamping := rfl
@[simp] theorem State.offerTable_lanes (s : State) (t : TableId) (i : Nat) (c : Bytes) :
    (s.offerTable t i c).lanes = s.lanes := rfl
@[simp] theorem State.offerTable_matchTable (s : State) (t : TableId) (i : Nat) (c : Bytes) :
    (s.offerTable t i c).matchTable = s.matchTable := rfl
@[simp] theorem State.offerTable_classTable (s : State) (t : TableId) (i : Nat) (c : Bytes) :
    (s.offerTable t i c).classTable = s.classTable := rfl
@[simp] theorem State.offerTable_books (s : State) (t : TableId) (i : Nat) (c : Bytes) :
    (s.offerTable t i c).books = s.books := rfl
@[simp] theorem State.offerTable_bookUnit (s : State) (t : TableId) (i : Nat) (c : Bytes) :
    (s.offerTable t i c).bookUnit = s.bookUnit := rfl
@[simp] theorem State.offerTable_pointer (s : State) (t : TableId) (i : Nat) (c : Bytes) :
    (s.offerTable t i c).pointer = s.pointer := rfl
@[simp] theorem State.offerTable_pending (s : State) (t : TableId) (i : Nat) (c : Bytes) :
    (s.offerTable t i c).pending = s.pending := rfl
@[simp] theorem State.offerTable_freeIndex (s : State) (t : TableId) (i : Nat) (c : Bytes) :
    (s.offerTable t i c).freeIndex = s.freeIndex := rfl
@[simp] theorem State.lane_offerTable (s : State) (t : TableId) (i : Nat) (c : Bytes) (l : LaneId) :
    (s.offerTable t i c).lane l = s.lane l := rfl
@[simp] theorem State.book_offerTable (s : State) (t : TableId) (i : Nat) (c : Bytes) (b : BookId) :
    (s.offerTable t i c).book b = s.book b := rfl
@[simp] theorem State.lt_offerTable (s : State) (t : TableId) (i : Nat) (c : Bytes) :
    (s.offerTable t i c).lt = s.lt := rfl
@[simp] theorem State.monitor_offerTable (s : State) (t : TableId) (i : Nat) (c : Bytes) (r : RefLine) :
    (s.offerTable t i c).monitor r = s.monitor r := by cases r <;> rfl

/-! ### Timebase -/

@[simp] theorem Timebase.setRate_lt (t : Timebase) (r : Int) : (t.setRate r).lt = t.lt := rfl
@[simp] theorem Timebase.setRate_frac (t : Timebase) (r : Int) : (t.setRate r).frac = t.frac := rfl
@[simp] theorem Timebase.setRate_osc (t : Timebase) (r : Int) : (t.setRate r).osc = t.osc := rfl
@[simp] theorem Timebase.setRate_carry (t : Timebase) (r : Int) : (t.setRate r).carry = t.carry := rfl
@[simp] theorem Timebase.setRate_r (t : Timebase) (r : Int) : (t.setRate r).r = clampSym Config.rateLimit r := rfl
@[simp] theorem Timebase.advance_osc (d : Nat) (t : Timebase) : (t.advance d).osc = t.osc + d := rfl
@[simp] theorem Timebase.advance_r (d : Nat) (t : Timebase) : (t.advance d).r = t.r := rfl

end Sys2Proof.Machine
end

