-- ==== Sys2Proof/Laws/Journal.lean ====
section
/-! SUPPORT. What each operation of the Journal can do, said once per operation: setting the flush expiry touches
nothing but the flush, a stored record joins the held order at its end, a lost one is counted in the gap. -/

namespace Sys2Proof.Machine

/-! ### The flush expiry -/

/-- Setting the flush expiry changes the expiry and the note alone (R162). -/
theorem Journal.setFlush_eq (lt : Nat) (j : Journal) :
    j.setFlush lt = { j with
      flushExpiry := (j.setFlush lt).flushExpiry, flushDue := (j.setFlush lt).flushDue } := by
  unfold Journal.setFlush
  split
  · rfl
  · dsimp only; split <;> rfl

/-- Setting it again changes the expiry and the note alone (R162). -/
theorem Journal.syncFlush_eq (lt : Nat) (j before : Journal) :
    j.syncFlush lt before = { j with
      flushExpiry := (j.syncFlush lt before).flushExpiry, flushDue := (j.syncFlush lt before).flushDue } := by
  unfold Journal.syncFlush
  split
  · rfl
  · exact Journal.setFlush_eq lt j

@[simp] theorem Journal.setFlush_counter (lt : Nat) (j : Journal) : (j.setFlush lt).counter = j.counter := by
  rw [Journal.setFlush_eq]
@[simp] theorem Journal.setFlush_held (lt : Nat) (j : Journal) : (j.setFlush lt).held = j.held := by
  rw [Journal.setFlush_eq]
@[simp] theorem Journal.setFlush_reservations (lt : Nat) (j : Journal) : (j.setFlush lt).reservations = j.reservations := by
  rw [Journal.setFlush_eq]
@[simp] theorem Journal.setFlush_gap (lt : Nat) (j : Journal) : (j.setFlush lt).gap = j.gap := by
  rw [Journal.setFlush_eq]
@[simp] theorem Journal.setFlush_lostTotal (lt : Nat) (j : Journal) : (j.setFlush lt).lostTotal = j.lostTotal := by
  rw [Journal.setFlush_eq]
@[simp] theorem Journal.setFlush_highestExported (lt : Nat) (j : Journal) : (j.setFlush lt).highestExported = j.highestExported := by
  rw [Journal.setFlush_eq]
@[simp] theorem Journal.setFlush_resend (lt : Nat) (j : Journal) : (j.setFlush lt).resend = j.resend := by
  rw [Journal.setFlush_eq]
@[simp] theorem Journal.setFlush_exportLane (lt : Nat) (j : Journal) : (j.setFlush lt).exportLane = j.exportLane := by
  rw [Journal.setFlush_eq]
@[simp] theorem Journal.setFlush_flushInterval (lt : Nat) (j : Journal) : (j.setFlush lt).flushInterval = j.flushInterval := by
  rw [Journal.setFlush_eq]
@[simp] theorem Journal.syncFlush_counter (lt : Nat) (j k : Journal) : (j.syncFlush lt k).counter = j.counter := by
  rw [Journal.syncFlush_eq]
@[simp] theorem Journal.syncFlush_held (lt : Nat) (j k : Journal) : (j.syncFlush lt k).held = j.held := by
  rw [Journal.syncFlush_eq]
@[simp] theorem Journal.syncFlush_reservations (lt : Nat) (j k : Journal) : (j.syncFlush lt k).reservations = j.reservations := by
  rw [Journal.syncFlush_eq]
@[simp] theorem Journal.syncFlush_gap (lt : Nat) (j k : Journal) : (j.syncFlush lt k).gap = j.gap := by
  rw [Journal.syncFlush_eq]
@[simp] theorem Journal.syncFlush_lostTotal (lt : Nat) (j k : Journal) : (j.syncFlush lt k).lostTotal = j.lostTotal := by
  rw [Journal.syncFlush_eq]
@[simp] theorem Journal.syncFlush_highestExported (lt : Nat) (j k : Journal) : (j.syncFlush lt k).highestExported = j.highestExported := by
  rw [Journal.syncFlush_eq]
@[simp] theorem Journal.syncFlush_resend (lt : Nat) (j k : Journal) : (j.syncFlush lt k).resend = j.resend := by
  rw [Journal.syncFlush_eq]
@[simp] theorem Journal.syncFlush_exportLane (lt : Nat) (j k : Journal) : (j.syncFlush lt k).exportLane = j.exportLane := by
  rw [Journal.syncFlush_eq]
@[simp] theorem Journal.syncFlush_flushInterval (lt : Nat) (j k : Journal) : (j.syncFlush lt k).flushInterval = j.flushInterval := by
  rw [Journal.syncFlush_eq]

/-! ### Numbering, storing, losing -/

/-- An offered record takes one number (R149). -/
@[simp] theorem Journal.admitRecord_counter (lt : Nat) (r : RecordBody) (j : Journal) :
    (j.admitRecord lt r).counter = j.counter + 1 := by
  unfold Journal.admitRecord
  dsimp only
  split
  · rfl
  · simp [Journal.store]

@[simp] theorem State.offer_counter (s : State) (r : RecordBody) :
    (s.offer r).journal.counter = s.journal.counter + 1 := Journal.admitRecord_counter _ _ _

@[simp] theorem State.offerClock_counter (s : State) (e : ClockEvent) (q : RefLine) (th : Option Int) :
    (s.offerClock e q th).journal.counter = s.journal.counter + 1 := Journal.admitRecord_counter _ _ _

@[simp] theorem State.offerLane_counter (s : State) (l : LaneId) (e : LaneEvent) :
    (s.offerLane l e).journal.counter = s.journal.counter + 1 := Journal.admitRecord_counter _ _ _

@[simp] theorem State.offerTable_counter (s : State) (t : TableId) (i : Nat) (c : Bytes) :
    (s.offerTable t i c).journal.counter = s.journal.counter + 1 := Journal.admitRecord_counter _ _ _

/-- With a free slot the record is written at the end of the held order, in the lowest free slot (R158). -/
theorem Journal.admitRecord_held_of_free (lt : Nat) (r : RecordBody) (j : Journal) (h : j.freeCount ≠ 0) :
    (j.admitRecord lt r).held = j.held ++ [⟨j.counter, j.lowestFree, .written lt r⟩] := by
  unfold Journal.admitRecord
  dsimp only
  rw [if_neg h]
  simp [Journal.store, Journal.lowestFree]

/-- Without one the number is lost: nothing is held of it (R159). -/
theorem Journal.admitRecord_held_of_full (lt : Nat) (r : RecordBody) (j : Journal) (h : j.freeCount = 0) :
    (j.admitRecord lt r).held = j.held := by
  unfold Journal.admitRecord
  dsimp only
  rw [if_pos h]
  rfl

/-- What the offering of a record leaves alone in the Journal, whether it is written or lost. -/
theorem Journal.admitRecord_keeps (lt : Nat) (r : RecordBody) (j : Journal) :
    (j.admitRecord lt r).reservations = j.reservations ∧ (j.admitRecord lt r).highestExported = j.highestExported ∧
      (j.admitRecord lt r).resend = j.resend ∧ (j.admitRecord lt r).exportLane = j.exportLane ∧
      (j.admitRecord lt r).flushInterval = j.flushInterval := by
  unfold Journal.admitRecord
  dsimp only
  split
  · exact ⟨rfl, rfl, rfl, rfl, rfl⟩
  · simp [Journal.store]

/-- A lost record changes the counter, the gap and the lost total, and nothing else (R159). -/
theorem Journal.admitRecord_of_full (lt : Nat) (r : RecordBody) (j : Journal) (h : j.freeCount = 0) :
    j.admitRecord lt r = { j with
      counter := j.counter + 1
      lostTotal := j.lostTotal + 1
      gap := some (match j.gap with
        | none => ⟨j.counter, 1⟩
        | some g => { g with count := g.count + 1 }) } := by
  unfold Journal.admitRecord
  dsimp only
  rw [if_pos h]
  rfl

/-- Offering a record touches the Journal and, when it is lost, the evidence (R149, R159). -/
theorem State.offer_eq (s : State) (r : RecordBody) :
    s.offer r = { s with journal := (s.offer r).journal, evidence := (s.offer r).evidence } := rfl

/-- While a slot is free the evidence stays (R158). -/
theorem State.offer_evidence_of_free (s : State) (r : RecordBody) (h : s.journal.freeCount ≠ 0) :
    (s.offer r).evidence = s.evidence := by
  simp [State.offer, h]

/-- Judging the clock grade changes the grade, and the Journal when the grade changes (R36, R37). -/
theorem State.judgeGrade_eq (s : State) :
    s.judgeGrade = { s with
      uncertainty := { s.uncertainty with grade := s.judgedGrade }
      journal := s.judgeGrade.journal, evidence := s.judgeGrade.evidence } := by
  unfold State.judgeGrade
  split
  next h => rw [h]
  next h => rfl

theorem State.judgeGrade_same (s : State) (h : s.judgedGrade = s.uncertainty.grade) : s.judgeGrade = s := by
  simp [State.judgeGrade, h]

theorem State.judgeGrade_counter (s : State) :
    s.judgeGrade.journal.counter =
      if s.judgedGrade = s.uncertainty.grade then s.journal.counter else s.journal.counter + 1 := by
  unfold State.judgeGrade
  split <;> simp

end Sys2Proof.Machine
end

