-- ==== Sys2Proof/Laws/Clock.lean ====
section
/-! SUPPORT. What the shared operations of the time path can do, said once per operation. -/

namespace Sys2Proof.Machine

/-! ### U_clock and the judgement -/

@[simp] theorem State.growthLt_none {s : State} (h : s.uncertainty.growthExpiry = none) : s.growthLt = s.lt := by
  simp [State.growthLt, h]

@[simp] theorem State.growthLt_some {s : State} {e : Nat} (h : s.uncertainty.growthExpiry = some e) :
    s.growthLt = min s.lt (e - 1) := by simp [State.growthLt, h]

/-- U_clock never stands at an LT that is still to come (R34). -/
theorem State.growthLt_le (s : State) : s.growthLt ≤ s.lt := by
  unfold State.growthLt
  split <;> omega

/-- Before the growth expiry the formula is taken at LT itself (R33, R34). -/
theorem State.growthLt_eq_lt {s : State} {e : Nat} (h : s.uncertainty.growthExpiry = some e) (hlt : s.lt < e) :
    s.growthLt = s.lt := by
  rw [State.growthLt_some h]; omega

/-- Where the grade stands as a judgement gives it, judging changes nothing (R36, R41). -/
theorem State.judgeGrade_of_judged {s : State} (h : s.judgedGrade = s.uncertainty.grade) : s.judgeGrade = s := by
  unfold State.judgeGrade
  simp [h]

/-! ### Switches and losses -/

/-- The switch condition as the operations test it (R19). -/
theorem State.canSwitch_iff (s : State) :
    (s.discipline.autoSwitch && (s.monitor s.discipline.selected.other).refState == .healthy) = true ↔
      s.discipline.autoSwitch = true ∧ (s.monitor s.discipline.selected.other).refState = .healthy := by
  simp

/-- A switch selects the other reference, enters ACQUIRE with lock count 0 at the rate F, and gives one record, or two
when the controller was not in ACQUIRE (R19). -/
theorem State.switchReference_eq (s : State) :
    s.switchReference = { s with
      timebase := s.timebase.setRate s.discipline.freq
      discipline := { s.discipline with selected := s.discipline.selected.other, state := .acquire, lockCount := 0 }
      journal := s.switchReference.journal, evidence := s.switchReference.evidence } ∧
    s.switchReference.journal.counter = s.journal.counter + if s.discipline.state = .acquire then 1 else 2 := by
  unfold State.switchReference State.rateToFreq
  dsimp only
  split <;> simp <;> rfl

/-- The loss of the selected reference, case by case (R19). -/
theorem State.lossOfSelected_cases (s : State) :
    (s.discipline.state = .free → s.lossOfSelected = s) ∧
    (s.discipline.state ≠ .free → s.discipline.autoSwitch = true →
      (s.monitor s.discipline.selected.other).refState = .healthy → s.lossOfSelected = s.switchReference) ∧
    (s.discipline.state = .locked →
      ¬ (s.discipline.autoSwitch = true ∧ (s.monitor s.discipline.selected.other).refState = .healthy) →
      s.lossOfSelected = ({ s with
        discipline := { s.discipline with state := .holdover } }.rateToFreq).offerClock .state s.discipline.selected) ∧
    (s.discipline.state = .acquire ∨ s.discipline.state = .holdover →
      ¬ (s.discipline.autoSwitch = true ∧ (s.monitor s.discipline.selected.other).refState = .healthy) →
      s.lossOfSelected = s.rateToFreq) := by
  have h := s.canSwitch_iff
  unfold State.lossOfSelected
  generalize (s.discipline.autoSwitch && (s.monitor s.discipline.selected.other).refState == .healthy) = c at h
  refine ⟨fun e => by rw [e], fun e h1 h2 => ?_, fun e h1 => ?_, fun e h1 => ?_⟩
  · have : c = true := h.2 ⟨h1, h2⟩
    subst this
    cases e' : s.discipline.state <;> simp_all
  · have : c = false := by
      cases c
      · rfl
      · exact absurd (h.1 rfl) h1
    subst this
    rw [e]; rfl
  · have : c = false := by
      cases c
      · rfl
      · exact absurd (h.1 rfl) h1
    subst this
    rcases e with e | e <;> rw [e] <;> rfl

/-- The loss of the selected reference changes the rate, the discipline and the records alone. -/
theorem State.lossOfSelected_eq (s : State) :
    s.lossOfSelected = { s with
      timebase := s.lossOfSelected.timebase, discipline := s.lossOfSelected.discipline
      journal := s.lossOfSelected.journal, evidence := s.lossOfSelected.evidence } := by
  unfold State.lossOfSelected
  have := s.switchReference_eq.1
  dsimp only
  split
  · rfl
  · split
    · rw [this]
    · rfl
  · split
    · rw [this]
    · rfl
  · split
    · rw [this]
    · rfl

end Sys2Proof.Machine
end

