-- ==== Sys2Proof/Laws/Frames.lean ====
section
/-! SUPPORT. What the shared operations leave alone: the part of the state that no lane, book, journal or evidence
operation touches, said once per operation. -/

namespace Sys2Proof.Machine

theorem State.fixedPart_ext {s t : State} (h : s.fixedPart = t.fixedPart) :
    s.timebase = t.timebase ∧ s.monitorA = t.monitorA ∧ s.monitorB = t.monitorB ∧ s.discipline = t.discipline ∧
      s.uncertainty = t.uncertainty ∧ s.clock = t.clock ∧ s.stamping = t.stamping ∧ s.matchTable = t.matchTable ∧
      s.classTable = t.classTable ∧ s.pointer = t.pointer ∧ s.pending = t.pending := by
  simpa [State.fixedPart] using h

theorem State.lt_of_fixedPart {s t : State} (h : s.fixedPart = t.fixedPart) : s.lt = t.lt := by
  simp [State.lt, (State.fixedPart_ext h).1]

@[simp] theorem State.fixedPart_setLane (s : State) (l : LaneId) (u : LaneUnit) :
    (s.setLane l u).fixedPart = s.fixedPart := rfl

@[simp] theorem State.fixedPart_setBook (s : State) (b : BookId) (k : Book) :
    (s.setBook b k).fixedPart = s.fixedPart := rfl

@[simp] theorem State.fixedPart_raise (s : State) (e : EvidenceEvent) : (s.raise e).fixedPart = s.fixedPart := rfl

@[simp] theorem State.fixedPart_raiseAll (s : State) (es : List EvidenceEvent) :
    (s.raiseAll es).fixedPart = s.fixedPart := rfl

@[simp] theorem State.fixedPart_offer (s : State) (r : RecordBody) : (s.offer r).fixedPart = s.fixedPart := rfl

@[simp] theorem State.fixedPart_offerLane (s : State) (l : LaneId) (e : LaneEvent) :
    (s.offerLane l e).fixedPart = s.fixedPart := rfl

@[simp] theorem State.fixedPart_offerTable (s : State) (t : TableId) (i : Nat) (c : Bytes) :
    (s.offerTable t i c).fixedPart = s.fixedPart := rfl

@[simp] theorem State.fixedPart_offerClock (s : State) (e : ClockEvent) (r : RefLine) (th : Option Int) :
    (s.offerClock e r th).fixedPart = s.fixedPart := rfl

@[simp] theorem State.fixedPart_countLane (s : State) (l : LaneId) (f : LaneCounts → LaneCounts) :
    (s.countLane l f).fixedPart = s.fixedPart := rfl

@[simp] theorem State.fixedPart_completeReply (s : State) (l : LaneId) (c : LaneCommand) (st : Status) (b : Bytes) :
    (s.completeReply l c st b).fixedPart = s.fixedPart := rfl

@[simp] theorem State.fixedPart_placeReply (s : State) (l : LaneId) (r : Reply) :
    (s.placeReply l r).fixedPart = s.fixedPart := rfl

@[simp] theorem State.fixedPart_reserve (s : State) (l : LaneId) : (s.reserve l).fixedPart = s.fixedPart := by
  unfold State.reserve; split
  · rfl
  · split <;> rfl

@[simp] theorem State.fixedPart_offerEntry (s : State) (l : LaneId) (e : EntryRecord) :
    (s.offerEntry l e).fixedPart = s.fixedPart := by
  unfold State.offerEntry; split <;> rfl

@[simp] theorem State.fixedPart_voidReservation (s : State) (l : LaneId) :
    (s.voidReservation l).fixedPart = s.fixedPart := by
  unfold State.voidReservation; split <;> rfl

@[simp] theorem State.fixedPart_judgeWaits (s : State) (l : LaneId) : (s.judgeWaits l).fixedPart = s.fixedPart := rfl

@[simp] theorem State.fixedPart_admitEntry (s : State) (l : LaneId) (e : HoldEntry) :
    (s.admitEntry l e).fixedPart = s.fixedPart := by
  unfold State.admitEntry; dsimp only; split <;> rfl

@[simp] theorem State.fixedPart_admitFrame (s : State) (l : LaneId) (key : Option OrderKey) (book : Option BookId)
    (cls : Option ClassId) (captured release : Nat) (frame : Bytes) :
    (s.admitFrame l key book cls captured release frame).fixedPart = s.fixedPart := by
  unfold State.admitFrame; simp only [State.fixedPart_admitEntry]; rfl

@[simp] theorem State.fixedPart_placeTrigger (s : State) (l : LaneId) (p : PendingTrigger) :
    (s.placeTrigger l p).fixedPart = s.fixedPart := rfl

/-- A fold of operations that each leave a part of the state alone leaves it alone. -/
theorem foldl_preserves {α β σ : Type} (part : σ → β) (f : σ → α → σ) (h : ∀ s a, part (f s a) = part s) (s : σ)
    (as : List α) : part (as.foldl f s) = part s := by
  induction as generalizing s with
  | nil => rfl
  | cons a as ih => rw [List.foldl_cons, ih, h]

@[simp] theorem State.fixedPart_placementTest (s : State) (l : LaneId) :
    (s.placementTest l).fixedPart = s.fixedPart :=
  foldl_preserves State.fixedPart (fun t p => t.placeTrigger l p) (fun t p => State.fixedPart_placeTrigger t l p) _ _

@[simp] theorem State.fixedPart_requestTrigger (s : State) (l : LaneId) (b : BookId) (e : Nat) :
    (s.requestTrigger l b e).fixedPart = s.fixedPart := by
  simp [State.requestTrigger]

@[simp] theorem State.fixedPart_install (s : State) (l : LaneId) (c u : Nat) (r : Option Nat) :
    (s.install l c u r).fixedPart = s.fixedPart := by
  simp [State.install]

@[simp] theorem State.fixedPart_installPending (s : State) (l : LaneId) :
    (s.installPending l).fixedPart = s.fixedPart := by
  unfold State.installPending; dsimp only; split <;> simp

@[simp] theorem State.fixedPart_endReception (s : State) (l : LaneId) :
    (s.endReception l).fixedPart = s.fixedPart := by
  simp [State.endReception]

@[simp] theorem State.fixedPart_afterReception (s : State) (l : LaneId) :
    (s.afterReception l).fixedPart = s.fixedPart := by
  simp [State.afterReception]

@[simp] theorem State.fixedPart_probeFail (s : State) (l : LaneId) : (s.probeFail l).fixedPart = s.fixedPart := by
  simp [State.probeFail]

@[simp] theorem State.fixedPart_failProbe (s : State) (l : LaneId) : (s.failProbe l).fixedPart = s.fixedPart := by
  unfold State.failProbe; split <;> simp

@[simp] theorem State.fixedPart_endDrain (s : State) (l : LaneId) : (s.endDrain l).fixedPart = s.fixedPart := by
  unfold State.endDrain; split <;> simp

@[simp] theorem State.fixedPart_dropCredits (s : State) (l : LaneId) :
    (s.dropCredits l).fixedPart = s.fixedPart := by
  unfold State.dropCredits; split <;> simp

@[simp] theorem State.fixedPart_abandonReception (s : State) (l : LaneId) :
    (s.abandonReception l).fixedPart = s.fixedPart := by
  unfold State.abandonReception; split <;> simp

/-! ### The Book Unit -/

@[simp] theorem State.fixedPart_takeTc (s : State) (st : Bool) (b : BookId) :
    (s.takeTc st b).fixedPart = s.fixedPart := rfl

@[simp] theorem State.fixedPart_takeTw (s : State) (st : Bool) (b : BookId) (a : Arming) :
    (s.takeTw st b a).fixedPart = s.fixedPart := rfl

@[simp] theorem State.fixedPart_takeE (s : State) (st : Bool) (b : BookId) (a : Arming) (d : Draw) :
    (s.takeE st b a d).fixedPart = s.fixedPart := rfl

@[simp] theorem State.fixedPart_sendTrigger (s : State) (b : BookId) (e : Nat) (l : LaneId) :
    (s.sendTrigger b e l).fixedPart = s.fixedPart := by
  simp [State.sendTrigger]

@[simp] theorem State.fixedPart_takeUncross (s : State) (st : Bool) (b : BookId) (a : Arming) (d : Draw) :
    (s.takeUncross st b a d).fixedPart = s.fixedPart := by
  simp only [State.takeUncross, State.fixedPart_offer, State.fixedPart_setBook]
  rw [foldl_preserves State.fixedPart _ (fun s l => State.fixedPart_sendTrigger s b d.endInstant l)]
  rfl

@[simp] theorem State.fixedPart_takeBoundary (s : State) (st : Bool) (b : BookId) :
    (s.takeBoundary st b).fixedPart = s.fixedPart := by
  unfold State.takeBoundary; split <;> simp

@[simp] theorem State.fixedPart_takeBoundaries (st : Bool) (limit : Nat) (b : BookId) (fuel : Nat) (s : State) :
    (State.takeBoundaries st limit b fuel s).fixedPart = s.fixedPart := by
  induction fuel generalizing s with
  | zero => rfl
  | succ n ih =>
    unfold State.takeBoundaries
    split
    · rfl
    · split
      · rw [ih]; simp
      · rfl

/-- A book whose draw is not due is not served (R107). -/
theorem State.serveDraw_of_not_draws {s : State} {b : BookId} (h : (s.book b).drawsBy s.lt = false) :
    s.serveDraw b = s := by simp [State.serveDraw, h]

/-- Boundaries that make no draw are taken without another book's (R99, R107). -/
theorem State.takeInTurn_of_not_draws {s : State} {limit : Nat} {b : BookId}
    (h : (s.book b).drawsBy limit = false) : s.takeInTurn limit b = State.takeBoundaries false limit b 4 s := by
  simp [State.takeInTurn, h]

/-- A draw follows those of the lower-numbered books that are due (R107). -/
theorem State.takeInTurn_of_draws {s : State} {limit : Nat} {b : BookId} (h : (s.book b).drawsBy limit = true) :
    s.takeInTurn limit b = State.takeBoundaries false limit b 4 (s.serveLowerDraws b) := by
  simp [State.takeInTurn, h]

@[simp] theorem State.fixedPart_serveDraw (s : State) (b : BookId) : (s.serveDraw b).fixedPart = s.fixedPart := by
  unfold State.serveDraw; split <;> simp

@[simp] theorem State.fixedPart_serveLowerDraws (s : State) (b : BookId) :
    (s.serveLowerDraws b).fixedPart = s.fixedPart :=
  foldl_preserves State.fixedPart _ State.fixedPart_serveDraw _ _

@[simp] theorem State.fixedPart_takeInTurn (s : State) (limit : Nat) (b : BookId) :
    (s.takeInTurn limit b).fixedPart = s.fixedPart := by
  unfold State.takeInTurn; split <;> simp

@[simp] theorem State.fixedPart_takeExpiry (s : State) (p : Phase) (b : BookId) :
    (s.takeExpiry p b).fixedPart = s.fixedPart := by
  unfold State.takeExpiry; split <;> simp

@[simp] theorem State.fixedPart_takeForQuery (s : State) (b : BookId) (stamp : Nat) :
    (s.takeForQuery b stamp).fixedPart = s.fixedPart := by
  unfold State.takeForQuery; split
  · rfl
  · split <;> simp

@[simp] theorem State.fixedPart_bookOnStep (s : State) (b : BookId) : (s.bookOnStep b).fixedPart = s.fixedPart := by
  unfold State.bookOnStep; split <;> simp

@[simp] theorem State.fixedPart_confirm (s : State) (b : BookId) (r : ConfirmResult) :
    (s.confirm b r).fixedPart = s.fixedPart := by
  unfold State.confirm; split
  · rfl
  · split <;> rfl
  all_goals rfl

/-! ### Steps, snapshots, egress, the ends of frames -/

@[simp] theorem State.fixedPart_takeSnapshot (s : State) : s.takeSnapshot.fixedPart = s.fixedPart := rfl

@[simp] theorem State.fixedPart_snapshotOnStep (s : State) (f : Bool) : (s.snapshotOnStep f).fixedPart = s.fixedPart := by
  unfold State.snapshotOnStep; split
  · rfl
  · split
    · split <;> rfl
    · rfl

@[simp] theorem State.fixedPart_laneOnStep (s : State) (l : LaneId) : (s.laneOnStep l).fixedPart = s.fixedPart := by
  unfold State.laneOnStep
  cases (s.lane l).probe <;> dsimp only <;> split <;> (try split) <;> simp

@[simp] theorem State.fixedPart_reserveForStep (s : State) : s.reserveForStep.fixedPart = s.fixedPart :=
  foldl_preserves State.fixedPart _ (fun s l => by split <;> simp) _ _

@[simp] theorem State.fixedPart_depart (s : State) (l : LaneId) (p q : List HoldEntry) (n : Nat) (f : Sending) :
    (s.depart l p q n f).fixedPart = s.fixedPart := by
  simp [State.depart]

@[simp] theorem State.fixedPart_releaseFrame (s : State) (l : LaneId) (p : List HoldEntry) (f : HeldFrame)
    (q : List HoldEntry) : (s.releaseFrame l p f q).fixedPart = s.fixedPart := by
  simp [State.releaseFrame]

@[simp] theorem State.fixedPart_releaseTrigger (s : State) (l : LaneId) (p : List HoldEntry) (b : BookId) (e : Nat)
    (q : List HoldEntry) : (s.releaseTrigger l p b e q).fixedPart = s.fixedPart := by
  simp [State.releaseTrigger]

@[simp] theorem State.fixedPart_releaseEntry (s : State) (l : LaneId) (p : List HoldEntry) (e : HoldEntry)
    (q : List HoldEntry) : (s.releaseEntry l p e q).fixedPart = s.fixedPart := by
  unfold State.releaseEntry
  rw [State.fixedPart_endDrain]
  split <;> simp

@[simp] theorem State.fixedPart_frameEnds (s : State) (l : LaneId) (f : Bytes) (k : APortFrame)
    (h : Reception → State → State) (hh : ∀ rx t, (h rx t).fixedPart = t.fixedPart) :
    (s.frameEnds l f k h).fixedPart = s.fixedPart := by
  unfold State.frameEnds; split
  · rfl
  · split
    · simp [hh]
    · rfl

@[simp] theorem State.fixedPart_handleForeign (s : State) (l : LaneId) (f : Bytes) (rx : Reception) :
    (s.handleForeign l f rx).fixedPart = s.fixedPart := by
  unfold State.handleForeign; dsimp only
  split
  · rfl
  · split
    · simp
    · rfl

@[simp] theorem State.fixedPart_refuseEntry (s : State) (l : LaneId) (rx : Reception) (j : Judged) (r : EntryRefusal) :
    (s.refuseEntry l rx j r).fixedPart = s.fixedPart := by
  unfold State.refuseEntry; dsimp only
  split <;> simp

@[simp] theorem State.fixedPart_forwardEntry (s : State) (l : LaneId) (f : Bytes) (rx : Reception) (j : Judged)
    (c : ClassId) (r : ClassRecord) : (s.forwardEntry l f rx j c r).fixedPart = s.fixedPart := by
  simp [State.forwardEntry]

@[simp] theorem State.fixedPart_queryGating (s : State) (l : LaneId) (b : Option BookId) (stamp : Nat) :
    (s.queryGating l b stamp).1.fixedPart = s.fixedPart := by
  unfold State.queryGating; split
  · rfl
  · simp

@[simp] theorem State.fixedPart_handleWellFormed (s : State) (l : LaneId) (f : Bytes) (rx : Reception)
    (h : EntryHeader) : (s.handleWellFormed l f rx h).fixedPart = s.fixedPart := by
  unfold State.handleWellFormed; dsimp only
  split <;> simp

@[simp] theorem State.fixedPart_handleEntry (s : State) (l : LaneId) (f : Bytes) (rx : Reception) :
    (s.handleEntry l f rx).fixedPart = s.fixedPart := by
  unfold State.handleEntry; dsimp only
  split
  · rfl
  · simp
  · simp
  · split <;> simp

@[simp] theorem State.fixedPart_probeDone (s : State) (l : LaneId) (r : Nat) :
    (s.probeDone l r).fixedPart = s.fixedPart := by
  simp [State.probeDone]

@[simp] theorem State.fixedPart_flushLane (s : State) (l : LaneId) : (s.flushLane l).fixedPart = s.fixedPart := by
  unfold State.flushLane State.endDrainByReset State.supersedeDrain State.zeroCredits State.emptyLane
  dsimp only
  simp only [State.fixedPart_offer, State.fixedPart_setLane, State.fixedPart_judgeWaits]
  split <;> simp

@[simp] theorem fixedPart_flushLanes (ls : List LaneId) (s : State) : (flushLanes ls s).1.fixedPart = s.fixedPart := by
  induction ls generalizing s with
  | nil => rfl
  | cons l ls ih => simp [flushLanes, ih]

end Sys2Proof.Machine
end

