-- ==== Sys2Proof/Laws/Lanes.lean ====
section
/-! SUPPORT. What the shared operations of a lane do, said once per operation: waits, admission, placement,
departure of credits, the slots, the completion of replies. -/

namespace Sys2Proof.Machine

/-! ### Waits (R133) -/

@[simp] theorem noteWait_body (lt credits : Nat) (l : LaneId) (earlier : List HoldEntry) (e : HoldEntry) :
    (noteWait lt credits l earlier e).1.body = e.body := by
  unfold noteWait; repeat' split
  all_goals rfl

@[simp] theorem noteWait_release (lt credits : Nat) (l : LaneId) (earlier : List HoldEntry) (e : HoldEntry) :
    (noteWait lt credits l earlier e).1.release = e.release := by
  unfold noteWait; repeat' split
  all_goals rfl

/-- The judging of waits changes only the marks: bodies, release times and order stay. -/
@[simp] theorem bodies_noteWaits (lt credits : Nat) (l : LaneId) (earlier hold : List HoldEntry) :
    bodies (noteWaits lt credits l earlier hold).1 = bodies hold := by
  induction hold generalizing earlier with
  | nil => rfl
  | cons e rest ih =>
    have h := ih (earlier ++ [e])
    simp only [bodies] at h
    simp [noteWaits, bodies, h]

/-- How many frames a list holds depends on its bodies alone. -/
theorem frameCount_of_bodies {a b : List HoldEntry} (h : bodies a = bodies b) : frameCount a = frameCount b := by
  have key (hold : List HoldEntry) : frameCount hold = (bodies hold).countP fun x => match x.1 with
      | .frame _ => true
      | .trigger _ _ => false := by
    rw [bodies, List.countP_map]
    rfl
  rw [key, key, h]

@[simp] theorem bodies_nil : bodies [] = [] := rfl

/-- A list is empty exactly when its bodies are. -/
theorem bodies_eq_nil (hold : List HoldEntry) : bodies hold = [] ↔ hold = [] := by simp [bodies]

@[simp] theorem bodies_append (a b : List HoldEntry) : bodies (a ++ b) = bodies a ++ bodies b := by simp [bodies]

@[simp] theorem bodies_cons (e : HoldEntry) (a : List HoldEntry) : bodies (e :: a) = (e.body, e.release) :: bodies a := rfl

/-- Everything the judging of a lane's waits can do: marks in its list, and events. -/
theorem State.judgeWaits_eq (s : State) (l : LaneId) :
    ∃ hold events, bodies hold = bodies (s.lane l).hold ∧
      s.judgeWaits l = { s.setLane l { s.lane l with hold := hold } with evidence := events } :=
  ⟨_, _, bodies_noteWaits s.lt (s.lane l).credits l [] (s.lane l).hold, rfl⟩

@[simp] theorem State.judgeWaits_journal (s : State) (l : LaneId) : (s.judgeWaits l).journal = s.journal := rfl

@[simp] theorem State.judgeWaits_books (s : State) (l : LaneId) : (s.judgeWaits l).books = s.books := rfl

@[simp] theorem State.judgeWaits_bookUnit (s : State) (l : LaneId) : (s.judgeWaits l).bookUnit = s.bookUnit := rfl

@[simp] theorem State.judgeWaits_lane_other (s : State) {l k : LaneId} (h : k ≠ l) :
    (s.judgeWaits l).lane k = s.lane k := by
  obtain ⟨hold, events, -, he⟩ := s.judgeWaits_eq l
  rw [he]
  exact State.lane_setLane_of_ne s _ h

/-- The lane itself changes in its list alone. -/
theorem State.judgeWaits_lane (s : State) (l : LaneId) :
    (s.judgeWaits l).lane l = { s.lane l with hold := ((s.judgeWaits l).lane l).hold } ∧
      bodies ((s.judgeWaits l).lane l).hold = bodies (s.lane l).hold := by
  obtain ⟨hold, events, hb, he⟩ := s.judgeWaits_eq l
  have h : (s.judgeWaits l).lane l = { s.lane l with hold := hold } := by
    rw [he]
    exact State.lane_setLane_same s l _
  rw [h]
  exact ⟨rfl, hb⟩

/-- The same with the lane changed just before. -/
theorem State.judgeWaits_setLane (s : State) (l : LaneId) (u : LaneUnit) :
    ((s.setLane l u).judgeWaits l).lane l = { u with hold := (((s.setLane l u).judgeWaits l).lane l).hold } ∧
      bodies (((s.setLane l u).judgeWaits l).lane l).hold = bodies u.hold := by
  have h := State.judgeWaits_lane (s.setLane l u) l
  rw [State.lane_setLane_same] at h
  exact h

/-! ### Admission (R129, R130) -/

/-- Everything the admission of an entry can do: it joins the tail; a due one is judged at once, any other moves the
release expiry. -/
theorem State.admitEntry_lane (s : State) (l : LaneId) (e : HoldEntry) :
    bodies ((s.admitEntry l e).lane l).hold = bodies (s.lane l).hold ++ [(e.body, e.release)] ∧
      (s.admitEntry l e).lane l = { s.lane l with
        hold := ((s.admitEntry l e).lane l).hold
        releaseExpiry := if e.release ≤ s.lt then (s.lane l).releaseExpiry
          else some (earlierExpiry (s.lane l).releaseExpiry e.release) } := by
  unfold State.admitEntry
  dsimp only
  by_cases h : e.release ≤ s.lt
  · have hd : e.due s.lt = true := by simpa [HoldEntry.due] using h
    simp only [hd, if_true, h]
    obtain ⟨h1, h2⟩ := State.judgeWaits_setLane s l { s.lane l with hold := (s.lane l).hold ++ [e] }
    exact ⟨by rw [h2, bodies_append]; rfl, h1⟩
  · have hd : e.due s.lt = false := by simpa [HoldEntry.due] using h
    simp [hd, h]

@[simp] theorem State.admitEntry_lane_other (s : State) {l k : LaneId} (h : k ≠ l) (e : HoldEntry) :
    (s.admitEntry l e).lane k = s.lane k := by
  unfold State.admitEntry
  dsimp only
  split
  · rw [State.judgeWaits_lane_other _ h, State.lane_setLane_of_ne _ _ h]
  · rw [State.lane_setLane_of_ne _ _ h]

@[simp] theorem State.admitEntry_journal (s : State) (l : LaneId) (e : HoldEntry) : (s.admitEntry l e).journal = s.journal := by
  unfold State.admitEntry; dsimp only; split <;> rfl

@[simp] theorem State.admitEntry_books (s : State) (l : LaneId) (e : HoldEntry) : (s.admitEntry l e).books = s.books := by
  unfold State.admitEntry; dsimp only; split <;> rfl

@[simp] theorem State.admitEntry_bookUnit (s : State) (l : LaneId) (e : HoldEntry) : (s.admitEntry l e).bookUnit = s.bookUnit := by
  unfold State.admitEntry; dsimp only; split <;> rfl

/-! ### Credits (R47, R74, R133) -/

/-- Everything the loss of the credits can do: the count is 0, and the waits may be marked. -/
theorem State.dropCredits_lane (s : State) (l : LaneId) :
    bodies ((s.dropCredits l).lane l).hold = bodies (s.lane l).hold ∧
      (s.dropCredits l).lane l = { s.lane l with credits := 0, hold := ((s.dropCredits l).lane l).hold } := by
  unfold State.dropCredits
  split
  · next h =>
    refine ⟨rfl, ?_⟩
    rw [← h]
  · obtain ⟨h1, h2⟩ := State.judgeWaits_setLane s l { s.lane l with credits := 0 }
    exact ⟨h2, h1⟩

@[simp] theorem State.dropCredits_lane_other (s : State) {l k : LaneId} (h : k ≠ l) :
    (s.dropCredits l).lane k = s.lane k := by
  unfold State.dropCredits
  split
  · rfl
  · rw [State.judgeWaits_lane_other _ h, State.lane_setLane_of_ne _ _ h]

/-! ### Replies (R185, R194) -/

/-- The completion of a deferred reply keeps how many replies each queue holds. -/
@[simp] theorem completeIn_length (l : LaneId) (c : LaneCommand) (st : Status) (content : Bytes) (q : List Reply) :
    (completeIn l c st content q).length = q.length := by simp [completeIn]

/-- No deferred reply of the command is left in a queue. -/
theorem completeIn_no_deferred (l : LaneId) (c : LaneCommand) (st : Status) (content : Bytes) (q : List Reply) :
    ∀ r ∈ completeIn l c st content q, r.body ≠ .deferred l c := by
  intro r hr
  obtain ⟨q', -, rfl⟩ := List.mem_map.mp hr
  split
  · simp
  · next h =>
    intro hb
    apply h
    simp [Reply.isDeferredOf, hb]

/-- Everything the completion of a deferred reply can do to a lane: its reply queue, in place. -/
@[simp] theorem State.completeReply_lane (s : State) (l k : LaneId) (c : LaneCommand) (st : Status) (content : Bytes) :
    (s.completeReply l c st content).lane k =
      { s.lane k with replies := completeIn l c st content (s.lane k).replies } := by
  simp [State.completeReply, State.lane, mapVector]

@[simp] theorem State.completeReply_books (s : State) (l : LaneId) (c : LaneCommand) (st : Status) (content : Bytes) :
    (s.completeReply l c st content).books = s.books := rfl

@[simp] theorem State.completeReply_journal (s : State) (l : LaneId) (c : LaneCommand) (st : Status) (content : Bytes) :
    (s.completeReply l c st content).journal = s.journal := rfl

/-! ### The answers of a book (R110, R111) -/

/-- A book keeps everything but its trigger states when one of those is set. -/
@[simp] theorem Book.withoutTriggers_setTrigger (b : Book) (l : LaneId) (t : TriggerState) :
    (b.setTrigger l t).withoutTriggers = b.withoutTriggers := rfl

/-- The placement of a trigger leaves every book as it is, but for trigger states. -/
@[simp] theorem State.placeTrigger_withoutTriggers (s : State) (l : LaneId) (p : PendingTrigger) (b : BookId) :
    ((s.placeTrigger l p).book b).withoutTriggers = (s.book b).withoutTriggers := by
  have h : (s.placeTrigger l p).books = s.books.set p.book.val ((s.book p.book).setTrigger l .held) := rfl
  unfold State.book
  rw [h]
  by_cases hb : b = p.book
  · subst hb; simp [State.book]
  · have : p.book.val ≠ b.val := fun h => hb (Fin.ext h.symm)
    simp [this]

/-- So does a placement test. -/
@[simp] theorem State.placementTest_withoutTriggers (s : State) (l : LaneId) (b : BookId) :
    ((s.placementTest l).book b).withoutTriggers = (s.book b).withoutTriggers :=
  foldl_preserves (fun t : State => (t.book b).withoutTriggers) (fun t p => t.placeTrigger l p)
    (fun t p => State.placeTrigger_withoutTriggers t l p b) _ _

/-- A placement leaves the Journal and the Book Unit alone. -/
@[simp] theorem State.placementTest_journal (s : State) (l : LaneId) : (s.placementTest l).journal = s.journal :=
  foldl_preserves State.journal (fun t p => t.placeTrigger l p) (fun _ _ => rfl) _ _

@[simp] theorem State.placementTest_bookUnit (s : State) (l : LaneId) : (s.placementTest l).bookUnit = s.bookUnit :=
  foldl_preserves State.bookUnit (fun t p => t.placeTrigger l p) (fun _ _ => rfl) _ _

/-! ### Slots (R127, R137) -/

/-- A slot is unheld exactly when it is one of the 64 and no FRAME entry has it. -/
theorem mem_unheldSlots (n : Nat) (hold : List HoldEntry) :
    n ∈ unheldSlots hold ↔ n < 64 ∧ ∀ e ∈ hold, ∀ f, e.body = .frame f → f.slot ≠ n := by
  simp only [unheldSlots, Config.holdFrames, List.mem_filter, List.mem_range, Bool.not_eq_true', List.any_eq_false]
  refine and_congr_right fun _ => forall₂_congr fun e _ => ?_
  cases h : e.body <;> simp

/-- A free slot is unheld, and it is not the one in transmission where another unheld slot is there to take. -/
theorem LaneUnit.mem_freeSlots {u : LaneUnit} {n : Nat} (h : n ∈ u.freeSlots) :
    n ∈ unheldSlots u.hold ∧ ((∃ m ∈ unheldSlots u.hold, u.sendingSlot ≠ some m) → u.sendingSlot ≠ some n) := by
  unfold LaneUnit.freeSlots at h
  simp only at h
  split at h
  · rename_i none_idle
    refine ⟨h, fun ⟨m, hm, hne⟩ => absurd (List.isEmpty_iff.mp none_idle) (List.ne_nil_of_mem (a := m) ?_)⟩
    simpa [hm] using hne
  · simp only [List.mem_filter, bne_iff_ne] at h
    exact ⟨h.1, fun _ => h.2⟩

/-- The slot chosen is a free one, whichever it is. -/
theorem LaneUnit.chooseSlot_mem {u : LaneUnit} (index : Nat) (h : u.freeSlots ≠ []) :
    u.chooseSlot index ∈ u.freeSlots := by
  have bound : Config.slotChoice index % u.freeSlots.length < u.freeSlots.length :=
    Nat.mod_lt _ (List.length_pos_of_ne_nil h)
  simp [LaneUnit.chooseSlot, bound]

end Sys2Proof.Machine
end

