-- ==== Sys2Proof/Laws/Requests.lean ====
section
/-! SUPPORT. What the taking of a request can do, said once, and the bounds of the fields a request carries. -/

namespace Sys2Proof.Machine

/-! ### Fields -/

theorem beNat_append_one (bs : Bytes) (b : Byte) : beNat (bs ++ [b]) = beNat bs * 256 + b.toNat := by
  simp [beNat]

/-- A run of bytes spells a number below 256 to its length (R200). -/
theorem beNat_lt (bs : Bytes) : beNat bs < 256 ^ bs.length := by
  induction bs using List.reverseRecOn with
  | nil => simp [beNat]
  | append_singleton bs b ih =>
    rw [beNat_append_one, List.length_append, List.length_singleton, pow_succ]
    have := b.isLt
    omega

/-- A field of `width` bytes is below 256 to its width (R200). -/
theorem field_lt (bs : Bytes) (offset width : Nat) : field bs offset width < 256 ^ width := by
  refine lt_of_lt_of_le (beNat_lt _) (Nat.pow_le_pow_right (by decide) ?_)
  simp

/-- A one-byte field. -/
theorem field_one_lt (bs : Bytes) (offset : Nat) : field bs offset 1 < 256 := field_lt bs offset 1

/-- A two-byte field. -/
theorem field_two_lt (bs : Bytes) (offset : Nat) : field bs offset 2 < 65536 := field_lt bs offset 2

/-! ### The taking of a request -/

/-- The next request, taken by the command of its row: it leaves its queue, is judged by `serve`, and its answer is
placed (R186, R187). -/
theorem State.takeRequest_of_serves {s : State} {row : Instr} {l : LaneId} {p : Bytes} (h : s.Serves row l p)
    (serve : LaneId → Bytes → State → Answer) :
    s.takeRequest row serve = ((serve l p (s.popRequest l)).1).replied l p (serve l p (s.popRequest l)).2 := by
  obtain ⟨⟨frame, hn, rfl⟩, hr, hl⟩ := h
  have h1 : tooShort (payload frame) = false := by simp [tooShort]; omega
  have h2 : reqId (payload frame) = field (payload frame) 1 2 := by
    unfold reqId
    rw [if_neg (by omega)]
  simp [State.takeRequest, hn, hr, h1, h2, State.replied, reqKind]

/-- A refusal leaves nothing but the taking and the reply (R188). -/
theorem State.replied_refuseWith (s : State) (l : LaneId) (p : Bytes) (st : Status) :
    (refuseWith st (s.popRequest l)).1.replied l p (refuseWith st (s.popRequest l)).2 = s.refused l p st := rfl

/-- Without a request that can be taken, a request command does nothing (log 3). -/
theorem State.takeRequest_none {s : State} (h : s.nextRequest = none) (row : Instr)
    (serve : LaneId → Bytes → State → Answer) : s.takeRequest row serve = s := by
  simp [State.takeRequest, h]

/-- A request too short for its fields is answered BAD_VALUE (R183). -/
theorem State.takeRequest_short {s : State} {row : Instr} {l : LaneId} {f : Bytes} (h : s.nextRequest = some (l, f))
    (hr : requestRow (payload f) = row) (hs : (payload f).length < 3 + fieldBytes (payload f))
    (serve : LaneId → Bytes → State → Answer) :
    s.takeRequest row serve =
      (s.popRequest l).placeReply l ⟨reqId (payload f), reqKind (payload f), .completed .badValue []⟩ := by
  have h1 : tooShort (payload f) = true := by simpa [tooShort] using hs
  simp [State.takeRequest, h, hr, h1, refuseWith]

@[simp] theorem State.popRequest_timebase (s : State) (l : LaneId) : (s.popRequest l).timebase = s.timebase := rfl
@[simp] theorem State.popRequest_discipline (s : State) (l : LaneId) : (s.popRequest l).discipline = s.discipline := rfl
@[simp] theorem State.popRequest_uncertainty (s : State) (l : LaneId) :
    (s.popRequest l).uncertainty = s.uncertainty := rfl
@[simp] theorem State.popRequest_clock (s : State) (l : LaneId) : (s.popRequest l).clock = s.clock := rfl
@[simp] theorem State.popRequest_stamping (s : State) (l : LaneId) : (s.popRequest l).stamping = s.stamping := rfl
@[simp] theorem State.popRequest_matchTable (s : State) (l : LaneId) : (s.popRequest l).matchTable = s.matchTable := rfl
@[simp] theorem State.popRequest_classTable (s : State) (l : LaneId) : (s.popRequest l).classTable = s.classTable := rfl
@[simp] theorem State.popRequest_bookUnit (s : State) (l : LaneId) : (s.popRequest l).bookUnit = s.bookUnit := rfl
@[simp] theorem State.popRequest_journal (s : State) (l : LaneId) : (s.popRequest l).journal = s.journal := rfl
@[simp] theorem State.popRequest_evidence (s : State) (l : LaneId) : (s.popRequest l).evidence = s.evidence := rfl
@[simp] theorem State.popRequest_pending (s : State) (l : LaneId) : (s.popRequest l).pending = s.pending := rfl
@[simp] theorem State.popRequest_pointer (s : State) (l : LaneId) : (s.popRequest l).pointer = l + 1 := rfl
@[simp] theorem State.popRequest_lt (s : State) (l : LaneId) : (s.popRequest l).lt = s.lt := rfl
@[simp] theorem State.popRequest_book (s : State) (l : LaneId) (b : BookId) : (s.popRequest l).book b = s.book b := rfl
@[simp] theorem State.popRequest_monitor (s : State) (l : LaneId) (r : RefLine) :
    (s.popRequest l).monitor r = s.monitor r := by cases r <;> rfl
@[simp] theorem State.popRequest_auctionActive (s : State) (l : LaneId) :
    (s.popRequest l).auctionActive = s.auctionActive := rfl
@[simp] theorem State.popRequest_laneAuction (s : State) (l k : LaneId) :
    (s.popRequest l).laneAuction k = s.laneAuction k := rfl
@[simp] theorem State.popRequest_bookAuction (s : State) (l : LaneId) (b : Option BookId) :
    (s.popRequest l).bookAuction b = s.bookAuction b := rfl
@[simp] theorem State.popRequest_entryInAuction (s : State) (l : LaneId) (n : EntryId) :
    (s.popRequest l).entryInAuction n = s.entryInAuction n := rfl

/-- The lane after its request was taken: its queue is one shorter (R184). -/
theorem State.popRequest_lane (s : State) (l k : LaneId) :
    (s.popRequest l).lane k = if k = l then { s.lane k with requests := (s.lane k).requests.tail } else s.lane k := by
  unfold State.popRequest
  rw [State.lane_setLane]
  split
  next h => subst h; rfl
  next h => rfl

/-! ### Auctions -/

theorem Phase.active_iff (p : Phase) :
    p.active = true ↔ p = .call ∨ p = .window ∨ p = .freeze ∨ p = .uncross := by
  cases p <;> simp [Phase.active]

theorem mem_allBooks (b : BookId) : b ∈ allBooks := by
  revert b
  decide

/-- The auction-active status as the locks test it (R96). -/
theorem State.auctionActive_iff (s : State) : s.auctionActive = true ↔ ∃ b, s.InAuction b := by
  simp only [State.auctionActive, List.any_eq_true, Phase.active_iff, State.InAuction]
  constructor
  · rintro ⟨b, _, h⟩; exact ⟨b, h⟩
  · rintro ⟨b, h⟩; exact ⟨b, mem_allBooks b, h⟩

theorem State.bookAuction_iff (s : State) (o : Option BookId) :
    s.bookAuction o = true ↔ ∃ b, o = some b ∧ s.InAuction b := by
  cases o with
  | none => simp [State.bookAuction]
  | some b => simp [State.bookAuction, Phase.active_iff, State.InAuction]

/-- The auction of a lane (R45, R68). -/
theorem State.laneAuction_iff (s : State) (l : LaneId) :
    s.laneAuction l = true ↔ ∃ b a, s.InAuction b ∧ (s.book b).arming = some a ∧ a.lanes.has l = true := by
  simp only [State.laneAuction, List.any_eq_true, Bool.and_eq_true, Phase.active_iff, State.InAuction, Book.coversLane]
  constructor
  · rintro ⟨b, _, h1, h2⟩
    cases ha : (s.book b).arming with
    | none => simp [ha] at h2
    | some a => exact ⟨b, a, h1, ha, by simpa [ha] using h2⟩
  · rintro ⟨b, a, h1, h2, h3⟩
    exact ⟨b, mem_allBooks b, h1, by simpa [h2] using h3⟩

end Sys2Proof.Machine
end

