-- ==== Sys2Proof/Tests/Slice0.lean ====
section
/-! SUPPORT. Tests of the model against the worked examples of spec/, the refusals of the well-formedness checks, and
for each obligation with hypotheses a state and operands that meet them. Expected values come from spec/. -/

namespace Sys2Proof.Tests

open Sys2Proof Sys2Proof.Machine

/-! ### States to test on -/

/-- What a command leads to. -/
def after (c : Instr) (s : State) : State :=
  match exec c s with
  | .next t => t
  | .fault f => nomatch f
  | .refused _ => s

/-- A state with lane `l` changed. -/
def withLane (l : LaneId) (f : LaneUnit → LaneUnit) (s : State) : State := s.setLane l (f (s.lane l))

/-- A state with book `b` changed. -/
def withBook (b : BookId) (f : Book → Book) (s : State) : State := s.setBook b (f (s.book b))

/-- A state with another LT. -/
def atLt (lt : Nat) (s : State) : State := { s with timebase := { s.timebase with lt := lt } }

/-- A control frame with payload `p`; the handler no longer reads its check. -/
def requestFrame (p : Bytes) : Bytes := List.replicate 14 0 ++ p ++ List.replicate 4 0

/-- A state in which the request with payload `p` on lane 0 is the only one waiting. -/
def asking (p : Bytes) (s : State) : State :=
  { s with pointer := 0 }.setLane 0 { s.lane 0 with requests := [requestFrame p], replies := [] }

theorem payload_requestFrame (p : Bytes) : payload (requestFrame p) = p := by
  have h : (List.replicate 14 (0 : Byte) ++ p ++ List.replicate 4 0).length - 4 = (List.replicate 14 (0 : Byte) ++ p).length := by
    simp
  unfold payload checkedPart requestFrame
  rw [h, List.take_left]
  exact List.drop_left' rfl

theorem asking_nextRequest (p : Bytes) (s : State) : (asking p s).nextRequest = some (0, requestFrame p) := by
  have hl : (asking p s).lane 0 = { s.lane 0 with requests := [requestFrame p], replies := [] } := by
    simp [asking]
  have hp : (asking p s).pointer = 0 := rfl
  have hs : ((asking p s).lane 0).servable = true := by rw [hl]; rfl
  unfold State.nextRequest State.servedLane
  rw [hp, List.find?_cons, hs]
  simp [hl]

/-- A request of its row, long enough, is served. -/
theorem asking_serves (p : Bytes) (s : State) (row : Instr) (h : requestRow p = row ∧ 3 + fieldBytes p ≤ p.length) :
    (asking p s).Serves row 0 p :=
  ⟨⟨_, asking_nextRequest p s, payload_requestFrame p⟩, h.1, h.2⟩

/-- The content of a request: its kind, request id 7, and its fields. -/
def req (kind : Nat) (fields : Bytes) : Bytes := uField 1 kind ++ uField 2 7 ++ fields

/-- A write of a setting with its code and value. -/
def settingReq (table code value : Nat) : Bytes := req 1 (uField 1 table ++ uField 1 0 ++ uField 1 code ++ uField 8 value)

/-! ### WellFormed: each check refuses an ill-formed term -/

/-- A body of `n` bytes after the addresses and the type field. -/
def frameOf (type : Nat) (n : Nat) : Bytes := List.replicate 12 0 ++ uField 2 type ++ List.replicate n 0

theorem test_check_announcementLength :
    (Instr.announcementReceived .a (List.replicate 11 0)).check = some .announcementLength ∧
      (Instr.announcementReceived .a (List.replicate 12 0)).check = none := by decide

theorem test_check_frameLength :
    (Instr.entryFrame 0 (frameOf 0x9A4B 3)).check = some .frameLength ∧
      (Instr.entryFrame 0 (frameOf 0x9A4B 4)).check = none := by decide

theorem test_check_frameType :
    (Instr.reportFrame 0 (frameOf 0x9A4C 5)).check = some .frameType ∧
      (Instr.creditGrant 0 (frameOf 0x9A4B 5)).check = some .frameType := by decide

theorem test_check_controlKind :
    (Instr.creditGrant 0 (frameOf 0x9A4C 5)).check = some .controlKind ∧
      (Instr.creditGrant 0 (List.replicate 12 0 ++ [0x9A, 0x4C, 0x20, 1, 0, 0, 0, 0])).check = none := by decide

/-! ### The table gives no row any bits -/

theorem test_no_word_is_a_command : decodeTableWord 8 0 = none ∧ State.reset.withFetchWord 8 0 = State.reset :=
  ⟨rfl, rfl⟩

/-! ### Worked examples of the manual -/

/-- The worked announcement of sections 1.3 and 10.7: second 86,400, grade 2, source 0x0107. -/
theorem test_announcement :
    announcementOf [0x5D, 0, 0, 0, 1, 0x51, 0x80, 2, 1, 7, 0, 0xC7] = some ⟨86400, 2, 0x0107⟩ ∧
      announcementOf [0x5D, 0, 0, 0, 1, 0x51, 0x80, 2, 1, 7, 0, 0xC8] = none := by decide

/-- ACQUIRE with frequency `freq`, reference A armed for second 86,400, and LT `theta` away from it. -/
def evaluating (freq theta : Int) : State :=
  { State.reset with
    timebase := ⟨(86400000000000 + theta).toNat, 0, 0, 0, 0⟩
    monitorA := { Monitor.reset with unit := .armed ⟨86400, 2, 0⟩ 1000000000 }
    discipline := ⟨.acquire, .a, freq, 0, false, false⟩ }

def rateAfter (freq theta : Int) : Int × Int :=
  let t := after (.markerEdge .a) (evaluating freq theta)
  (t.discipline.freq, t.timebase.r)

/-- Cases 1 to 3 of section 1.7. -/
theorem test_slew :
    rateAfter 120 800 = (20, -380) ∧ rateAfter 20 (-13) = (21, 27) ∧ rateAfter 149000 (-20000) = (150000, 160000) := by
  decide

/-- Case 4 of section 1.7: a step of 4,200,000 ns. -/
theorem test_step :
    let t := after (.markerEdge .a) (evaluating 35 4200000)
    t.lt = 86400000000000 ∧ rateAfter 35 4200000 = (35, 35) ∧ t.discipline.state = .acquire := by decide

/-- Sections 5.11 and 11.2: the draws of books 1 and 0 from the seed 1,000,000. -/
theorem test_draw :
    (drawFor ⟨0, 57600000000000, 30000, 2000, 5000, 3, 0⟩ 1000000 false).x = 3723440753 ∧
      (drawFor ⟨0, 57600000000000, 30000, 2000, 5000, 3, 0⟩ 1000000 false).offset = 26008 ∧
      (drawFor ⟨0, 57600000000000, 600000, 0, 5000, 3, 0⟩ 3723440753 false).offset = 512474 ∧
      (drawFor ⟨0, 144000000000000, 60000, 1000, 10000, 3, 0⟩ 1000000 false).endInstant = 144052016000000 := by decide

/-- The worked compact stamps of section 3.6. -/
theorem test_compactStamp :
    compactStamp 86410000001432 86400 = (10000001, false) ∧ compactStamp 86410000002000 86400 = (10000002, false) ∧
      compactStamp 86399999999500 86400 = (0, true) ∧
      compactStamp 2000000000000000 0 = (1099511627775, false) := by decide

/-- The worked trailer of section 10.8. -/
theorem test_trailer :
    trailer .compact 4294967301 2 1 (some 3) ⟨0, 86410000001432, 1074, .traceable, 86400⟩ .window false =
      [0, 0, 0, 5, 0, 0, 0x98, 0x96, 0x81, 0, 2, 0, 0x21, 3, 2, 0x80] := by decide

/-- Lane 2 with its probe outstanding since T1, the returning frame captured 1,237 ns later (section 3.8). -/
def probing : State :=
  withLane 2 (fun u => { u with
    state := .probing .active, aLink := .up, lastProbeId := 5, probe := .outstanding 50000000100410
    rx := some ⟨50000000101647, 50000000101647, 0, .traceable, 0⟩ }) (atLt 50000000101700 State.reset)

def probeFrame (id : Nat) : Bytes := ownFrame 2 (uField 1 0x33 ++ uField 2 id)

/-- The worked probe of section 3.8. -/
theorem test_probe :
    let u := (after (.probeReturn 2 (probeFrame 5)) probing).lane 2
    (u.cLane, u.uLane) = (618, 124) ∧ u.state = .active := by decide +kernel

/-- The tables of section 4.10. -/
def tables : State :=
  { State.reset with
    matchTable := ((((State.reset.matchTable.set 0 ⟨.session, 0x60, 4, true⟩).set 1 ⟨.instrument, 0x1000, 0xFF, true⟩).set 2
      ⟨.kind, 5, 0, true⟩).set 3 ⟨.member, 0x207, 0, true⟩).set 4 ⟨.instrument, 0x2000, 0xFF, false⟩
    classTable := (((State.reset.classTable.set 0 ⟨4, 0, none, .full, 0, .accept, .mark⟩).set 1
      ⟨0, 3, some 3, .compact, 2, .accept, .refuse⟩).set 2 ⟨0x12, 0, some 3, .full, 0, .accept, .mark⟩).set 3
      ⟨8, 16, none, .full, 1, .accept, .mark⟩ }

/-- The five frames of section 4.10. -/
theorem test_classes :
    tables.classify ⟨1, .new, 0, 0x64, 0x207, 0x1042, 0⟩ = 1 ∧
      tables.classify ⟨1, .new, 0, 0x62, 0x207, 0x1042, 0⟩ = 2 ∧
      tables.classify ⟨1, .cancel, 0, 0x64, 0x207, 0x2042, 0⟩ = 15 ∧
      tables.classify ⟨1, .heartbeat, 0, 0x64, 0x207, 0x1042, 0⟩ = 0 ∧
      tables.classify ⟨1, .new, 0, 0x68, 0x111, 0x10FF, 0⟩ = 2 := by decide

/-- The locked case of section 2.7: U_clock 950, U_stamp 1,074, 0.4 s after the marker. -/
def lockedCase : State :=
  withLane 0 (fun u => { u with aLink := .up, uLane := 124 }) (atLt 86410400000800
    { State.reset with uncertainty := ⟨900, 86410000000800, true, .traceable, none⟩ })

theorem test_stampUncertainty :
    (((after (.startOfFrame 0) lockedCase).lane 0).rx.map Reception.uStamp) = some 1074 := by decide

/-- What a served request is answered with. -/
def answerTo (row : Instr) (p : Bytes) (s : State) : Option ReplyBody :=
  (((after row (asking p s)).lane 0).replies.getLast?).map Reply.body

/-- Section 4.10: writes during the auction of book 3. -/
theorem test_lockedWrites :
    let s := withBook 3 (fun b => { b with phase := .call }) tables
    answerTo .tableWriteMatch (req 1 (uField 1 1 ++ uField 1 1 ++ uField 1 2 ++ uField 4 0x1100 ++ uField 4 0xFF ++ uField 1 1)) s =
        some (.completed .locked []) ∧
      answerTo .tableWriteMatch (req 1 (uField 1 1 ++ uField 1 1 ++ uField 1 2 ++ uField 4 0x1000 ++ uField 4 0xFF ++ uField 1 0)) s =
        some (.completed .locked []) := by decide

/-- Identity bytes of STATUS_READ (R196). -/
theorem test_identity :
    (match answerTo .statusRead (req 13 []) State.reset with
      | some (.completed .ok c) => c.take 3
      | _ => []) = [0x0A, 0x04, 0x01] := by decide +kernel

/-- The check of a frame: the reflected polynomial of R61, whose value over the digits 1 to 9 is CBF43926. -/
theorem test_crc : crc32 [0x31, 0x32, 0x33, 0x34, 0x35, 0x36, 0x37, 0x38, 0x39] = 0xCBF43926 := by decide +kernel

/-! ### Witnesses: states and operands that meet the hypotheses of the obligations

Each theorem names the obligation it belongs to; a conjunct stands for a clause, at a boundary value where the clause has
a range. -/

/-! #### Step and time path -/

def queued : State := { State.reset with pending := [.flushExpiry, .growthExpiry] }

theorem witness_StepRunsFrontCommand : queued.pending = .flushExpiry :: [.growthExpiry] := rfl

theorem witness_EmptyQueueLetsOneNanosecondPass : State.reset.pending = [] := rfl

theorem witness_TimebaseAdvancesAtScaledRate :
    let t : Timebase := ⟨5, 0xFFFF, -1000000000, 7, 999999999⟩
    (-1000000000 : Int) ≤ t.r ∧ t.carry < 1000000000 := by decide

def withA (f : Monitor → Monitor) (s : State) : State := s.setMonitor .a (f (s.monitor .a))

/-- Reference A armed with an announcement of second `sec`. -/
def armedA (sec : Nat) (g : Fin 8) (s : State) : State :=
  withA (fun m => { m with unit := .armed ⟨sec, g, 7⟩ 1000000000 }) s

def inState (d : DisciplineState) (s : State) : State := { s with discipline := { s.discipline with state := d } }

def goodMessage : Bytes := [0x5D, 0, 0, 0, 1, 0x51, 0x80, 2, 1, 7, 0, 0xC7]

theorem witness_CaptureUnitActsByState_announcement :
    ((withA (fun m => { m with refState := .disabled }) State.reset).monitor .a).refState = .disabled ∧
      (State.reset.monitor .a).refState ≠ .disabled ∧ announcementOf [] = none ∧
      announcementOf goodMessage = some ⟨86400, 2, 0x0107⟩ ∧
      (State.reset.monitor .a).unit = .idle (some 1000000000) ∧
      ((armedA 3 7 State.reset).monitor .a).unit = .armed ⟨3, 7, 7⟩ 1000000000 ∧
      ((withA (fun m => { m with unit := .guard 9 }) State.reset).monitor .a).unit = .guard 9 := by decide

/-- An edge at the first offset outside the capture window of 2,000,000 ns. -/
def outsideWindow : State := atLt 3002000001 (armedA 3 6 (inState .locked State.reset))

theorem witness_CaptureUnitActsByState_edge :
    (outsideWindow.monitor .a).refState ≠ .disabled ∧
      (outsideWindow.monitor .a).unit = .armed ⟨3, 6, 7⟩ 1000000000 ∧ (6 : Fin 8) ≠ 7 ∧
      outsideWindow.discipline.state = .locked ∧
      outsideWindow.clock.wc < (outsideWindow.offsetOf ⟨3, 6, 7⟩).natAbs ∧
      ((armedA 3 7 State.reset).monitor .a).unit = .armed ⟨3, 7, 7⟩ 1000000000 := by decide

/-- The oscillator at `osc`. -/
def atOsc (osc : Nat) (s : State) : State := { s with timebase := { s.timebase with osc := osc } }

theorem witness_CaptureUnitActsByState_expiry :
    1000000000 ≤ (atOsc 1000000000 State.reset).timebase.osc ∧ (atOsc 999999999 State.reset).timebase.osc < 1000000000 ∧
      ((atOsc 1000000000 State.reset).monitor .a).unit = .idle (some 1000000000) ∧
      ((atOsc 999999999 (armedA 3 6 State.reset)).monitor .a).unit = .armed ⟨3, 6, 7⟩ 1000000000 := by decide

/-- Reference A one refusal short of LOST. -/
def nearlyLost (d : DisciplineState) : State := inState d (withA (fun m => { m with missing := 2 }) State.reset)

theorem witness_RefusedMarkerRule :
    (nearlyLost .locked).clock.m ≤ min (((nearlyLost .locked).monitor .a).missing + 1) 255 ∧
      ((nearlyLost .locked).monitor .a).refState = .listening ∧ (nearlyLost .locked).discipline.selected = .a ∧
      (nearlyLost .locked).discipline.autoSwitch = false ∧ (nearlyLost .free).discipline.state = .free ∧
      ¬ State.reset.clock.m ≤ min ((State.reset.monitor .a).missing + 1) 255 := by decide

/-- With auto-switch on and B HEALTHY the loss of A switches. -/
def switching : State :=
  { nearlyLost .acquire with
    discipline := ⟨.acquire, .a, 5, 2, false, true⟩, monitorB := { Monitor.reset with refState := .healthy } }

theorem witness_RefusedMarkerRule_switches :
    switching.discipline.autoSwitch = true ∧ (switching.monitor switching.discipline.selected.other).refState = .healthy ∧
      switching.clock.m ≤ min ((switching.monitor .a).missing + 1) 255 := by decide

theorem accepts_of (s : State) (ref : RefLine) (a : Announcement) (e : Nat)
    (h : (s.monitor ref).refState ≠ .disabled ∧ (s.monitor ref).unit = .armed a e ∧ a.grade ≠ 7 ∧
      (s.discipline.state = .locked → (s.offsetOf a).natAbs ≤ s.clock.wc)) : s.Accepts ref a :=
  ⟨h.1, ⟨e, h.2.1⟩, h.2.2⟩

/-- An edge at the last offset inside the capture window. -/
def insideWindow : State := atLt 3002000000 (armedA 3 6 (inState .locked State.reset))

theorem witness_AcceptedMarkerUpdatesReference : insideWindow.Accepts .a ⟨3, 6, 7⟩ ∧
    (inState .free insideWindow).Accepts .a ⟨3, 6, 7⟩ ∧ (inState .holdover insideWindow).Accepts .a ⟨3, 6, 7⟩ :=
  ⟨accepts_of _ _ _ 1000000000 (by decide), accepts_of _ _ _ 1000000000 (by decide),
    accepts_of _ _ _ 1000000000 (by decide)⟩

/-- B becomes HEALTHY with this marker while A is LOST and auto-switch is on. -/
def switchesToB : State :=
  { State.reset with
    monitorA := { Monitor.reset with refState := .lost }
    monitorB := { Monitor.reset with good := 2, unit := .armed ⟨0, 2, 7⟩ 1000000000 }
    discipline := ⟨.holdover, .a, 0, 0, false, true⟩ }

theorem witness_AcceptedMarkerUpdatesReference_switches : switchesToB.Accepts .b ⟨0, 2, 7⟩ ∧
    (switchesToB.monitor .b).refState = .listening ∧ 3 ≤ min ((switchesToB.monitor .b).good + 1) 255 ∧
    RefLine.b ≠ switchesToB.discipline.selected ∧ switchesToB.discipline.autoSwitch = true ∧
    switchesToB.discipline.state = .holdover ∧ (switchesToB.monitor switchesToB.discipline.selected).refState = .lost :=
  ⟨accepts_of _ _ _ 1000000000 (by decide), by decide⟩

/-- Reference A armed for second 86,400 in state `d`, LT `theta` away. -/
def evaluatingIn (d : DisciplineState) (theta : Int) : State := inState d (evaluating 0 theta)

theorem evaluates_of (d : DisciplineState) (theta : Int) (hd : d = .acquire ∨ d = .locked)
    (h : d = .locked → ((evaluatingIn d theta).offsetOf ⟨86400, 2, 0⟩).natAbs ≤ 2000000) :
    (evaluatingIn d theta).Evaluates ⟨86400, 2, 0⟩ :=
  ⟨⟨show RefState.listening ≠ .disabled by decide, ⟨1000000000, rfl⟩, by decide, h⟩, hd⟩

/-- At |θ| = S, the largest slew; at |θ| = T_lock and one above; in LOCKED at 8 × T_lock and one above. -/
theorem witness_SlewCorrectsRate :
    ((evaluatingIn .acquire 1000000).Evaluates ⟨86400, 2, 0⟩ ∧
      ((evaluatingIn .acquire 1000000).offsetOf ⟨86400, 2, 0⟩).natAbs ≤ (evaluatingIn .acquire 1000000).clock.s) ∧
    ((evaluatingIn .acquire 500).Evaluates ⟨86400, 2, 0⟩ ∧
      ((evaluatingIn .acquire 500).offsetOf ⟨86400, 2, 0⟩).natAbs = (evaluatingIn .acquire 500).clock.tLock) ∧
    ((evaluatingIn .acquire (-501)).Evaluates ⟨86400, 2, 0⟩ ∧
      (evaluatingIn .acquire (-501)).clock.tLock < ((evaluatingIn .acquire (-501)).offsetOf ⟨86400, 2, 0⟩).natAbs) ∧
    ((evaluatingIn .locked 4000).Evaluates ⟨86400, 2, 0⟩ ∧
      ((evaluatingIn .locked 4000).offsetOf ⟨86400, 2, 0⟩).natAbs ≤ 8 * (evaluatingIn .locked 4000).clock.tLock) ∧
    ((evaluatingIn .locked 4001).Evaluates ⟨86400, 2, 0⟩ ∧
      8 * (evaluatingIn .locked 4001).clock.tLock < ((evaluatingIn .locked 4001).offsetOf ⟨86400, 2, 0⟩).natAbs) :=
  ⟨⟨evaluates_of _ _ (by decide) (by decide), by decide⟩, ⟨evaluates_of _ _ (by decide) (by decide), by decide⟩,
    ⟨evaluates_of _ _ (by decide) (by decide), by decide⟩, ⟨evaluates_of _ _ (by decide) (by decide), by decide⟩,
    ⟨evaluates_of _ _ (by decide) (by decide), by decide⟩⟩

/-- The smallest step, back and forward; with it an ARMED book whose Tc is the stepped LT. -/
def armedBook (tc tw : Nat) : Book → Book := fun b => { b with phase := .armed, arming := some ⟨tc, tw, 1000, 1, 100, 1, 0⟩ }

def stepping (theta : Int) : State := withBook 2 (armedBook 86400000000000 86400000000001) (evaluatingIn .acquire theta)

theorem noAuction_of {s : State} (h : (allBooks.any fun b => (s.book b).phase.active) = false) : ∀ b, ¬ s.InAuction b := by
  intro b hb
  have := List.any_eq_false.mp h b (mem_allBooks b)
  rcases hb with hb | hb | hb | hb <;> simp [hb, Phase.active] at this

theorem witness_StepSetsLtToAnnouncedSecond :
    ((stepping 1000001).Evaluates ⟨86400, 2, 0⟩ ∧
      (stepping 1000001).clock.s < ((stepping 1000001).offsetOf ⟨86400, 2, 0⟩).natAbs ∧
      (∀ b, ¬ (stepping 1000001).InAuction b) ∧ 0 ≤ (stepping 1000001).offsetOf ⟨86400, 2, 0⟩) ∧
    ((stepping (-1000001)).Evaluates ⟨86400, 2, 0⟩ ∧
      (stepping (-1000001)).clock.s < ((stepping (-1000001)).offsetOf ⟨86400, 2, 0⟩).natAbs ∧
      (∀ b, ¬ (stepping (-1000001)).InAuction b) ∧ (stepping (-1000001)).offsetOf ⟨86400, 2, 0⟩ < 0 ∧
      ((stepping (-1000001)).book 2).phase = .armed) :=
  ⟨⟨⟨⟨by decide, ⟨1000000000, rfl⟩, by decide, by decide⟩, by decide⟩, by decide, noAuction_of (by decide), by decide⟩,
    ⟨⟨⟨by decide, ⟨1000000000, rfl⟩, by decide, by decide⟩, by decide⟩, by decide, noAuction_of (by decide), by decide⟩⟩

/-- Lanes 0, 1 and 3 in reception at a step; lane 1 has a reservation already. -/
def steppingInReception : State :=
  let rx : Reception := ⟨100, 90, 50, .traceable, 0⟩
  let s := withLane 0 (fun u => { u with rx := some rx }) (withLane 1 (fun u => { u with rx := some rx })
    (withLane 3 (fun u => { u with rx := some rx }) (stepping (-1000001))))
  { s with journal := { s.journal with
      counter := 5, held := [⟨4, 0, .bound⟩], reservations := s.journal.reservations.set 1 (some ⟨4, false⟩) } }

/-- A reservation held, one to take with a free slot, one with none, and the lanes of a step. -/
theorem witness_StepSetsLtToAnnouncedSecond_reservations :
    (steppingInReception.Evaluates ⟨86400, 2, 0⟩ ∧
      steppingInReception.clock.s < (steppingInReception.offsetOf ⟨86400, 2, 0⟩).natAbs ∧
      (∀ b, ¬ steppingInReception.InAuction b)) ∧
    steppingInReception.journal.reservation 1 = some ⟨4, false⟩ ∧ steppingInReception.journal.reservation 0 = none ∧
      steppingInReception.journal.held.length < 4096 ∧ (steppingInReception.lane 0).rx.isSome ∧
      (steppingInReception.lane 2).rx = none ∧ (0 : LaneId) < 3 ∧ (steppingInReception.lane 3).rx.isSome ∧
      steppingInReception.journal.reservation 3 = none ∧ 4096 ≤ ((List.range 4096).map fun n => (⟨n, n, .bound⟩ : Held)).length :=
  ⟨⟨⟨⟨by decide, ⟨1000000000, rfl⟩, by decide, by decide⟩, by decide⟩, by decide, noAuction_of (by decide)⟩,
    by decide, by decide, by decide, by decide, by decide, by decide, by decide, by decide, by simp⟩

/-- A step with lane 2's probe outstanding, a compensation waiting, and the snapshot expiry set; lane 0 holds a frame. -/
def steppingProbing (theta : Int) (rx : Option Reception) (snapshot : Nat) : State :=
  let s := withLane 2 (fun u => { u with state := .probing .disabled, probe := .outstanding 7, pendingC := some 9, rx := rx })
    (evaluatingIn .acquire theta)
  { s with evidence := { s.evidence with period := 3600, snapshotExpiry := some snapshot } }

/-- An edge of reference A now would step the clock. -/
def StepsNow (s : State) : Prop :=
  s.Evaluates ⟨86400, 2, 0⟩ ∧ s.clock.s < (s.offsetOf ⟨86400, 2, 0⟩).natAbs ∧ ∀ b, ¬ s.InAuction b

theorem stepsNow_of (theta : Int) (rx : Option Reception) (e : Nat)
    (h : (evaluatingIn .acquire theta).clock.s < ((evaluatingIn .acquire theta).offsetOf ⟨86400, 2, 0⟩).natAbs) :
    StepsNow (steppingProbing theta rx e) := by
  refine ⟨⟨⟨show RefState.listening ≠ .disabled by decide, ⟨1000000000, rfl⟩, by decide, fun h => by cases h⟩, .inl rfl⟩,
    h, noAuction_of ?_⟩
  show (allBooks.any fun b => (State.reset.book b).phase.active) = false
  decide

/-- A failing probe that installs and one whose lane is in reception; the expiry ahead of a step back, and one that the
stepped LT has reached. -/
theorem witness_StepSetsLtToAnnouncedSecond_expiries :
    StepsNow (steppingProbing (-1000001) none 86400000000000) ∧
      StepsNow (steppingProbing (-1000001) (some ⟨100, 90, 50, .traceable, 0⟩) 86400000000001) ∧
      StepsNow (steppingProbing 1000001 none 90000000000000) ∧
      ((steppingProbing 1000001 none 90000000000000).lane 2).probe = .outstanding 7 ∧
      ((steppingProbing 1000001 none 90000000000000).lane 2).pendingC = some 9 ∧
      (steppingProbing 1000001 none 90000000000000).evidence.snapshotExpiry = some 90000000000000 ∧
      (stepping 1000001).evidence.snapshotExpiry = none :=
  ⟨stepsNow_of _ _ _ (by decide), stepsNow_of _ _ _ (by decide), stepsNow_of _ _ _ (by decide), by decide⟩

/-- A book in `phase`. -/
def inPhase (b : BookId) (phase : Phase) (s : State) : State := withBook b (fun k => { k with phase := phase }) s

def deferring : State := inPhase 7 .uncross (evaluatingIn .locked 1000001)

theorem witness_LargeOffsetIsDeferredInAuction :
    deferring.Evaluates ⟨86400, 2, 0⟩ ∧ deferring.clock.s < (deferring.offsetOf ⟨86400, 2, 0⟩).natAbs ∧
      deferring.InAuction 7 :=
  ⟨⟨⟨by decide, ⟨1000000000, rfl⟩, by decide, by decide⟩, by decide⟩, by decide, .inr (.inr (.inr rfl))⟩

def growing (lt : Nat) : State := atLt lt { State.reset with uncertainty := ⟨99951, 0, true, .traceable, some 1⟩ }

theorem witness_GrowthExpiryJudgesGrade :
    (growing 0).uncertainty.growthExpiry = some 1 ∧ (growing 0).lt < 1 ∧ 1 ≤ (growing 1).lt := by decide

/-- The expiry is due, and the step that takes it answers a next state. -/
theorem witness_GrowthExpiryJudgesGrade_step :
    ({ growing 1 with pending := [.growthExpiry] } : State).RatesBounded ∧
      ({ growing 1 with pending := [.growthExpiry] } : State).GradeStands ∧
      ∃ t, step { growing 1 with pending := [.growthExpiry] } = .next t :=
  ⟨⟨⟨by decide, by decide⟩, by decide, by decide⟩, ⟨by decide, by decide, fun _ => ⟨by decide, 0, by decide, by decide⟩⟩, _, rfl⟩

/-! #### Lanes -/

/-- A frame in reception, captured at 100 with stamp 90. -/
def rx0 : Reception := ⟨100, 90, 50, .traceable, 0⟩

def receiving (l : LaneId) (s : State) : State := withLane l (fun u => { u with aLink := .up, bLink := .up, rx := some rx0 }) s

def linked (l : LaneId) (s : State) : State := withLane l (fun u => { u with aLink := .up, bLink := .up }) s

theorem witness_LinkEventsByLinkState :
    (State.reset.lane 3).aLink = .down ∧ (State.reset.lane 3).bLink = .down ∧
      ((receiving 3 State.reset).lane 3).aLink = .up ∧ ((receiving 3 State.reset).lane 3).bLink = .up ∧
      ((receiving 3 State.reset).lane 3).rx.isSome ∧ ((linked 3 State.reset).lane 3).rx = none ∧
      ((linked 3 State.reset).lane 3).probe = .none := by decide

theorem witness_StartOfFrameFormsStamp :
    (State.reset.lane 0).aLink = .down ∧ ((receiving 0 State.reset).lane 0).rx.isSome ∧
      ((linked 0 State.reset).lane 0).aLink = .up ∧ ((linked 0 State.reset).lane 0).rx = none := by decide

/-- A frame starts while a growth expiry is due and not yet taken. -/
theorem witness_StartOfFrameFormsStamp_growth :
    (linked 0 (growing 1)).uncertainty.growthExpiry = some 1 ∧ 1 ≤ (linked 0 (growing 1)).lt ∧
      ((linked 0 (growing 1)).lane 0).aLink = .up ∧ ((linked 0 (growing 1)).lane 0).rx = none := by decide

/-- A frame of a type and a content, with its check. -/
def frame (type : Nat) (content : Bytes) : Bytes := withCheck (List.replicate 12 0 ++ uField 2 type ++ content)

/-- An entry message of `n` body bytes: version 1, NEW, session 10. -/
def entry (kind n : Nat) : Bytes :=
  frame 0x9A4B (uField 1 1 ++ uField 1 kind ++ uField 2 n ++ uField 2 10 ++ uField 2 3 ++ uField 4 0x1042 ++ uField 8 9
    ++ List.replicate n 0)

theorem witness_DiscardedFramesAreCounted :
    (State.reset.lane 0).rx = none ∧ ((receiving 0 State.reset).lane 0).rx = some rx0 ∧
      recogniseA 0x9A4B (List.replicate 17 0) = .failedCheck ∧ recogniseA 0x9A4B (frame 0x9A4C [0x20]) = .control ∧
      recogniseB (List.replicate 17 0) = .failedCheck ∧ recogniseB (frame 0x9A4C [0x34]) = .partSent ∧
      recogniseB (frame 0x9A4C []) = .noKind := by decide +kernel

/-- One byte above the longest frame. -/
theorem witness_DiscardedFramesAreCounted_oversize :
    recogniseA 0x9A4B (List.replicate 2049 0) = .oversize ∧ recogniseB (List.replicate 2049 0) = .oversize := by
  have h : Config.frameMax < (List.replicate 2049 (0 : Byte)).length := by rw [List.length_replicate]; decide
  exact ⟨if_pos h, if_pos h⟩

theorem witness_FrameRecognition :
    2048 < (List.replicate 2049 (0 : Byte)).length ∧ (List.replicate 17 (0 : Byte)).length < 18 ∧
      checkHolds (List.replicate 18 0) = false ∧ checkHolds (frame 0x9A4C [0x33]) = true ∧
      (frame 0x9A4C [0x33]).length = 19 ∧ checkHolds (frame 0x9A4C []) = true ∧ (frame 0x9A4C []).length = 18 ∧
      checkHolds (entry 1 0) = true ∧ (entry 1 0).length = 38 ∧ entryWellFormed (entry 1 0) = true := by
  refine ⟨by rw [List.length_replicate]; decide, ?_⟩
  decide +kernel

/-- A lane with a reservation, a pending compensation and a pending trigger, its frame at its end. -/
def ending : State :=
  let s := withLane 1 (fun u => { u with
    pendingC := some 3, pendingTriggers := [⟨2, 100, none⟩] }) (receiving 1 (atLt 200 State.reset))
  { s with journal := { s.journal with
      counter := 5, held := [⟨4, 0, .bound⟩], reservations := s.journal.reservations.set 1 (some ⟨4, false⟩) } }

theorem witness_EndOfReceptionRule :
    ending.journal.reservation 1 = some ⟨4, false⟩ ∧ (⟨4, 0, .bound⟩ : Held) ∈ ending.journal.held ∧
      (⟨2, 100, none⟩ : PendingTrigger) ∈ (ending.lane 1).pendingTriggers ∧ 100 + (ending.lane 1).cLane ≤ ending.lt ∧
      (ending.lane 1).compPending = true ∧ (ending.lane 1).probe = .none ∧ (State.reset.lane 1).compPending = false ∧
      (State.reset.lane 1).pendingTriggers = [] ∧ State.reset.journal.reservation 1 = none := by decide

/-- Lane 2 in a state, receiving. -/
def laneIn (st : LaneState) (s : State) : State := withLane 2 (fun u => { u with state := st }) (receiving 2 s)

/-- Class 15 gated by book 3. -/
def gated (a : Admission) (late : LateAction) (s : State) : State :=
  { s with classTable := s.classTable.set 15 ⟨0, 0, some 3, .full, 0, a, late⟩ }

theorem witness_EntryFrameByLaneState :
    ((laneIn .disabled State.reset).lane 2).rx = some rx0 ∧ recogniseA State.reset.stamping.entryType (entry 1 0) = .entry ∧
      ((laneIn .draining State.reset).lane 2).state = .draining ∧
      ((laneIn (.probing .active) State.reset).lane 2).state = .probing .active ∧
      ((laneIn .active State.reset).lane 2).state = .active ∧ entryWellFormed (entry 1 0) = true ∧
      entryWellFormed (frame 0x9A4B []) = false ∧
      ((laneIn .active State.reset).classTable[(State.reset.classify (entryHeader (payload (entry 1 0)))).val]).book = none := by
  decide +kernel

/-- The answers CALL and FREEZE that admission and late action then judge. -/
theorem witness_EntryFrameByLaneState_gated :
    let called := inPhase 3 .call (gated .refuse .refuse (laneIn .active State.reset))
    let frozen := withBook 3 (fun k => { k with
      phase := .freeze, arming := some ⟨0, 0, 0, 1, 100, 4, 0⟩, draw := some ⟨0, 0, 80, false⟩ }) (gated .accept .mark
        (laneIn .active State.reset))
    called.classTable[15].book = some 3 ∧ called.classTable[15].admission = .refuse ∧
      ((withBook 3 (fun k => { k with arming := some ⟨0, 1000, 0, 1, 100, 4, 0⟩ }) called).book 3).answer 2 90 = .call ∧
      (frozen.book 3).answer 2 90 = .freeze ∧ frozen.classTable[15].lateAction = .mark := by decide

theorem witness_ClassificationRule :
    tables.classTable[1].allOf.getLsbD 1 = true ∧ tables.matchTable[1].enabled = true := by decide

theorem witness_GatingAnswerTable :
    let b : Book := ⟨.freeze, some ⟨10, 20, 1, 1, 100, 1, 0⟩, some ⟨1, 1, 30, false⟩, none, none, #v[.held, .none, .none, .none]⟩
    b.arming = some ⟨10, 20, 1, 1, 100, 1, 0⟩ ∧ b.draw = some ⟨1, 1, 30, false⟩ ∧ b.phase = .freeze ∧
      ({ b with phase := .closed }.trigger 0 = .held ∧ (29 : Nat) < 30) := by decide

def judged (d : Disposition) : Judged := ⟨⟨1, .new, 0, 10, 3, 0x1042, 9⟩, some 15, none, .opened, d⟩

theorem witness_RefusedEntryIsRecordedAndNoticed :
    (judged (.refused .overflow)).disposition = .refused .overflow ∧ State.reset.journal.reservation 0 = none ∧
      State.reset.journal.held.length < 4096 ∧ ending.journal.reservation 1 = some ⟨4, false⟩ := by decide

theorem witness_ForwardedEntryIsRecordedAndHeld :
    (judged .pass).cls = some 15 ∧ (judged .pass).disposition = .pass ∧ (judged .late).disposition = .late ∧
      State.reset.journal.reservation 0 = none ∧ ending.journal.reservation 1 = some ⟨4, false⟩ := by decide

/-- A FRAME entry of book `b` in slot `n`, due at `release`. -/
def held (n : Nat) (b : Option BookId) (release : Nat) : HoldEntry :=
  ⟨.frame ⟨some (.order 10 n), b, some 15, 100, n, []⟩, release, false, false⟩

theorem witness_AdmittedFrameJoinsTail :
    frameCount (State.reset.lane 0).hold < 64 ∧ 0 ≤ State.reset.lt ∧ State.reset.lt < 1 := by decide

/-- 62 frames held, one more in transmission from slot 63. -/
theorem witness_AdmittedFrameJoinsTail_sending :
    let s := withLane 0 (fun u => { u with
      hold := (List.range 62).map fun n => held n none 0, bTx := some ⟨[], some 63⟩ }) State.reset
    frameCount (s.lane 0).hold < 63 ∧ (s.lane 0).bTx = some ⟨[], some 63⟩ := by decide

/-- Lane 2 ACTIVE with a full hold list. -/
def full : State := withLane 2 (fun u => { u with hold := (List.range 64).map fun n => held n none 0 }) (laneIn .active State.reset)

theorem witness_ForeignFrameByLaneState :
    recogniseA State.reset.stamping.entryType (frame 0x0800 [1]) = .foreign ∧
      ((laneIn .disabled State.reset).lane 2).state = .disabled ∧ ((laneIn .active State.reset).lane 2).state ≠ .disabled ∧
      frameCount ((laneIn .active State.reset).lane 2).hold < 64 ∧ 64 ≤ frameCount (full.lane 2).hold := by
  decide +kernel

/-- Lane 2's probe outstanding since 0, at LT `lt`. -/
def awaiting (lt : Nat) : State :=
  withLane 2 (fun u => { u with probe := .outstanding 0, lastProbeId := 5 }) (laneIn (.probing .active) (atLt lt State.reset))

theorem witness_ProbeEndsByReturnOrTimeout :
    ((awaiting 10000000).lane 2).rx = some rx0 ∧ recogniseA 0x9A4B (probeFrame 5) = .probe ∧
      ((awaiting 10000000).lane 2).probe = .outstanding 0 ∧ 3 ≤ (payload (probeFrame 5)).length ∧
      field (payload (probeFrame 5)) 1 2 = ((awaiting 0).lane 2).lastProbeId ∧
      field (payload (probeFrame 4)) 1 2 ≠ ((awaiting 0).lane 2).lastProbeId ∧
      ((awaiting 0).lane 2).pendingC = none ∧ ((awaiting 0).lane 2).pendingU = none ∧
      (awaiting 9999999).lt < 0 + 10000000 ∧ 0 + 10000000 ≤ (awaiting 10000000).lt := by decide +kernel

/-- A compensation half written waits for the returning probe, whose reply is deferred on lane 0. -/
theorem witness_ProbeEndsByReturnOrTimeout_waiting :
    let s := withLane 2 (fun u => { u with pendingC := some 9 })
      (withLane 0 (fun u => { u with replies := [⟨7, 8, .deferred 2 .probe⟩] }) (awaiting 5))
    (s.lane 2).rx = some rx0 ∧ (s.lane 2).probe = .outstanding 0 ∧ (s.lane 2).pendingC = some 9 ∧
      (s.lane 2).pendingU = none ∧ (⟨7, 8, .deferred 2 .probe⟩ : Reply) ∈ (s.lane 0).replies := by decide

/-! #### The B port and what leaves a lane -/

def grant (n : Nat) : Bytes := frame 0x9A4C [0x20, BitVec.ofNat 8 n]

/-- Reports and requests at their limits, with and without permission. -/
theorem witness_ReportsRequestsAndCredits :
    let u (n : Nat) := (withLane 0 (fun u => { u with reports := List.replicate n [] }) (linked 0 State.reset)).lane 0
    let v (n : Nat) := (withLane 0 (fun u => { u with requests := List.replicate n [] }) (linked 0 State.reset)).lane 0
    (State.reset.lane 0).bLink = .down ∧ (u 31).bLink = .up ∧ (u 31).reports.length < 32 ∧ 32 ≤ (u 32).reports.length ∧
      (v 7).requests.length < 8 ∧ 8 ≤ (v 8).requests.length ∧ (v 8).permission = true ∧
      ((linked 1 State.reset).lane 1).permission = false ∧ recogniseB (frame 0x0800 [1]) = .report ∧
      recogniseB (frame 0x9A4C [13]) = .request := by decide +kernel

theorem witness_ReportsRequestsAndCredits_grant :
    recogniseB (grant 33) = .creditGrant ∧ 2 ≤ (payload (grant 33)).length ∧ field (payload (grant 33)) 1 1 = 33 ∧
      recogniseB (frame 0x9A4C [0x20]) = .creditGrant ∧ (payload (frame 0x9A4C [0x20])).length < 2 := by decide +kernel

/-- A grant of 5 at 31 credits changes the count and exceeds it; at 32 it only exceeds it. -/
theorem witness_ReportsRequestsAndCredits_excess :
    let u (n : Nat) := (withLane 0 (fun u => { u with credits := n, hold := [held 0 none 0] }) (linked 0 State.reset)).lane 0
    recogniseB (grant 5) = .creditGrant ∧ 2 ≤ (payload (grant 5)).length ∧ field (payload (grant 5)) 1 1 = 5 ∧
      (u 31).bLink = .up ∧ 32 < (u 31).credits + 5 ∧ min ((u 31).credits + 5) 32 ≠ (u 31).credits ∧
      min ((u 32).credits + 5) 32 = (u 32).credits := by decide +kernel

def done (b r : Nat) : Bytes := frame 0x9A4C [0x21, BitVec.ofNat 8 b, BitVec.ofNat 8 r]

theorem witness_ConfirmationByPhase :
    ((linked 0 State.reset).lane 0).bLink = .up ∧ recogniseB (done 7 3) = .uncrossDone ∧
      3 ≤ (payload (done 7 3)).length ∧ field (payload (done 7 3)) 1 1 = 7 ∧ field (payload (done 7 3)) 2 1 = 3 ∧
      (payload (frame 0x9A4C [0x21, 7])).length < 3 ∧ 8 ≤ field (payload (done 8 1)) 1 1 ∧
      field (payload (done 7 0)) 2 1 < 1 ∧ 3 < field (payload (done 7 4)) 2 1 ∧
      ((inPhase 7 .uncross State.reset).book 7).phase = .uncross ∧
      ((inPhase 7 .closed State.reset).book 7).result = none ∧ (State.reset.book 7).phase ≠ .uncross := by decide +kernel

/-- Lane 0 with a due frame behind one that is not, one credit, a reply and an export waiting, wait count `n`. -/
def leaving (n : Nat) : State :=
  let s := withLane 0 (fun u => { u with
    hold := [held 0 (some 3) 50, held 1 none 0], credits := 1, engineWait := n
    replies := [⟨7, 13, .completed .ok []⟩] }) (linked 0 State.reset)
  { s with journal := { s.journal with counter := 1, held := [⟨0, 0, .written 0 .cleared⟩], flushDue := true } }

theorem witness_ReleaseArbiterOffersEarliestEligible :
    (leaving 0).releaseCandidate 0 = some ([held 0 (some 3) 50], held 1 none 0, []) ∧
      State.reset.releaseCandidate 0 = none := by decide

/-- A list whose only due entry is the trigger of book 3. -/
def triggering : State := withLane 0 (fun u => { u with hold := [⟨.trigger 3 9, 0, false, false⟩] }) (linked 0 State.reset)

theorem witness_EngineEgressSendsFirstCandidate :
    (State.reset.lane 0).bLink = .down ∧ ((leaving 7).lane 0).bLink = .up ∧
      (leaving 7).releaseCandidate 0 = some ([held 0 (some 3) 50], held 1 none 0, []) ∧
      ¬ ((leaving 7).lane 0).engineWait = 8 ∧ ((leaving 8).lane 0).engineWait = 8 ∧
      ((leaving 8).lane 0).replies = [⟨7, 13, .completed .ok []⟩] ∧ (leaving 8).journal.exportLane = 0 ∧
      (leaving 8).journal.exportReady = true ∧
      triggering.releaseCandidate 0 = some ([], ⟨.trigger 3 9, 0, false, false⟩, []) ∧ (triggering.lane 0).replies = [] ∧
      triggering.journal.exportReady = false ∧ (linked 0 State.reset).releaseCandidate 0 = none := by decide

/-- A DRAINING lane whose last entry leaves, its release expiry still set, its DRAIN reply deferred. -/
def lastLeaving : State :=
  withLane 0 (fun u => { u with
    state := .draining, hold := [held 5 (some 3) 0], credits := 1, releaseExpiry := some 0
    replies := [⟨7, 8, .deferred 0 .drain⟩] }) (linked 0 State.reset)

theorem witness_EngineEgressSendsFirstCandidate_drains :
    (lastLeaving.lane 0).bLink = .up ∧ lastLeaving.releaseCandidate 0 = some ([], held 5 (some 3) 0, []) ∧
      ¬ (lastLeaving.lane 0).engineWait = 8 ∧ (lastLeaving.lane 0).state = .draining ∧
      (lastLeaving.lane 0).releaseExpiry = some 0 := by decide

/-- A record remains behind the sixteen of a frame, its flush instant reached at 10,000,000. -/
theorem witness_ExportFrameTakesRun_remaining :
    let j : Journal := { Journal.reset with
      counter := 17, held := (List.range 17).map fun n => ⟨n, n, .written 0 .cleared⟩ }
    let after := j.afterExport 0
    ((j.held.dropWhile Held.isExported).takeWhile Held.isWritten).take 16 ≠ [] ∧ j.resend = none ∧
      ((after.held.dropWhile Held.isExported).takeWhile Held.isWritten).head? = some ⟨16, 16, .written 0 .cleared⟩ ∧
      0 + j.flushInterval * 1000000 = 10000000 := by decide +kernel

theorem witness_ExportFrameTakesRun :
    let j : Journal := { Journal.reset with
      counter := 3, held := [⟨0, 0, .exported 0 .cleared⟩, ⟨1, 1, .written 0 .cleared⟩], highestExported := some 0 }
    j.resend = none ∧ ((j.held.dropWhile Held.isExported).takeWhile Held.isWritten).take 16 ≠ [] ∧
      ({ j with resend := some 0 }).resend = some 0 ∧
      ({ j with resend := some 0 }).exportBatch.1.getLast? = some ⟨0, 0, .exported 0 .cleared⟩ := by decide

/-- Lane 0 with `n` reports and one notice, the share spent. -/
def answering (n : Nat) : State :=
  withLane 0 (fun u => { u with
    reports := List.replicate n [1], notices := [⟨0, 0, .overflow, 0, ⟨1, .new, 0, 1, 1, 1, 1⟩, none, none, .opened⟩]
    noticeShare := 4 }) (linked 0 State.reset)

theorem witness_GatewayEgressSendsFirstCandidate :
    (State.reset.lane 0).aLink = .down ∧
      ((withLane 0 (fun u => { u with probe := .queued }) (linked 0 State.reset)).lane 0).probe = .queued ∧
      ((answering 24).lane 0).aLink = .up ∧ ((answering 24).lane 0).probe ≠ .queued ∧
      ¬ (((answering 24).lane 0).noticeShare = 4 ∧ ((answering 24).lane 0).reports.length < 24) ∧
      (((answering 23).lane 0).noticeShare = 4 ∧ ((answering 23).lane 0).reports.length < 24) ∧
      ((answering 0).lane 0).reports = [] ∧ ((linked 0 State.reset).lane 0).notices = [] := by decide

/-- Every expiry that follows LT set to 100, at LT `lt`. -/
def expiring (lt : Nat) : State :=
  let s := withLane 0 (fun u => { u with
    hold := [held 0 none 100], releaseExpiry := some 100, pendingTriggers := [⟨3, 100, some 100⟩] }) (atLt lt State.reset)
  { s with
    journal := { s.journal with flushExpiry := some 100 }
    evidence := { s.evidence with period := 3600, snapshotExpiry := some 100 } }

theorem witness_ExpiriesFollowLt :
    ((expiring 99).lane 0).releaseExpiry = some 100 ∧ (expiring 99).lt < 100 ∧ 100 ≤ (expiring 100).lt ∧
      ((expiring 100).lane 0).pendingTriggers = [⟨3, 100, some 100⟩] ∧ (expiring 100).journal.flushExpiry = some 100 ∧
      (expiring 100).evidence.snapshotExpiry = some 100 ∧ 0 < (expiring 100).evidence.period ∧
      (expiring 100).journal.held.length < 4096 := by decide

/-- Two pending triggers are ripe at the placement expiry of one of them, a third is not, and a frame that fits the
first two is in reception. -/
theorem witness_ExpiriesFollowLt_placements :
    let s := withLane 0 (fun u => { u with
      rx := some ⟨100, 100, 50, .traceable, 0⟩
      pendingTriggers := [⟨1, 90, none⟩, ⟨3, 100, some 100⟩, ⟨5, 101, some 101⟩] }) (atLt 100 State.reset)
    (∃ p ∈ (s.lane 0).pendingTriggers, p.book = 3 ∧ ∃ y, p.expiry = some y ∧ y ≤ s.lt) ∧
      (∀ p ∈ (s.lane 0).pendingTriggers, ¬ (p.book = 5 ∧ ∃ y, p.expiry = some y ∧ y ≤ s.lt)) := by
  refine ⟨⟨⟨3, 100, some 100⟩, by decide, rfl, 100, rfl, by decide⟩, ?_⟩
  intro p hp h
  simp only [withLane, State.lane, State.setLane, atLt, State.reset, State.lt] at hp h
  obtain ⟨hb, y, hy, hle⟩ := h
  simp at hp
  rcases hp with rfl | rfl | rfl <;> simp_all
  omega

theorem witness_ExpiriesFollowLt_uncross :
    let s (p : Phase) := withBook 3 (fun k => { k with phase := p, uncrossAt := some 100 }) (atLt 100 State.reset)
    ((s .uncross).book 3).uncrossAt = some 100 ∧ ((s .uncross).book 3).phase = .uncross ∧ 100 ≤ (s .uncross).lt ∧
      ((s .closed).book 3).phase ≠ .uncross := by decide

/-! #### Books, journal, evidence -/

/-- Book 3 in `phase`, from Tc = 1,000,000 on, with its draw, at LT `lt`. -/
def auction (phase : Phase) (lt : Nat) : State :=
  withBook 3 (fun k => { k with
    phase := phase, arming := some ⟨1000000, 2000000, 1, 1, 100, 5, 0⟩, draw := some ⟨1, 0, 2000000, false⟩ }) (atLt lt State.reset)

theorem witness_BoundariesAreTakenInOrder :
    ((auction .armed 999999).book 3).arming = some ⟨1000000, 2000000, 1, 1, 100, 5, 0⟩ ∧
      ((auction .armed 1000000).book 3).phase = .armed ∧ ((auction .call 2000000).book 3).phase = .call ∧
      ((auction .window 2000000).book 3).phase = .window ∧ ((auction .window 2000000).book 3).draw = some ⟨1, 0, 2000000, false⟩ ∧
      ((auction .freeze 3000000).book 3).phase = .freeze ∧ 2000000 + 1 * 1000000 ≤ (auction .freeze 3000000).lt := by decide

/-- A query one nanosecond before the boundary ahead, and one at it; a book with no boundary ahead. -/
theorem witness_BoundariesAreTakenInOrder_query :
    ((auction .armed 0).book 3).phase = .armed ∧ (999999 : Nat) < 1000000 ∧
      ((auction .window 1999999).book 3).draw = some ⟨1, 0, 2000000, false⟩ ∧
      ((auction .freeze 2000000).book 3).phase = .freeze ∧ ((auction .uncross 0).book 3).phase = .uncross ∧
      ((auction .closed 0).book 3).arming = some ⟨1000000, 2000000, 1, 1, 100, 5, 0⟩ := by decide

/-- Book 2 ARMED, its Tc and Tw both reached, beside book 3 in CALL and then ARMED: the lowest draw due is not book 3's. -/
def drawing (phase : Phase) : State :=
  withBook 2 (fun k => { k with phase := .armed, arming := some ⟨1000000, 2000000, 1, 1, 100, 5, 0⟩ }) (auction phase 2000000)

theorem notDue_of {s : State} {b : BookId} (h : (s.book b).arming = none) : ¬ s.DrawDue b := by
  rintro ⟨a, ha, -⟩
  rw [h] at ha
  cases ha

theorem witness_DrawFollowsGenerator :
    ∀ p ∈ [Phase.armed, .call], ((drawing p).book 3).phase = p ∧ (2 : BookId) < 3 ∧ (drawing p).DrawDue 2 ∧
      (∀ e : BookId, e < 2 → ¬ (drawing p).DrawDue e) ∧
      ((drawing p).book 3).arming = some ⟨1000000, 2000000, 1, 1, 100, 5, 0⟩ ∧ (drawing p).lt = 2000000 :=
  fun _ _ => ⟨rfl, by decide, ⟨_, rfl, Nat.le_refl _, .inr ⟨rfl, by show 1000000 ≤ 2000000; decide⟩⟩,
    fun e he => notDue_of (by revert e; decide +revert), rfl, rfl⟩

/-- No draw of a lower-numbered book is due beside the one of book 3. -/
theorem witness_BoundariesAreTakenInOrder_alone :
    ∀ c : BookId, c < 3 → ¬ (auction .armed 2000000).DrawDue c ∧ ¬ (auction .call 2000000).DrawDue c :=
  fun c h => ⟨notDue_of (by revert c; decide), notDue_of (by revert c; decide)⟩

def fullJournal : Journal := { Journal.reset with counter := 4096, held := (List.range 4096).map fun n => ⟨n, n, .bound⟩ }

theorem witness_OfferedRecordIsWrittenOrLost :
    State.reset.journal.held.length < 4096 ∧ 4096 ≤ ({ State.reset with journal := fullJournal } : State).journal.held.length := by
  simp [fullJournal, State.reset, Journal.reset]

theorem witness_EvidenceEventIsCounted :
    let e : EvidenceEvent := { kind := .frameReleased, lane := some 1, cls := some 2, residence := some 400 }
    e.residence = some 400 ∧ e.kind = .frameReleased ∧
      State.reset.evidence.monitors[0].lanes = none ∧ State.reset.evidence.monitors[0].cls = none ∧
      State.reset.evidence.counters[0].kind ≠ e.kind := by decide

/-! #### Requests -/

theorem serves_all (s : State) (cases : List (Instr × Bytes))
    (h : ∀ c ∈ cases, requestRow c.2 = c.1 ∧ 3 + fieldBytes c.2 ≤ c.2.length) :
    ∀ c ∈ cases, (asking c.2 s).Serves c.1 0 c.2 :=
  fun c hc => asking_serves c.2 s c.1 (h c hc)

theorem witness_RequestsOutOfLine :
    (asking (req 99 []) State.reset).Serves .unknownRequest 0 (req 99 []) ∧
      ((asking [13, 0] State.reset).nextRequest = some (0, requestFrame [13, 0]) ∧
        requestRow (payload (requestFrame [13, 0])) = .statusRead ∧ ([13, 0] : Bytes).length < 3 + fieldBytes [13, 0]) ∧
      State.reset.nextRequest = none :=
  ⟨asking_serves _ _ _ (by decide), ⟨asking_nextRequest _ _, by decide⟩, by decide⟩

theorem witness_EveryTakenRequestGetsOneReply :
    (asking (req 13 []) State.reset).Serves .statusRead 0 (req 13 []) := asking_serves _ _ _ (by decide)

/-- MATCH writes: table code, index, selector, value, mask, enabled. -/
def matchReq (t i sel v m en : Nat) : Bytes :=
  req 1 (uField 1 t ++ uField 1 i ++ uField 1 sel ++ uField 4 v ++ uField 4 m ++ uField 1 en)

def matchCases : List (Instr × Bytes) :=
  [(.tableWriteMatch, matchReq 8 0 0 0 0 0), (.tableWriteMatch, matchReq 1 32 0 0 0 0), (.tableWriteMatch, matchReq 1 31 0 0xFFFF 0 1),
    (.tableWriteMatch, matchReq 1 31 0 0x10000 0 1), (.tableWriteMatch, matchReq 1 31 4 0 0 0), (.tableWriteMatch, matchReq 1 31 0 0 0 2)]

/-- CLASS writes: index, book presence, book, format, delay, admission, late action. -/
def classReq (i present book format delay adm late : Nat) : Bytes :=
  req 1 (uField 1 2 ++ uField 1 i ++ uField 4 1 ++ uField 4 0 ++ uField 1 present ++ uField 1 book ++ uField 1 format
    ++ uField 1 delay ++ uField 1 adm ++ uField 1 late)

def classCases : List (Instr × Bytes) :=
  [(.tableWriteClass, classReq 16 0 0 0 0 0 0), (.tableWriteClass, classReq 15 1 7 1 7 1 1), (.tableWriteClass, classReq 15 1 8 0 0 0 0),
    (.tableWriteClass, classReq 15 2 0 0 0 0 0), (.tableWriteClass, classReq 15 0 0 2 0 0 0), (.tableWriteClass, classReq 15 0 0 0 8 0 0)]

theorem witness_ClassificationTableWrites :
    (∀ c ∈ matchCases, (asking c.2 State.reset).Serves c.1 0 c.2) ∧
      (matchCases.map fun c => (field c.2 3 1, field c.2 4 1, field c.2 5 1, field c.2 6 4, field c.2 14 1)) =
        [(8, 0, 0, 0, 0), (1, 32, 0, 0, 0), (1, 31, 0, 0xFFFF, 1), (1, 31, 0, 0x10000, 1), (1, 31, 4, 0, 0), (1, 31, 0, 0, 2)] ∧
      (∀ c ∈ classCases, (asking c.2 State.reset).Serves c.1 0 c.2) ∧
      (classCases.map fun c => (field c.2 4 1, field c.2 13 1, field c.2 14 1, field c.2 15 1, field c.2 16 1)) =
        [(16, 0, 0, 0, 0), (15, 1, 7, 1, 7), (15, 1, 8, 0, 0), (15, 2, 0, 0, 0), (15, 0, 0, 2, 0), (15, 0, 0, 0, 8)] :=
  ⟨serves_all _ _ (by decide), by decide, serves_all _ _ (by decide), by decide⟩

/-- The locks of R86, R87 and R89 on entry 1 and class 2, whose book 3 is in CALL. -/
theorem witness_ClassificationTableWrites_locked :
    let s := asking (matchReq 1 1 2 0x1000 0xFF 0) (inPhase 3 .call tables)
    s.Serves .tableWriteMatch 0 (matchReq 1 1 2 0x1000 0xFF 0) ∧ s.InAuction 3 ∧ s.matchTable[1].enabled = true ∧
      s.classTable[2].book = some 3 ∧ s.classTable[2].anyOf.getLsbD 1 = true :=
  ⟨asking_serves _ _ _ (by decide), .inl rfl, by decide⟩

/-- LANE writes: index, then C_lane, U_lane, allowance and permission with their presence. -/
def laneReq (i : Nat) (c u a p : Option Nat) : Bytes :=
  req 1 (uField 1 3 ++ uField 1 i ++ optField 2 (uField 2) c ++ optField 2 (uField 2) u ++ optField 1 (uField 1) a
    ++ optField 1 (uField 1) p)

def laneCases : List (Instr × Bytes) :=
  [(.tableWriteLane, laneReq 4 none none none none), (.tableWriteLane, laneReq 3 none none none none),
    (.tableWriteLane, laneReq 3 (some 65535) (some 0) (some 50) (some 1)), (.tableWriteLane, laneReq 3 none none (some 51) none),
    (.tableWriteLane, laneReq 0 none none none (some 0)), (.tableWriteLane, laneReq 3 none none none (some 2))]

theorem witness_LaneWriteJudgement :
    (∀ c ∈ laneCases, (asking c.2 State.reset).Serves c.1 0 c.2) ∧
      (laneCases.map fun c => (field c.2 4 1, field c.2 5 1, field c.2 6 2, field c.2 12 1, field c.2 14 1)) =
        [(4, 0, 0, 0, 0), (3, 0, 0, 0, 0), (3, 1, 65535, 50, 1), (3, 0, 0, 51, 0), (0, 0, 0, 0, 0), (3, 0, 0, 0, 2)] ∧
      (∀ m : LaneId, m ≠ 0 → (State.reset.lane m).permission = false) ∧ (State.reset.lane 3).rx = none :=
  ⟨serves_all _ _ (by decide), by decide, by decide, by decide⟩

theorem witness_LaneWriteJudgement_locked :
    let s := asking (laneReq 2 none none (some 1) none) (auction .call 0)
    s.Serves .tableWriteLane 0 (laneReq 2 none none (some 1) none) ∧ s.InAuction 3 ∧
      (s.book 3).arming = some ⟨1000000, 2000000, 1, 1, 100, 5, 0⟩ ∧ LaneSet.has 5 2 = true :=
  ⟨asking_serves _ _ _ (by decide), .inl rfl, by decide⟩

def stampingCases : List (Instr × Bytes) :=
  ([(0, 0), (6, 0), (2, 0), (2, 1), (2, 50000), (2, 50001)].map fun (c : Nat × Nat) => (.tableWriteH, settingReq 4 c.1 c.2)) ++
    ([(3, 999), (3, 1000), (3, 10000000), (3, 10000001)].map fun (c : Nat × Nat) => (.tableWriteL, settingReq 4 c.1 c.2)) ++
    ([(4, 99), (4, 100), (4, 100000), (4, 100001)].map fun (c : Nat × Nat) => (.tableWriteQ, settingReq 4 c.1 c.2)) ++
    [(.tableWriteDayOrigin, settingReq 4 1 281474976710655), (.tableWriteDayOrigin, settingReq 4 1 281474976710656),
      (.tableWriteEntryFrameType, settingReq 4 5 0xFFFF), (.tableWriteEntryFrameType, settingReq 4 5 0x10000),
      (.tableWriteEntryFrameType, settingReq 4 5 0x9A4C)]

theorem witness_StampingWriteJudgement :
    (∀ c ∈ stampingCases, (asking c.2 State.reset).Serves c.1 0 c.2) ∧ (∀ b, ¬ State.reset.InAuction b) ∧
      (stampingCases.map fun c => (field c.2 4 1, field c.2 5 1, field c.2 6 8)) =
        [(0, 0, 0), (0, 6, 0), (0, 2, 0), (0, 2, 1), (0, 2, 50000), (0, 2, 50001), (0, 3, 999), (0, 3, 1000), (0, 3, 10000000),
          (0, 3, 10000001), (0, 4, 99), (0, 4, 100), (0, 4, 100000), (0, 4, 100001), (0, 1, 281474976710655),
          (0, 1, 281474976710656), (0, 5, 0xFFFF), (0, 5, 0x10000), (0, 5, 0x9A4C)] :=
  ⟨serves_all _ _ (by decide), noAuction_of (by decide), by decide⟩

/-- The values already held, where the grade stands as judged. -/
theorem witness_StampingWriteJudgement_held :
    (asking (settingReq 4 2 50) State.reset).Serves .tableWriteH 0 (settingReq 4 2 50) ∧
      (asking (settingReq 4 3 100000) State.reset).Serves .tableWriteL 0 (settingReq 4 3 100000) ∧
      State.reset.stamping.h = 50 ∧ State.reset.stamping.l = 100000 ∧ State.reset.GradeStands :=
  ⟨asking_serves _ _ _ (by decide), asking_serves _ _ _ (by decide), rfl, rfl, by decide, by decide,
    fun h => absurd h (by decide)⟩

def clockCases : List (Instr × Bytes) :=
  ([(0, 0), (1, 0), (1, 7), (1, 8), (2, 7), (3, 49), (3, 50), (3, 100000), (3, 100001), (4, 0), (4, 15), (5, 999), (5, 10000000),
    (6, 99), (6, 100000001), (7, 9), (7, 500), (8, 0), (8, 16), (12, 0)].map
      fun (c : Nat × Nat) => (.tableWriteClockSetting, settingReq 5 c.1 c.2)) ++
    [(.tableWriteAutoSwitch, settingReq 5 9 0), (.tableWriteAutoSwitch, settingReq 5 9 1), (.tableWriteAutoSwitch, settingReq 5 9 2)]

theorem witness_ClockTableWrites :
    (∀ c ∈ clockCases, (asking c.2 State.reset).Serves c.1 0 c.2) ∧
      (∀ v ∈ [0, 1, 2], (asking (settingReq 5 10 v) State.reset).Serves .tableWriteReferenceEnable 0 (settingReq 5 10 v)) ∧
      (∀ v ∈ [0, 1], (asking (settingReq 5 11 v) State.reset).Serves .tableWriteReferenceEnable 0 (settingReq 5 11 v)) ∧
      ((asking (settingReq 5 10 1) (withA (fun m => { m with refState := .disabled }) State.reset)).monitor .a).refState = .disabled ∧
      RefLine.b ≠ State.reset.discipline.selected :=
  ⟨serves_all _ _ (by decide), fun v h => asking_serves _ _ _ (by revert v; decide),
    fun v h => asking_serves _ _ _ (by revert v; decide), by decide⟩

/-- COUNTER writes: index, kind, lane filter, class filter, book filter. -/
def counterReq (i k l c b : Nat) : Bytes := req 1 (uField 1 7 ++ uField 1 i ++ uField 1 k ++ uField 1 l ++ uField 1 c ++ uField 1 b)

def evidenceCases : List (Instr × Bytes) :=
  [(.tableWriteExportLane, settingReq 6 1 3), (.tableWriteExportLane, settingReq 6 1 4), (.tableWriteExportLane, settingReq 6 3 0),
    (.tableWriteFlushInterval, settingReq 6 2 0), (.tableWriteFlushInterval, settingReq 6 2 1),
    (.tableWriteFlushInterval, settingReq 6 2 1000), (.tableWriteFlushInterval, settingReq 6 2 1001),
    (.tableWriteCounter, counterReq 7 16 15 15 7), (.tableWriteCounter, counterReq 7 1 255 255 255),
    (.tableWriteCounter, counterReq 7 17 0 16 8), (.tableWriteCounter, counterReq 9 0 15 255 0), (.tableWriteCounter, counterReq 9 0 0 0 0),
    (.tableWriteCounter, counterReq 11 1 1 1 1), (.tableWriteSnapshotPeriod, counterReq 10 0 0 0 0),
    (.tableWriteSnapshotPeriod, counterReq 10 14 16 0 0), (.tableWriteSnapshotPeriod, counterReq 10 14 17 0 0)]

theorem witness_JournalAndCounterWrites :
    (∀ c ∈ evidenceCases, (asking c.2 State.reset).Serves c.1 0 c.2) ∧
      (evidenceCases.map fun c => (field c.2 4 1, field c.2 5 1, field c.2 6 1)).drop 7 =
        [(7, 16, 15), (7, 1, 255), (7, 17, 0), (9, 0, 15), (9, 0, 0), (11, 1, 1), (10, 0, 0), (10, 14, 16), (10, 14, 17)] ∧
      field (counterReq 10 14 16 0 0) 5 2 = 3600 ∧ field (counterReq 10 14 17 0 0) 5 2 = 3601 :=
  ⟨serves_all _ _ (by decide), by decide, by decide, by decide⟩

def readCases : List (Instr × Bytes) :=
  [(0, 0), (8, 0), (1, 31), (1, 32), (2, 15), (2, 16), (3, 3), (3, 4), (4, 0), (4, 1), (5, 0), (5, 1), (6, 0), (6, 1), (7, 10), (7, 11)].map
    fun (c : Nat × Nat) => (.tableRead, req 2 (uField 1 c.1 ++ uField 1 c.2))

theorem witness_TableReadReturnsItem :
    (∀ c ∈ readCases, (asking c.2 State.reset).Serves c.1 0 c.2) ∧
      (readCases.map fun c => (field c.2 3 1, field c.2 4 1)) =
        [(0, 0), (8, 0), (1, 31), (1, 32), (2, 15), (2, 16), (3, 3), (3, 4), (4, 0), (4, 1), (5, 0), (5, 1), (6, 0), (6, 1), (7, 10),
          (7, 11)] :=
  ⟨serves_all _ _ (by decide), by decide⟩

/-- BOOK_ARM of a book with Tc and Tw in seconds and the rest as given. -/
def armReq (b tc tw w d timeout lanes : Nat) : Bytes :=
  req 3 (uField 1 b ++ uField 6 tc ++ uField 2 0 ++ uField 6 tw ++ uField 2 999 ++ uField 4 w ++ uField 2 d ++ uField 4 timeout
    ++ uField 1 lanes)

def armCases : List (Instr × Bytes) :=
  [(.bookArm, armReq 8 1 2 0 0 100 1), (.bookArm, armReq 7 1 1 600000 10000 120000 15), (.bookArm, armReq 7 1 1 600001 10001 99 16),
    (.bookArm, armReq 7 2 1 0 0 100 1), (.bookArm, armReq 7 0 1 0 0 100 1)]

theorem witness_BookArmJudgement :
    (∀ c ∈ armCases, (asking c.2 (inState .locked State.reset)).Serves c.1 0 c.2) ∧
      (armCases.map fun c => (field c.2 3 1, field c.2 4 6, field c.2 12 6, field c.2 20 4, field c.2 26 4, field c.2 30 1)) =
        [(8, 1, 2, 0, 100, 1), (7, 1, 1, 600000, 120000, 15), (7, 1, 1, 600001, 99, 16), (7, 2, 1, 0, 100, 1), (7, 0, 1, 0, 100, 1)] ∧
      ((inPhase 7 .closed State.reset).book 7).phase = .closed ∧ ((inPhase 7 .armed State.reset).book 7).phase = .armed ∧
      ((withBook 7 (fun k => { k with triggers := k.triggers.set 3 .held }) State.reset).book 7).trigger 3 = .held :=
  ⟨serves_all _ _ (by decide), by decide, by decide⟩

def bookCases : List (Instr × Bytes) :=
  [(.bookDisarm, req 4 (uField 1 3)), (.bookDisarm, req 4 (uField 1 8)), (.bookExtend, req 5 (uField 1 3 ++ uField 4 1)),
    (.bookExtend, req 5 (uField 1 3 ++ uField 4 600000)), (.bookExtend, req 5 (uField 1 3 ++ uField 4 600001)),
    (.bookExtend, req 5 (uField 1 3 ++ uField 4 0)), (.bookExtend, req 5 (uField 1 8 ++ uField 4 1)), (.bookSeed, req 6 (uField 4 1000000))]

theorem witness_DisarmExtendSeed :
    (∀ p ∈ [Phase.armed, .call, .window, .freeze, .uncross, .closed], ∀ c ∈ bookCases,
      (asking c.2 (auction p 0)).Serves c.1 0 c.2) ∧
      (∀ p ∈ [Phase.armed, .call, .window, .freeze, .uncross, .closed], ((auction p 0).book 3).phase = p) ∧
      ((auction .window 0).book 3).arming = some ⟨1000000, 2000000, 1, 1, 100, 5, 0⟩ ∧
      ((auction .window 0).book 3).draw = some ⟨1, 0, 2000000, false⟩ :=
  ⟨fun _ _ => serves_all _ _ (by decide), by decide, by decide⟩

def clockCommands : List (Instr × Bytes) :=
  [(.acquire, req 7 (uField 1 1)), (.acquire, req 7 (uField 1 6)), (.release, req 7 (uField 1 2)), (.selectA, req 7 (uField 1 3)),
    (.selectB, req 7 (uField 1 4)), (.clearMissing, req 7 (uField 1 5))]

theorem witness_ClockCommandsActByState :
    (∀ d, ∀ c ∈ clockCommands, (asking c.2 (inState d State.reset)).Serves c.1 0 c.2) ∧
      (∀ d, (inState d State.reset).discipline.state = d) ∧
      (clockCommands.map fun c => field c.2 3 1) = [1, 6, 2, 3, 4, 5] ∧ State.reset.discipline.selected = .a :=
  ⟨fun _ => serves_all _ _ (by decide), fun _ => rfl, by decide, rfl⟩

def laneCommands : List (Instr × Bytes) :=
  [(.enable, req 8 (uField 1 2 ++ uField 1 1)), (.drain, req 8 (uField 1 2 ++ uField 1 2)), (.disable, req 8 (uField 1 2 ++ uField 1 3)),
    (.probe, req 8 (uField 1 2 ++ uField 1 4)), (.enable, req 8 (uField 1 2 ++ uField 1 5)), (.probe, req 8 (uField 1 4 ++ uField 1 4))]

theorem witness_LaneCommandsActByState :
    (∀ st, ∀ c ∈ laneCommands, (asking c.2 (laneIn st State.reset)).Serves c.1 0 c.2) ∧
      (∀ st, ((laneIn st State.reset).lane 2).state = st) ∧
      (laneCommands.map fun c => (field c.2 3 1, field c.2 4 1)) = [(2, 1), (2, 2), (2, 3), (2, 4), (2, 5), (4, 4)] ∧
      ((laneIn .active State.reset).lane 2).aLink = .up ∧ (State.reset.lane 2).aLink = .down ∧
      ((laneIn .active State.reset).lane 2).lastProbeId ≤ 65535 ∧ ((laneIn .active State.reset).lane 2).hold = [] ∧
      (full.lane 2).hold ≠ [] :=
  ⟨fun _ => serves_all _ _ (by decide), fun _ => rfl, by decide, by decide⟩

/-- PROBE on lane 2 while a book whose set names it is in CALL. -/
theorem witness_LaneCommandsActByState_auction :
    let s := asking (req 8 (uField 1 2 ++ uField 1 4)) (laneIn .disabled (auction .call 0))
    s.Serves .probe 0 (req 8 (uField 1 2 ++ uField 1 4)) ∧ s.InAuction 3 ∧
      (s.book 3).arming = some ⟨1000000, 2000000, 1, 1, 100, 5, 0⟩ ∧ LaneSet.has 5 2 = true :=
  ⟨asking_serves _ _ _ (by decide), .inl rfl, by decide⟩

/-- One EXPORTED record, a pending gap behind it. -/
def exported : State :=
  { State.reset with journal := { Journal.reset with
      counter := 9, held := [⟨4, 0, .exported 0 .cleared⟩], highestExported := some 4, gap := some ⟨5, 4⟩ } }

theorem witness_JournalReleaseAndResend :
    (∀ n ∈ [3, 4, 5], (asking (req 9 (uField 8 n)) exported).Serves .journalRelease 0 (req 9 (uField 8 n)) ∧
      (asking (req 10 (uField 8 n)) exported).Serves .journalResend 0 (req 10 (uField 8 n))) ∧
      State.reset.journal.highestExported = none ∧ exported.journal.highestExported = some 4 ∧
      exported.journal.gap = some ⟨5, 4⟩ ∧
      0 < exported.journal.held.countP (fun h => h.isExported && decide (h.number ≤ min 4 4)) ∧
      exported.journal.held.length ≤ 4096 ∧ (∃ h ∈ exported.journal.held, h.number = 4 ∧ h.isExported = true) ∧
      field (req 9 (uField 8 5)) 3 8 = 5 :=
  ⟨fun n h => ⟨asking_serves _ _ _ (by revert n; decide), asking_serves _ _ _ (by revert n; decide)⟩, by decide⟩

theorem witness_CounterReadReturnsValues :
    (asking (req 11 []) State.reset).Serves .counterRead 0 (req 11 []) := asking_serves _ _ _ (by decide)

theorem witness_CounterClearZeroesValues :
    (asking (req 12 []) State.reset).Serves .counterClear 0 (req 12 []) := asking_serves _ _ _ (by decide)

theorem witness_StatusReadSealsDraws :
    (asking (req 13 []) (auction .window 0)).Serves .statusRead 0 (req 13 []) ∧
      ((asking (req 13 []) (auction .window 0)).book 3).phase = .window ∧
      ((asking (req 13 []) (auction .call 0)).book 3).phase = .call :=
  ⟨asking_serves _ _ _ (by decide), by decide⟩

/-- Outside CALL and WINDOW too: after power-on the generator alone is kept silent. -/
theorem witness_StatusReadSealsDraws_generator :
    (asking (req 13 []) State.reset).Serves .statusRead 0 (req 13 []) ∧
      ((asking (req 13 []) (auction .closed 0)).book 3).phase = .closed :=
  ⟨asking_serves _ _ _ (by decide), by decide⟩

theorem witness_DatapathResetFlushesLanes :
    (asking (req 14 []) full).Serves .datapathReset 0 (req 14 []) ∧ (∀ b, ¬ (asking (req 14 []) full).InAuction b) ∧
      (asking (req 14 []) (auction .freeze 0)).Serves .datapathReset 0 (req 14 []) ∧
      (asking (req 14 []) (auction .freeze 0)).InAuction 3 :=
  ⟨asking_serves _ _ _ (by decide), noAuction_of (by decide), asking_serves _ _ _ (by decide), .inr (.inr (.inl rfl))⟩

/-! #### Invariants and rules of the whole part -/

/-- Both limits of the rates at once, with a request in front. -/
def atLimits : State :=
  { asking (req 13 []) State.reset with
    timebase := ⟨0, 0, -200000, 0, 0⟩, discipline := ⟨.acquire, .a, 150000, 0, false, false⟩, pending := [.statusRead] }

theorem witness_StepKeepsRatesAndPermission :
    atLimits.RatesBounded ∧ atLimits.Reachable ∧ ∃ t, step atLimits = .next t :=
  ⟨⟨⟨by decide, by decide⟩, by decide, by decide⟩, ⟨0, by decide⟩, _, rfl⟩

/-- A full hold list, with an entry frame in front. -/
theorem witness_StepKeepsLanesFit : ({ full with pending := [.releaseExpiry 2] } : State).LanesFit ∧
    ∃ t, step { full with pending := [.releaseExpiry 2] } = .next t :=
  ⟨by unfold State.LanesFit LaneUnit.Fits; decide +kernel, _, rfl⟩

/-- Book 3 in UNCROSS, its trigger HELD on lane 0 and PENDING on lane 2. -/
def triggered : State :=
  withBook 3 (fun k => { k with triggers := #v[.held, .none, .pending, .none] }) (inPhase 3 .uncross
    (withLane 2 (fun u => { u with pendingTriggers := [⟨3, 100, none⟩] })
      { triggering with pending := [.releaseExpiry 0] }))

theorem witness_StepKeepsLanesFit_triggers :
    triggered.TriggersMatch ∧ triggerCount (triggered.lane 0).hold = 1 ∧ ∃ t, step triggered = .next t :=
  ⟨by unfold State.TriggersMatch; decide, by decide, _, rfl⟩

theorem witness_StepKeepsJournalOrdered :
    ({ exported with pending := [.aLinkReturned 0] } : State).journal.Ordered ∧
      ∃ t, step { exported with pending := [.aLinkReturned 0] } = .next t :=
  ⟨by unfold Journal.Ordered; decide, _, rfl⟩

theorem witness_NoCommandMovesLtInAuction :
    deferring.InAuction 7 ∧ Instr.markerEdge .a ≠ .powerOnReset ∧ ∃ t, exec (.markerEdge .a) deferring = .next t :=
  ⟨.inr (.inr (.inr rfl)), by decide, _, rfl⟩

theorem witness_TablesLockedInAuction :
    let s := inPhase 3 .call tables
    s.InAuction 3 ∧ s.classTable[2].book = some 3 ∧ s.classTable[2].anyOf.has 1 = true ∧
      ∃ t, exec .tableWriteMatch s = .next t :=
  ⟨.inl rfl, by decide, by decide, _, rfl⟩

theorem witness_DrawStaysInAuction :
    ((auction .window 0).book 3).phase = .window ∧ ((auction .window 0).book 3).draw = some ⟨1, 0, 2000000, false⟩ ∧
      (∃ t, exec .bookExtend (auction .window 0) = .next t) ∧
      Instr.eExpiry 3 ≠ .bookExtend ∧ ∃ t, exec (.eExpiry 3) (auction .window 0) = .next t :=
  ⟨by decide, by decide, ⟨_, rfl⟩, by decide, _, rfl⟩

/-! ### One step each, on the states above -/

/-- Section 5.11: book 1 in WINDOW, E = 57,626.008 s, extended by 60,000 ms. -/
theorem test_extendInWindow :
    let s := withBook 1 (fun k => { k with
      phase := .window, arming := some ⟨57000000000000, 57600000000000, 30000, 2000, 5000, 3, 0⟩
      draw := some ⟨3723440753, 26008, 57626008000000, false⟩ }) State.reset
    let t := after .bookExtend (asking (req 5 (uField 1 1 ++ uField 4 60000)) s)
    (t.book 1).draw.map Draw.endInstant = some 57686008000000 ∧ (t.book 1).arming.map Arming.extension = some 60000 := by
  decide

/-- Section 5.11: E + D taken at 57,688.008 s, timeout at 57,693.008 s, the triggers of lanes 0 and 1 placed. -/
theorem test_uncrossExpiry :
    let s := withBook 1 (fun k => { k with
      phase := .freeze, arming := some ⟨57000000000000, 57600000000000, 30000, 2000, 5000, 3, 60000⟩
      draw := some ⟨3723440753, 26008, 57686008000000, false⟩ }) (atLt 57688008000000 State.reset)
    let t := after (.uncrossExpiry 1) s
    (t.book 1).phase = .uncross ∧ (t.book 1).uncrossAt = some 57693008000000 ∧
      (t.book 1).triggers = #v[.held, .held, .none, .none] := by decide

/-- Section 5.5: books 1 and 4 have one Tw, the generator seeded with 1,000,000. The query for book 4 finds book 1's
expiry waiting, and book 1 draws first (R107). -/
theorem test_queryDrawsInTurn :
    let waiting (w : Nat) : Book → Book := fun k => { k with
      phase := .call, arming := some ⟨57000000000000, 57600000000000, w, 2000, 5000, 3, 0⟩ }
    let s := withBook 1 (waiting 30000) (withBook 4 (waiting 600000) (atLt 57600000000000 State.reset))
    let t := { s with bookUnit := { s.bookUnit with generator := 1000000 } }.takeForQuery 4 57600000000000
    (t.book 1).draw.map Draw.offset = some 26008 ∧ (t.book 4).draw.map Draw.offset = some 512474 ∧
      t.bookUnit.generator = 3668427470 := by decide +kernel

/-- The expiry of Tc is not taken before its instant and is taken at it (R99). -/
theorem test_tcExpiry :
    ((after (.tcExpiry 3) (auction .armed 999999)).book 3).phase = .armed ∧
      ((after (.tcExpiry 3) (auction .armed 1000000)).book 3).phase = .call := by decide

/-- A third refusal loses reference A and sends LOCKED to HOLDOVER (section 11.4). -/
theorem test_thirdRefusal :
    let t := after (.announcementExpiry .a) (atOsc 1000000000 (nearlyLost .locked))
    (t.monitor .a).refState = .lost ∧ t.discipline.state = .holdover ∧ t.journal.counter = 2 := by decide

/-- An entry frame that finds 64 frames held is refused OVERFLOW, with a notice (R122). -/
theorem test_overflow :
    let t := after (.entryFrame 2 (entry 1 0)) full
    frameCount (t.lane 2).hold = 64 ∧ ((t.lane 2).notices.map Notice.reason) = [.overflow] ∧ (t.lane 2).rx = none := by
  decide +kernel

/-- A trigger behind a frame of its book waits for it, credit or not (section 6.11, R131). -/
theorem test_triggerWaitsForItsBook :
    let s := withLane 0 (fun u => { u with hold := [held 0 (some 3) 0, ⟨.trigger 3 0, 0, false, false⟩] }) (linked 0 State.reset)
    ((after (.engineEgressChoice 0) s).lane 0).hold.length = 2 ∧
      ((after (.engineEgressChoice 0) (withLane 0 (fun u => { u with credits := 1 }) s)).lane 0).hold =
        [⟨.trigger 3 0, 0, false, false⟩] := by decide

/-- Credits are limited to 32, and the excess is an event (R134). -/
theorem test_creditExcess :
    ((after (.creditGrant 0 (grant 33)) (linked 0 State.reset)).lane 0).credits = 32 := by decide +kernel

/-- A release frees the record and the pending gap takes the next number (section 7.7). -/
theorem test_gapRecord :
    let t := after .journalRelease (asking (req 9 (uField 8 4)) exported)
    t.journal.held = [⟨9, 0, .written 0 (.gapFull 5 4)⟩] ∧ t.journal.gap = none := by decide

/-- A stale probe frame is counted and changes nothing else (R66). -/
theorem test_staleProbe :
    let u := (after (.probeReturn 2 (probeFrame 4)) (awaiting 0)).lane 2
    u.counts.probeStale = 1 ∧ u.probe = .outstanding 0 := by decide +kernel

/-- R137: the slot a released frame is sent from is not free until the transmission ends. -/
theorem test_sentSlotIsNotFree :
    let sending := after (.engineEgressChoice 0) lastLeaving
    (sending.lane 0).hold = [] ∧ 5 ∉ (sending.lane 0).freeSlots ∧ (sending.lane 0).freeSlots.length = 63 ∧
      5 ∈ ((after (.bLinkLost 0 false) sending).lane 0).freeSlots := by decide +kernel

/-- R133: a due frame behind a conflicting one waits by conflict once; without a credit the first waits by credit. -/
theorem test_waitsAreNotedOnce :
    let e (n : Nat) : HoldEntry := { held n (some 3) 0 with body := .frame ⟨some (.order 10 9), some 3, some 15, 100, n, []⟩ }
    let s (c : Nat) := withLane 0 (fun u => { u with hold := [e 0, e 1], credits := c }) State.reset
    ((s 1).judgeWaits 0).lane 0 = { (s 1).lane 0 with hold := [e 0, { e 1 with conflictWaited := true }] } ∧
      ((s 0).judgeWaits 0).lane 0 = { (s 0).lane 0 with hold := [{ e 0 with creditWaited := true }, e 1] } ∧
      ((s 1).judgeWaits 0).judgeWaits 0 = (s 1).judgeWaits 0 := by decide +kernel

/-- R34 and R38: a capture before a growth expiry that is due uses the old U_clock, one after it the grown one. -/
theorem test_captureBeforeGrowthExpiry :
    let s := linked 0 (growing 1)
    (((after (.startOfFrame 0) s).lane 0).rx.map Reception.uStamp) = some 99951 ∧
      (((after (.startOfFrame 0) (after .growthExpiry s)).lane 0).rx.map Reception.uStamp) = some 100001 := by decide

/-- The step takes the front command and leaves the rest of the queue. -/
theorem test_stepTakesFront :
    (match step queued with
      | .next t => t.pending
      | .fault f => nomatch f
      | .refused _ => []) = [.growthExpiry] := by decide

end Sys2Proof.Tests
end

section
/-! PROOFS. Placed triggers: an operation that asks a lane for triggers changes its hold list at the end, its pending set
and its marks of waits, and nothing else of the lane (R133, R139 to R141). -/

namespace Sys2Proof.Machine

/-! ### Placed triggers -/

/-- The lane `v` is the lane `u` after triggers were asked of it and some were placed: its list has gained TRIGGER
entries at its end, its pending set may have changed, and marks of waits may have been set (R133, R139, R141). -/
def LaneUnit.Placed (u v : LaneUnit) : Prop :=
  (∃ added, bodies v.hold = bodies u.hold ++ added ∧ ∀ x ∈ added, ∃ b i, x.1 = HoldBody.trigger b i) ∧
    v = { u with hold := v.hold, pendingTriggers := v.pendingTriggers }

theorem LaneUnit.Placed.refl (u : LaneUnit) : u.Placed u := ⟨⟨[], by simp, by simp⟩, rfl⟩

theorem LaneUnit.Placed.trans {u v w : LaneUnit} (h : u.Placed v) (k : v.Placed w) : u.Placed w := by
  obtain ⟨⟨a, ha, ta⟩, hv⟩ := h
  obtain ⟨⟨b, hb, tb⟩, hw⟩ := k
  refine ⟨⟨a ++ b, by rw [hb, ha, List.append_assoc], ?_⟩, ?_⟩
  · intro x hx
    rcases List.mem_append.mp hx with hx | hx
    · exact ta x hx
    · exact tb x hx
  · rw [hw, hv]

/-- Every lane of `t` is that lane of `s` after triggers were asked of it. -/
def State.PlacedIn (s t : State) : Prop := ∀ k, (s.lane k).Placed (t.lane k)

theorem State.PlacedIn.refl (s : State) : s.PlacedIn s := fun _ => .refl _

theorem State.PlacedIn.trans {s t u : State} (h : s.PlacedIn t) (k : t.PlacedIn u) : s.PlacedIn u :=
  fun l => (h l).trans (k l)

/-- Where the lanes are the same nothing was placed. -/
theorem State.PlacedIn.of_lanes {s t : State} (h : t.lanes = s.lanes) : s.PlacedIn t := fun k => by
  have : t.lane k = s.lane k := by simp [State.lane, h]
  rw [this]
  exact .refl _

/-- A fold of operations that each only place triggers only places triggers. -/
theorem State.PlacedIn.foldl {α : Type} {f : State → α → State} (h : ∀ (t : State) (a : α), t.PlacedIn (f t a))
    (s : State)
    (as : List α) : s.PlacedIn (as.foldl f s) := by
  induction as generalizing s with
  | nil => exact .refl s
  | cons a as ih => exact (h s a).trans (ih _)

theorem State.judgeWaits_placed (s : State) (l : LaneId) : s.PlacedIn (s.judgeWaits l) := by
  intro k
  by_cases hk : k = l
  · subst hk
    obtain ⟨heq, hbodies⟩ := s.judgeWaits_lane k
    refine ⟨⟨[], by simp [hbodies], by simp⟩, ?_⟩
    rw [heq]
  · rw [State.judgeWaits_lane_other s hk]
    exact .refl _

/-- A lane changed only by placing leaves the others alone. -/
theorem State.setLane_placed {s : State} {l : LaneId} {u : LaneUnit} (h : (s.lane l).Placed u) :
    s.PlacedIn (s.setLane l u) := by
  intro k
  rw [State.lane_setLane]
  split
  next hk => subst hk; exact h
  next => exact .refl _

/-- A placed trigger joins the tail of its lane (R141). -/
theorem State.placeTrigger_placed (s : State) (l : LaneId) (p : PendingTrigger) :
    s.PlacedIn (s.placeTrigger l p) := by
  have placed : (s.lane l).Placed
      { s.lane l with
        hold := (s.lane l).hold ++ [⟨.trigger p.book p.endInstant, s.lt, false, false⟩]
        pendingTriggers := (s.lane l).pendingTriggers.filter fun q => q.book != p.book } :=
    ⟨⟨[(.trigger p.book p.endInstant, s.lt)], by simp, by simp⟩, rfl⟩
  unfold State.placeTrigger
  exact ((State.setLane_placed placed).trans (.of_lanes (State.setBook_lanes ..))).trans (State.judgeWaits_placed _ _)

theorem State.placementTest_placed (s : State) (l : LaneId) : s.PlacedIn (s.placementTest l) :=
  State.PlacedIn.foldl (fun t p => t.placeTrigger_placed l p) _ _

theorem State.requestTrigger_placed (s : State) (l : LaneId) (b : BookId) (e : Nat) :
    s.PlacedIn (s.requestTrigger l b e) := by
  unfold State.requestTrigger
  refine State.PlacedIn.trans (State.setLane_placed ?_) (State.placementTest_placed _ _)
  exact ⟨⟨[], by simp, by simp⟩, rfl⟩

theorem State.sendTrigger_placed (s : State) (b : BookId) (e : Nat) (l : LaneId) :
    s.PlacedIn (s.sendTrigger b e l) :=
  State.PlacedIn.trans (.of_lanes (State.setBook_lanes ..)) (State.requestTrigger_placed _ _ _ _)

theorem State.takeUncross_placed (s : State) (st : Bool) (b : BookId) (a : Arming) (d : Draw) :
    s.PlacedIn (s.takeUncross st b a d) := by
  have entered : s.PlacedIn (s.setBook b { s.book b with phase := .uncross }) := .of_lanes rfl
  exact (entered.trans (State.PlacedIn.foldl (fun t l => t.sendTrigger_placed b d.endInstant l) _ _)).trans
    (.of_lanes rfl)

theorem State.takeBoundary_placed (s : State) (st : Bool) (b : BookId) : s.PlacedIn (s.takeBoundary st b) := by
  unfold State.takeBoundary
  split
  · exact .of_lanes rfl
  · exact .of_lanes rfl
  · exact .of_lanes rfl
  · exact State.takeUncross_placed _ _ _ _ _
  · exact .refl s

theorem State.takeBoundaries_placed (st : Bool) (limit : Nat) (b : BookId) (fuel : Nat) (s : State) :
    s.PlacedIn (State.takeBoundaries st limit b fuel s) := by
  induction fuel generalizing s with
  | zero => exact .refl s
  | succ n ih =>
    unfold State.takeBoundaries
    split
    · exact .refl s
    · split
      · exact (s.takeBoundary_placed st b).trans (ih _)
      · exact .refl s

theorem State.bookOnStep_placed (s : State) (b : BookId) : s.PlacedIn (s.bookOnStep b) := by
  unfold State.bookOnStep
  split
  · exact State.takeBoundaries_placed _ _ _ _ _
  · exact .refl s

theorem State.serveDraw_placed (s : State) (b : BookId) : s.PlacedIn (s.serveDraw b) := by
  unfold State.serveDraw
  split
  · exact State.takeBoundaries_placed _ _ _ _ _
  · exact .refl s

theorem State.takeInTurn_placed (s : State) (limit : Nat) (b : BookId) : s.PlacedIn (s.takeInTurn limit b) := by
  unfold State.takeInTurn
  refine State.PlacedIn.trans ?_ (State.takeBoundaries_placed _ _ _ _ _)
  split
  · exact State.PlacedIn.foldl State.serveDraw_placed _ _
  · exact .refl s

theorem State.takeExpiry_placed (s : State) (p : Phase) (b : BookId) : s.PlacedIn (s.takeExpiry p b) := by
  unfold State.takeExpiry
  split
  · exact State.takeInTurn_placed _ _ _
  · exact .refl s

theorem State.takeForQuery_placed (s : State) (b : BookId) (stamp : Nat) : s.PlacedIn (s.takeForQuery b stamp) := by
  unfold State.takeForQuery
  split
  · exact .refl s
  · split
    · exact State.takeInTurn_placed _ _ _
    · exact .refl s

end Sys2Proof.Machine
end

section
/-! PROOFS. The control permissions of the lanes: no shared operation changes one (R70). -/

namespace Sys2Proof.Machine

/-- The control permission of each lane (R70). -/
def State.permissions (s : State) : LaneId → Bool := fun l => (s.lane l).permission

theorem State.permissions_of_lanes {s t : State} (h : t.lanes = s.lanes) : t.permissions = s.permissions := by
  unfold State.permissions State.lane
  rw [h]

theorem State.PlacedIn.permissions {s t : State} (h : s.PlacedIn t) : t.permissions = s.permissions := by
  funext k
  unfold State.permissions
  rw [(h k).2]

/-- Where some lane has permission and the permissions stay, some lane has it still. -/
theorem State.Reachable.of_permissions {s t : State} (h : s.Reachable) (hp : t.permissions = s.permissions) :
    t.Reachable := by
  obtain ⟨l, hl⟩ := h
  exact ⟨l, (congrFun hp l).trans hl⟩

@[simp] theorem State.permissions_setLane (s : State) (l : LaneId) (u : LaneUnit)
    (h : u.permission = (s.lane l).permission) : (s.setLane l u).permissions = s.permissions := by
  funext k
  unfold State.permissions
  rw [State.lane_setLane]
  split
  next hk => rw [hk, h]
  next => rfl

@[simp] theorem State.permissions_setBook (s : State) (b : BookId) (k : Book) :
    (s.setBook b k).permissions = s.permissions := rfl
@[simp] theorem State.permissions_setMonitor (s : State) (r : RefLine) (m : Monitor) :
    (s.setMonitor r m).permissions = s.permissions := by cases r <;> rfl
@[simp] theorem State.permissions_raise (s : State) (e : EvidenceEvent) :
    (s.raise e).permissions = s.permissions := rfl
@[simp] theorem State.permissions_raiseAll (s : State) (es : List EvidenceEvent) :
    (s.raiseAll es).permissions = s.permissions := rfl
@[simp] theorem State.permissions_offer (s : State) (r : RecordBody) :
    (s.offer r).permissions = s.permissions := rfl
@[simp] theorem State.permissions_offerLane (s : State) (l : LaneId) (e : LaneEvent) :
    (s.offerLane l e).permissions = s.permissions := rfl
@[simp] theorem State.permissions_offerTable (s : State) (t : TableId) (i : Nat) (c : Bytes) :
    (s.offerTable t i c).permissions = s.permissions := rfl
@[simp] theorem State.permissions_offerClock (s : State) (e : ClockEvent) (r : RefLine) (th : Option Int) :
    (s.offerClock e r th).permissions = s.permissions := rfl
@[simp] theorem State.permissions_rateToFreq (s : State) : s.rateToFreq.permissions = s.permissions := rfl
@[simp] theorem State.permissions_judgeGrade (s : State) : s.judgeGrade.permissions = s.permissions := by
  unfold State.judgeGrade
  split <;> rfl

@[simp] theorem State.permissions_countLane (s : State) (l : LaneId) (f : LaneCounts → LaneCounts) :
    (s.countLane l f).permissions = s.permissions := by simp [State.countLane]

@[simp] theorem State.permissions_completeReply (s : State) (l : LaneId) (c : LaneCommand) (st : Status) (b : Bytes) :
    (s.completeReply l c st b).permissions = s.permissions := by
  funext k
  simp [State.permissions]

@[simp] theorem State.permissions_placeReply (s : State) (l : LaneId) (r : Reply) :
    (s.placeReply l r).permissions = s.permissions := by simp [State.placeReply]

@[simp] theorem State.permissions_popRequest (s : State) (l : LaneId) :
    (s.popRequest l).permissions = s.permissions := by
  funext k
  unfold State.permissions
  rw [State.popRequest_lane]
  split <;> rfl

@[simp] theorem State.reserve_lanes (s : State) (l : LaneId) : (s.reserve l).lanes = s.lanes := by
  unfold State.reserve
  split
  · rfl
  · split <;> rfl

@[simp] theorem State.permissions_reserve (s : State) (l : LaneId) : (s.reserve l).permissions = s.permissions :=
  State.permissions_of_lanes (s.reserve_lanes l)

@[simp] theorem State.permissions_reserveForStep (s : State) : s.reserveForStep.permissions = s.permissions :=
  foldl_preserves State.permissions _ (fun t l => by split <;> simp) _ _

@[simp] theorem State.offerEntry_lanes (s : State) (l : LaneId) (e : EntryRecord) :
    (s.offerEntry l e).lanes = s.lanes := by unfold State.offerEntry; split <;> rfl

@[simp] theorem State.permissions_offerEntry (s : State) (l : LaneId) (e : EntryRecord) :
    (s.offerEntry l e).permissions = s.permissions := State.permissions_of_lanes (s.offerEntry_lanes l e)

@[simp] theorem State.voidReservation_lanes (s : State) (l : LaneId) : (s.voidReservation l).lanes = s.lanes := by
  unfold State.voidReservation; split <;> rfl

@[simp] theorem State.permissions_voidReservation (s : State) (l : LaneId) :
    (s.voidReservation l).permissions = s.permissions := State.permissions_of_lanes (s.voidReservation_lanes l)

/-! ### Lanes -/

@[simp] theorem State.permissions_judgeWaits (s : State) (l : LaneId) :
    (s.judgeWaits l).permissions = s.permissions := (s.judgeWaits_placed l).permissions

@[simp] theorem State.permissions_placementTest (s : State) (l : LaneId) :
    (s.placementTest l).permissions = s.permissions := (s.placementTest_placed l).permissions

@[simp] theorem State.permissions_admitEntry (s : State) (l : LaneId) (e : HoldEntry) :
    (s.admitEntry l e).permissions = s.permissions := by
  unfold State.admitEntry
  dsimp only
  split <;> simp

@[simp] theorem State.permissions_admitFrame (s : State) (l : LaneId) (key : Option OrderKey) (book : Option BookId)
    (cls : Option ClassId) (captured release : Nat) (frame : Bytes) :
    (s.admitFrame l key book cls captured release frame).permissions = s.permissions :=
  State.permissions_admitEntry _ _ _

@[simp] theorem State.permissions_install (s : State) (l : LaneId) (c u : Nat) (r : Option Nat) :
    (s.install l c u r).permissions = s.permissions :=
  (State.permissions_placementTest ..).trans (State.permissions_setLane _ _ _ rfl)

@[simp] theorem State.permissions_installPending (s : State) (l : LaneId) :
    (s.installPending l).permissions = s.permissions := by
  unfold State.installPending
  dsimp only
  split <;> simp

@[simp] theorem State.permissions_endReception (s : State) (l : LaneId) :
    (s.endReception l).permissions = s.permissions := by simp [State.endReception]

@[simp] theorem State.permissions_afterReception (s : State) (l : LaneId) :
    (s.afterReception l).permissions = s.permissions := by simp [State.afterReception]

@[simp] theorem State.permissions_probeFail (s : State) (l : LaneId) :
    (s.probeFail l).permissions = s.permissions := by simp [State.probeFail]

@[simp] theorem State.permissions_failProbe (s : State) (l : LaneId) :
    (s.failProbe l).permissions = s.permissions := by unfold State.failProbe; split <;> simp

@[simp] theorem State.permissions_endDrain (s : State) (l : LaneId) :
    (s.endDrain l).permissions = s.permissions := by unfold State.endDrain; split <;> simp

@[simp] theorem State.permissions_dropCredits (s : State) (l : LaneId) :
    (s.dropCredits l).permissions = s.permissions := by unfold State.dropCredits; split <;> simp

@[simp] theorem State.permissions_abandonReception (s : State) (l : LaneId) :
    (s.abandonReception l).permissions = s.permissions := by unfold State.abandonReception; split <;> simp

@[simp] theorem State.permissions_laneOnStep (s : State) (l : LaneId) :
    (s.laneOnStep l).permissions = s.permissions := by
  unfold State.laneOnStep
  cases (s.lane l).probe <;> dsimp only <;> split <;> (try split) <;> simp

/-! ### Books and evidence -/

@[simp] theorem State.permissions_takeExpiry (s : State) (p : Phase) (b : BookId) :
    (s.takeExpiry p b).permissions = s.permissions := (s.takeExpiry_placed p b).permissions

@[simp] theorem State.permissions_takeForQuery (s : State) (b : BookId) (stamp : Nat) :
    (s.takeForQuery b stamp).permissions = s.permissions := (s.takeForQuery_placed b stamp).permissions

@[simp] theorem State.permissions_bookOnStep (s : State) (b : BookId) :
    (s.bookOnStep b).permissions = s.permissions := (s.bookOnStep_placed b).permissions

@[simp] theorem State.permissions_confirm (s : State) (b : BookId) (r : ConfirmResult) :
    (s.confirm b r).permissions = s.permissions := by
  unfold State.confirm
  split
  · rfl
  · split <;> rfl
  all_goals rfl

@[simp] theorem State.permissions_takeSnapshot (s : State) : s.takeSnapshot.permissions = s.permissions := rfl

@[simp] theorem State.permissions_snapshotOnStep (s : State) (f : Bool) :
    (s.snapshotOnStep f).permissions = s.permissions := by
  unfold State.snapshotOnStep
  split
  · rfl
  · split
    · split <;> rfl
    · rfl

/-! ### The ends of frames, the egress, the datapath reset -/

@[simp] theorem State.permissions_frameEnds (s : State) (l : LaneId) (f : Bytes) (k : APortFrame)
    (h : Reception → State → State) (hh : ∀ rx t, (h rx t).permissions = t.permissions) :
    (s.frameEnds l f k h).permissions = s.permissions := by
  unfold State.frameEnds
  split
  · rfl
  · split
    · simp [hh]
    · rfl

@[simp] theorem State.permissions_handleForeign (s : State) (l : LaneId) (f : Bytes) (rx : Reception) :
    (s.handleForeign l f rx).permissions = s.permissions := by
  unfold State.handleForeign
  dsimp only
  split
  · simp
  · split <;> simp

@[simp] theorem State.permissions_refuseEntry (s : State) (l : LaneId) (rx : Reception) (j : Judged)
    (r : EntryRefusal) : (s.refuseEntry l rx j r).permissions = s.permissions := by
  unfold State.refuseEntry
  dsimp only
  split
  · refine Eq.trans (State.permissions_setLane _ _ _ ?_) ?_
    · rfl
    · simp
  · simp

@[simp] theorem State.permissions_forwardEntry (s : State) (l : LaneId) (f : Bytes) (rx : Reception) (j : Judged)
    (c : ClassId) (r : ClassRecord) : (s.forwardEntry l f rx j c r).permissions = s.permissions := by
  simp [State.forwardEntry]

@[simp] theorem State.permissions_queryGating (s : State) (l : LaneId) (b : Option BookId) (stamp : Nat) :
    (s.queryGating l b stamp).1.permissions = s.permissions := by
  unfold State.queryGating
  split
  · rfl
  · simp

@[simp] theorem State.permissions_handleWellFormed (s : State) (l : LaneId) (f : Bytes) (rx : Reception)
    (h : EntryHeader) : (s.handleWellFormed l f rx h).permissions = s.permissions := by
  unfold State.handleWellFormed
  dsimp only
  split <;> simp

@[simp] theorem State.permissions_handleEntry (s : State) (l : LaneId) (f : Bytes) (rx : Reception) :
    (s.handleEntry l f rx).permissions = s.permissions := by
  unfold State.handleEntry
  dsimp only
  split
  · simp
  · simp
  · simp
  · split <;> simp

@[simp] theorem State.permissions_probeDone (s : State) (l : LaneId) (r : Nat) :
    (s.probeDone l r).permissions = s.permissions := by
  simp [State.probeDone]

@[simp] theorem State.permissions_depart (s : State) (l : LaneId) (p q : List HoldEntry) (n : Nat) (f : Sending) :
    (s.depart l p q n f).permissions = s.permissions := by simp [State.depart]

@[simp] theorem State.permissions_releaseEntry (s : State) (l : LaneId) (p : List HoldEntry) (e : HoldEntry)
    (q : List HoldEntry) : (s.releaseEntry l p e q).permissions = s.permissions := by
  unfold State.releaseEntry
  rw [State.permissions_endDrain]
  split
  · simp [State.releaseFrame]
  · simp [State.releaseTrigger]

@[simp] theorem State.permissions_flushLane (s : State) (l : LaneId) :
    (s.flushLane l).permissions = s.permissions := by
  unfold State.flushLane State.endDrainByReset State.supersedeDrain State.zeroCredits State.emptyLane
  split <;> simp

@[simp] theorem permissions_flushLanes (ls : List LaneId) (s : State) :
    (flushLanes ls s).1.permissions = s.permissions := by
  induction ls generalizing s with
  | nil => rfl
  | cons l ls ih => simp [flushLanes, ih]

end Sys2Proof.Machine
end

section
/-! PROOFS. What the operations of the time path keep: LT, the limits of the rates (R2), the permissions. -/

namespace Sys2Proof.Machine

/-- LT stays, the rates stay within their limits where they were, and every lane keeps its control permission. -/
structure State.Keeps (s t : State) : Prop where
  lt : t.lt = s.lt
  rates : s.RatesBounded → t.RatesBounded
  permissions : t.permissions = s.permissions

theorem State.Keeps.refl (s : State) : s.Keeps s := ⟨rfl, id, rfl⟩

theorem State.Keeps.trans {s t u : State} (h : s.Keeps t) (k : t.Keeps u) : s.Keeps u :=
  ⟨k.lt.trans h.lt, k.rates ∘ h.rates, k.permissions.trans h.permissions⟩

/-- The rates depend on the Timebase and the Discipline Controller alone. -/
theorem State.RatesBounded.of_eq {s t : State} (h : s.RatesBounded) (hr : t.timebase.r = s.timebase.r)
    (hf : t.discipline.freq = s.discipline.freq) : t.RatesBounded := by
  unfold State.RatesBounded at *
  rwa [hr, hf]

/-- Where the Timebase, F and the permissions stay, everything of this is kept. -/
theorem State.Keeps.of_eq {s t : State} (ht : t.timebase = s.timebase)
    (hf : t.discipline.freq = s.discipline.freq) (hp : t.permissions = s.permissions) : s.Keeps t :=
  ⟨by simp [State.lt, ht], fun h => h.of_eq (by rw [ht]) hf, hp⟩

/-- An operation of a lane, a book, the journal or the evidence keeps all of it. -/
theorem State.Keeps.of_fixedPart {s t : State} (hf : t.fixedPart = s.fixedPart)
    (hp : t.permissions = s.permissions) : s.Keeps t := by
  obtain ⟨ht, -, -, hd, -⟩ := State.fixedPart_ext hf
  exact .of_eq ht (by rw [hd]) hp

/-! ### Requests -/

theorem State.popRequest_keeps (s : State) (l : LaneId) : s.Keeps (s.popRequest l) :=
  .of_eq rfl rfl (by simp)

theorem State.placeReply_keeps (s : State) (l : LaneId) (r : Reply) : s.Keeps (s.placeReply l r) :=
  .of_fixedPart (by simp) (by simp)

/-! ### The time path -/

/-- A value limited to `n` on both sides lies within it. -/
theorem clampSym_bounds (n : Nat) (v : Int) : -(n : Int) ≤ clampSym n v ∧ clampSym n v ≤ n := by
  unfold clampSym
  omega

/-- Setting the rate from F keeps LT and both limits (R2). -/
theorem State.rateToFreq_keeps (s : State) : s.Keeps s.rateToFreq :=
  ⟨rfl, fun h => ⟨clampSym_bounds Config.rateLimit _, h.2⟩, rfl⟩

theorem State.offerClock_keeps (s : State) (e : ClockEvent) (r : RefLine) (th : Option Int) :
    s.Keeps (s.offerClock e r th) := .of_fixedPart rfl rfl

theorem State.setMonitor_keeps (s : State) (r : RefLine) (m : Monitor) : s.Keeps (s.setMonitor r m) :=
  .of_eq (by simp) (by simp) (by simp)

theorem State.judgeGrade_keeps (s : State) : s.Keeps s.judgeGrade := by
  rw [State.judgeGrade_eq]
  exact .of_eq rfl rfl rfl

theorem State.switchReference_keeps (s : State) : s.Keeps s.switchReference := by
  rw [s.switchReference_eq.1]
  exact ⟨rfl, fun h => ⟨clampSym_bounds Config.rateLimit _, h.2⟩, rfl⟩

theorem State.lossOfSelected_keeps (s : State) : s.Keeps s.lossOfSelected := by
  obtain ⟨hfree, hswitch, hlocked, hother⟩ := s.lossOfSelected_cases
  by_cases free : s.discipline.state = .free
  · rw [hfree free]
    exact .refl s
  by_cases sw : s.discipline.autoSwitch = true ∧ (s.monitor s.discipline.selected.other).refState = .healthy
  · rw [hswitch free sw.1 sw.2]
    exact s.switchReference_keeps
  by_cases locked : s.discipline.state = .locked
  · rw [hlocked locked sw]
    have held : s.Keeps { s with discipline := { s.discipline with state := .holdover } } := .of_eq rfl rfl rfl
    exact (held.trans (State.rateToFreq_keeps _)).trans (State.offerClock_keeps _ _ _ _)
  · rw [hother (by cases hs : s.discipline.state <;> simp_all) sw]
    exact s.rateToFreq_keeps

theorem State.becameHealthy_keeps (s : State) (ref : RefLine) : s.Keeps (s.becameHealthy ref) := by
  unfold State.becameHealthy
  split
  · split
    · exact .of_eq rfl rfl rfl
    · exact .refl s
  · split
    · exact s.switchReference_keeps
    · exact .refl s

theorem State.refuseMarker_keeps (s : State) (ref : RefLine) (reason : RefusalReason) :
    s.Keeps (s.refuseMarker ref reason) := by
  have counted (m : Monitor) (e : EvidenceEvent) : s.Keeps ((s.setMonitor ref m).raise e) :=
    (s.setMonitor_keeps ref m).trans (.of_fixedPart rfl rfl)
  unfold State.refuseMarker
  dsimp only
  split
  · have lost (m : Monitor) (e : EvidenceEvent) (n : Monitor) :
        s.Keeps ((((s.setMonitor ref m).raise e).setMonitor ref n).offerClock .referenceLost ref) :=
      ((counted m e).trans (State.setMonitor_keeps _ _ _)).trans (State.offerClock_keeps _ _ _ _)
    split
    · exact (lost _ _ _).trans (State.lossOfSelected_keeps _)
    · exact lost _ _ _
  · exact counted _ _

/-! ### Evaluations -/

theorem State.fixUncertainty_keeps (s : State) (base mark : Nat) : s.Keeps (s.fixUncertainty base mark) :=
  .of_eq rfl rfl rfl

/-- A slew sets F and r within their limits and leaves LT alone (R2, R25). -/
theorem State.slewRate_keeps (s : State) (theta : Int) : s.Keeps (s.slewRate theta) :=
  ⟨rfl, fun _ => ⟨clampSym_bounds Config.rateLimit _, clampSym_bounds Config.freqLimit _⟩, rfl⟩

theorem State.lockAfterSlew_keeps (s : State) (theta : Int) : s.Keeps (s.lockAfterSlew theta) := by
  unfold State.lockAfterSlew
  split
  · split
    · split <;> exact .of_eq rfl rfl rfl
    · exact .of_eq rfl rfl rfl
  · split
    · exact .of_eq rfl rfl rfl
    · exact .refl s
  · exact .refl s
  · exact .refl s

theorem State.slew_keeps (s : State) (m : Marker) : s.Keeps (s.slew m) :=
  (((s.slewRate_keeps _).trans (State.fixUncertainty_keeps _ _ _)).trans (State.lockAfterSlew_keeps _ _)).trans
    (State.judgeGrade_keeps _)

/-- A deferred step corrects r within its limit and leaves LT and F alone (R2, R27). -/
theorem State.deferStep_keeps (s : State) (m : Marker) : s.Keeps (s.deferStep m) := by
  have set (d : DisciplineState) (n : Nat) (p : Bool) (r : Int) : s.Keeps { s with
      discipline := { s.discipline with state := d, lockCount := n, stepPending := p }
      timebase := s.timebase.setRate r } :=
    ⟨rfl, fun h => ⟨clampSym_bounds Config.rateLimit _, h.2⟩, rfl⟩
  have recorded := ((set .acquire 0 true (s.discipline.freq + -truncShift m.theta s.clock.gp)).trans
    (State.fixUncertainty_keeps _ (offsetBase m.theta m.grade) m.captured)).trans
      (State.offerClock_keeps _ .stepDeferred s.discipline.selected (some m.theta))
  unfold State.deferStep
  refine State.Keeps.trans ?_ (State.judgeGrade_keeps _)
  split
  · exact recorded.trans (State.offerClock_keeps _ _ _ _)
  · exact recorded

end Sys2Proof.Machine
end

section
/-! PROOFS. What a marker keeps: LT moves by a step alone, and no step is made while a book is auction-active (R26,
R27). -/

namespace Sys2Proof.Machine

/-! ### Markers -/

/-- The state with another LT. -/
def State.withLt (s : State) (lt : Nat) : State := { s with timebase := { s.timebase with lt := lt } }

@[simp] theorem State.withLt_lt (s : State) : s.withLt s.lt = s := rfl

theorem State.Keeps.withLt {s t : State} (h : s.Keeps t) (lt : Nat) : (s.withLt lt).Keeps (t.withLt lt) :=
  ⟨rfl, h.rates, h.permissions⟩

/-- All is kept, but that LT may be stepped while no book is auction-active (R26, R27). -/
def State.KeepsOrSteps (s t : State) : Prop :=
  ∃ lt, (s.withLt lt).Keeps t ∧ (s.auctionActive = true → lt = s.lt)

theorem State.Keeps.orSteps {s t : State} (h : s.Keeps t) : s.KeepsOrSteps t := ⟨s.lt, h, fun _ => rfl⟩

theorem State.KeepsOrSteps.trans_keeps {s t u : State} (h : s.KeepsOrSteps t) (k : t.Keeps u) : s.KeepsOrSteps u := by
  obtain ⟨lt, hlt, hauction⟩ := h
  exact ⟨lt, hlt.trans k, hauction⟩

/-- What comes before a step may not change a book. -/
theorem State.Keeps.trans_orSteps {s t u : State} (h : s.Keeps t) (hb : t.books = s.books) (k : t.KeepsOrSteps u) :
    s.KeepsOrSteps u := by
  obtain ⟨lt, hlt, hauction⟩ := k
  have active : t.auctionActive = s.auctionActive := by simp [State.auctionActive, State.book, hb]
  exact ⟨lt, (h.withLt lt).trans hlt, fun hs => (hauction (active.trans hs)).trans h.lt⟩

theorem State.KeepsOrSteps.rates {s t : State} (h : s.KeepsOrSteps t) (hs : s.RatesBounded) : t.RatesBounded := by
  obtain ⟨lt, hlt, -⟩ := h
  exact hlt.rates hs

theorem State.KeepsOrSteps.permissions {s t : State} (h : s.KeepsOrSteps t) : t.permissions = s.permissions := by
  obtain ⟨lt, hlt, -⟩ := h
  exact hlt.permissions

theorem State.KeepsOrSteps.lt {s t : State} (h : s.KeepsOrSteps t) (ha : s.auctionActive = true) : t.lt = s.lt := by
  obtain ⟨lt, hlt, hauction⟩ := h
  exact hlt.lt.trans (hauction ha)

/-- The clock side of a step sets LT, and sets r from F within its limit (R26). -/
theorem State.stepClock_keeps (s : State) (m : Marker) :
    (s.withLt ((s.lt : Int) - m.theta).toNat).Keeps (s.stepClock m) := by
  have entered : (s.withLt ((s.lt : Int) - m.theta).toNat).Keeps { s with
      timebase := { s.timebase with lt := ((s.lt : Int) - m.theta).toNat }
      discipline := { s.discipline with state := .acquire, lockCount := 0, stepPending := false } } := .of_eq rfl rfl rfl
  have recorded := ((entered.trans (State.rateToFreq_keeps _)).trans
    (State.fixUncertainty_keeps _ (gradeTable m.grade) (m.seconds * Config.second))).trans
      (State.offerClock_keeps _ .step s.discipline.selected (some m.theta))
  unfold State.stepClock
  refine State.Keeps.trans ?_ (State.judgeGrade_keeps _)
  split
  · exact recorded.trans (State.offerClock_keeps _ _ _ _)
  · exact recorded

/-- A step sets LT; the books, the lanes and the evidence that follow it keep it (R26). -/
theorem State.stepLt_keeps (s : State) (m : Marker) :
    (s.withLt ((s.lt : Int) - m.theta).toNat).Keeps (s.stepLt m) := by
  have reserved : s.Keeps s.reserveForStep := .of_fixedPart (by simp) (by simp)
  have clocked : (s.withLt ((s.lt : Int) - m.theta).toNat).Keeps (s.reserveForStep.stepClock m) := by
    have := s.reserveForStep.stepClock_keeps m
    rw [reserved.lt] at this
    exact (reserved.withLt _).trans this
  have books (t : State) : t.Keeps (allBooks.foldl State.bookOnStep t) := .of_fixedPart
    (foldl_preserves State.fixedPart _ State.fixedPart_bookOnStep _ _)
    (foldl_preserves State.permissions _ State.permissions_bookOnStep _ _)
  have lanes (t : State) : t.Keeps (allLanes.foldl State.laneOnStep t) := .of_fixedPart
    (foldl_preserves State.fixedPart _ State.fixedPart_laneOnStep _ _)
    (foldl_preserves State.permissions _ State.permissions_laneOnStep _ _)
  have booked (t : State) : t.Keeps (if m.theta < 0 then allBooks.foldl State.bookOnStep t else t) := by
    split
    · exact books t
    · exact .refl t
  have snapshot (t : State) (f : Bool) : t.Keeps (t.snapshotOnStep f) := .of_fixedPart (by simp) (by simp)
  unfold State.stepLt
  dsimp only
  exact ((clocked.trans (booked _)).trans (lanes _)).trans (snapshot _ _)

theorem State.evaluate_keeps (s : State) (m : Marker) : s.KeepsOrSteps (s.evaluate m) := by
  unfold State.evaluate
  split
  · exact (s.slew_keeps m).orSteps
  · split
    · exact (s.deferStep_keeps m).orSteps
    · next inactive => exact ⟨_, s.stepLt_keeps m, fun active => absurd active inactive⟩

theorem State.disciplineMarker_keeps (s : State) (m : Marker) : s.KeepsOrSteps (s.disciplineMarker m) := by
  unfold State.disciplineMarker
  split
  · exact s.evaluate_keeps m
  · exact s.evaluate_keeps m
  · exact (State.Keeps.refl s).orSteps
  · exact (State.Keeps.refl s).orSteps

/-- What an accepted marker does before the Discipline Controller handles it: the monitor, its event, and the
SOURCE_CHANGE and reference-state records (R10, R11, log 9). -/
def State.noteMarker (s : State) (ref : RefLine) (k : Marker) : State :=
  let m := s.monitor ref
  let updated := m.accepted k
  let after := m.refState.afterAccepted updated.good
  let taken := (s.setMonitor ref { updated with refState := after }).raise { kind := .markerAccepted }
  let sourced := if m.sourceChanged k then taken.offerClock .sourceChange ref (some k.theta) else taken
  match acceptanceEvent m.refState after with
  | none => sourced
  | some e => sourced.offerClock e ref

/-- An accepted marker is noted, handled where its reference is selected, and its reference may become HEALTHY (R10). -/
theorem State.acceptMarker_eq (s : State) (ref : RefLine) (k : Marker) :
    s.acceptMarker ref k =
      (let noted := s.noteMarker ref k
       let disciplined := if ref = s.discipline.selected then noted.disciplineMarker k else noted
       if (s.monitor ref).refState = .listening ∧
           (s.monitor ref).refState.afterAccepted ((s.monitor ref).accepted k).good = .healthy
       then disciplined.becameHealthy ref else disciplined) := rfl

/-- The noting of a marker touches the monitors, the records and the evidence alone. -/
theorem State.noteMarker_eq (s : State) (ref : RefLine) (k : Marker) :
    s.noteMarker ref k = { s with
      monitorA := (s.noteMarker ref k).monitorA, monitorB := (s.noteMarker ref k).monitorB
      journal := (s.noteMarker ref k).journal, evidence := (s.noteMarker ref k).evidence } := by
  unfold State.noteMarker
  dsimp only
  cases ref <;> split <;> split <;> rfl

theorem State.noteMarker_keeps (s : State) (ref : RefLine) (k : Marker) : s.Keeps (s.noteMarker ref k) := by
  rw [s.noteMarker_eq ref k]
  exact .of_eq rfl rfl rfl

@[simp] theorem State.noteMarker_books (s : State) (ref : RefLine) (k : Marker) :
    (s.noteMarker ref k).books = s.books := by rw [s.noteMarker_eq ref k]

theorem State.acceptMarker_keeps (s : State) (ref : RefLine) (k : Marker) : s.KeepsOrSteps (s.acceptMarker ref k) := by
  have noted := s.noteMarker_keeps ref k
  have disciplined : s.KeepsOrSteps
      (if ref = s.discipline.selected then (s.noteMarker ref k).disciplineMarker k else s.noteMarker ref k) := by
    split
    · exact noted.trans_orSteps (s.noteMarker_books ref k) (State.disciplineMarker_keeps _ _)
    · exact noted.orSteps
  rw [State.acceptMarker_eq]
  dsimp only
  split
  · exact disciplined.trans_keeps (State.becameHealthy_keeps _ _)
  · exact disciplined

theorem State.judgeEdge_keeps (s : State) (ref : RefLine) (a : Announcement) : s.KeepsOrSteps (s.judgeEdge ref a) := by
  have guarded : s.Keeps (s.setUnit ref s.guardUnit) := s.setMonitor_keeps _ _
  unfold State.judgeEdge
  dsimp only
  split
  · exact (guarded.trans (State.refuseMarker_keeps _ _ _)).orSteps
  · split
    · exact (guarded.trans (State.refuseMarker_keeps _ _ _)).orSteps
    · exact guarded.trans_orSteps (State.setMonitor_books _ _ _) (State.acceptMarker_keeps _ _ _)

end Sys2Proof.Machine
end

section
/-! PROOFS. The commands that are no requests keep LT, the limits of the rates and the permissions. -/

namespace Sys2Proof.Machine

/-! ### The commands of the time path -/

theorem State.validAnnouncement_keeps (s : State) (ref : RefLine) (a : Announcement) :
    s.Keeps (s.validAnnouncement ref a) := by
  unfold State.validAnnouncement
  split
  · exact s.setMonitor_keeps _ _
  · exact ((s.setMonitor_keeps _ _).trans (State.setMonitor_keeps _ _ _)).trans (State.refuseMarker_keeps _ _ _)
  · exact s.setMonitor_keeps _ _

theorem execAnnouncementReceived_keeps {ref : RefLine} {m : Bytes} {s t : State}
    (h : execAnnouncementReceived ref m s = .next t) : s.Keeps t := by
  cases h
  split
  · exact .refl s
  · split
    · exact s.setMonitor_keeps _ _
    · exact s.validAnnouncement_keeps _ _

theorem execMarkerEdge_keeps {ref : RefLine} {s t : State} (h : execMarkerEdge ref s = .next t) :
    s.KeepsOrSteps t := by
  cases h
  split
  · exact (State.Keeps.refl s).orSteps
  · split
    · exact s.judgeEdge_keeps _ _
    · exact (s.setMonitor_keeps _ _).orSteps
    · exact (s.setMonitor_keeps _ _).orSteps

theorem execArmExpiry_keeps {ref : RefLine} {s t : State} (h : execArmExpiry ref s = .next t) : s.Keeps t := by
  cases h
  split
  · split
    · exact (s.setMonitor_keeps _ _).trans (State.refuseMarker_keeps _ _ _)
    · exact .refl s
  · exact .refl s
  · exact .refl s

theorem execAnnouncementExpiry_keeps {ref : RefLine} {s t : State} (h : execAnnouncementExpiry ref s = .next t) :
    s.Keeps t := by
  cases h
  split
  · split
    · exact (s.setMonitor_keeps _ _).trans (State.refuseMarker_keeps _ _ _)
    · exact .refl s
  · exact .refl s
  · exact .refl s
  · exact .refl s

theorem execGuardExpiry_keeps {ref : RefLine} {s t : State} (h : execGuardExpiry ref s = .next t) : s.Keeps t := by
  cases h
  split
  · split
    · exact s.setMonitor_keeps _ _
    · exact .refl s
  · exact .refl s
  · exact .refl s

theorem execGrowthExpiry_keeps {s t : State} (h : execGrowthExpiry s = .next t) : s.Keeps t := by
  cases h
  split
  · exact .refl s
  · next e _ =>
    split
    · have moved : s.Keeps
          { s with uncertainty := { s.uncertainty with growthExpiry := some (e + Config.second) } } := .of_eq rfl rfl rfl
      exact moved.trans (State.judgeGrade_keeps _)
    · exact .refl s

/-! ### Lanes: links and the A port -/

theorem execALinkLost_keeps {l : LaneId} {s t : State} (h : execALinkLost l s = .next t) : s.Keeps t := by
  cases h
  split
  · exact .refl s
  · exact .of_fixedPart (by simp) (by simp)

theorem execALinkReturned_keeps {l : LaneId} {s t : State} (h : execALinkReturned l s = .next t) : s.Keeps t := by
  cases h
  split
  · exact .refl s
  · exact .of_fixedPart (by simp) (by simp)

theorem execBLinkLost_keeps {l : LaneId} {r : Bool} {s t : State} (h : execBLinkLost l r s = .next t) :
    s.Keeps t := by
  cases h
  split
  · exact .refl s
  · cases r <;> exact .of_fixedPart (by simp) (by simp)

theorem execBLinkReturned_keeps {l : LaneId} {s t : State} (h : execBLinkReturned l s = .next t) : s.Keeps t := by
  cases h
  split
  · exact .refl s
  · exact .of_fixedPart (by simp) (by simp)

theorem execStartOfFrame_keeps {l : LaneId} {s t : State} (h : execStartOfFrame l s = .next t) : s.Keeps t := by
  cases h
  split
  · exact .of_fixedPart (by simp) (by simp)
  · exact .refl s
  · exact .refl s

/-- A frame in reception that ends keeps what its handling keeps. -/
theorem State.frameEnds_keeps (s : State) (l : LaneId) (f : Bytes) (k : APortFrame) {h : Reception → State → State}
    (hf : ∀ rx t, (h rx t).fixedPart = t.fixedPart) (hp : ∀ rx t, (h rx t).permissions = t.permissions) :
    s.Keeps (s.frameEnds l f k h) :=
  .of_fixedPart (State.fixedPart_frameEnds s l f k h hf) (State.permissions_frameEnds s l f k h hp)

theorem execAFrameDiscarded_keeps {l : LaneId} {f : Bytes} {s t : State} (h : execAFrameDiscarded l f s = .next t) :
    s.Keeps t := by
  cases h
  split <;> exact s.frameEnds_keeps l f _ (by simp) (by simp)

theorem execAControlFrame_keeps {l : LaneId} {f : Bytes} {s t : State} (h : execAControlFrame l f s = .next t) :
    s.Keeps t := by
  cases h
  exact s.frameEnds_keeps l f _ (by simp) (by simp)

theorem execForeignFrame_keeps {l : LaneId} {f : Bytes} {s t : State} (h : execForeignFrame l f s = .next t) :
    s.Keeps t := by
  cases h
  exact s.frameEnds_keeps l f _ (by simp) (by simp)

theorem execEntryFrame_keeps {l : LaneId} {f : Bytes} {s t : State} (h : execEntryFrame l f s = .next t) :
    s.Keeps t := by
  cases h
  exact s.frameEnds_keeps l f _ (by simp) (by simp)

theorem execProbeReturn_keeps {l : LaneId} {f : Bytes} {s t : State} (h : execProbeReturn l f s = .next t) :
    s.Keeps t := by
  cases h
  split
  · exact .refl s
  · split
    · split <;> exact .of_fixedPart (by simp) (by simp)
    · exact .refl s

theorem execProbeTimeout_keeps {l : LaneId} {s t : State} (h : execProbeTimeout l s = .next t) : s.Keeps t := by
  cases h
  split
  · split
    · exact .of_fixedPart (by simp) (by simp)
    · exact .refl s
  · exact .refl s
  · exact .refl s

/-! ### Lanes: the B port -/

/-- A frame on the B port that ends keeps what its handling keeps. -/
theorem State.bFrameEnds_keeps (s : State) (l : LaneId) (f : Bytes) (k : BPortFrame) {h : State → State}
    (hk : s.Keeps (h s)) : s.Keeps (s.bFrameEnds l f k h) := by
  unfold State.bFrameEnds
  split
  · exact .refl s
  · split
    · exact hk
    · exact .refl s

theorem State.countLane_keeps (s : State) (l : LaneId) (f : LaneCounts → LaneCounts) : s.Keeps (s.countLane l f) :=
  .of_fixedPart (by simp) (by simp)

theorem State.countShort_keeps (s : State) (l : LaneId) : s.Keeps (s.countShort l) :=
  .of_fixedPart rfl (State.permissions_setLane _ _ _ rfl)

theorem execBFrameDiscarded_keeps {l : LaneId} {f : Bytes} {s t : State} (h : execBFrameDiscarded l f s = .next t) :
    s.Keeps t := by
  cases h
  split <;> exact s.bFrameEnds_keeps l f _ (s.countLane_keeps _ _)

theorem State.offerReport_keeps (s : State) (l : LaneId) (f : Bytes) : s.Keeps (s.offerReport l f) := by
  unfold State.offerReport
  split <;> exact .of_fixedPart (by simp) (by simp)

theorem State.offerRequest_keeps (s : State) (l : LaneId) (f : Bytes) : s.Keeps (s.offerRequest l f) := by
  unfold State.offerRequest
  dsimp only
  split
  · exact s.countLane_keeps _ _
  · split <;> exact .of_fixedPart (by simp) (by simp)

theorem State.grant_keeps (s : State) (l : LaneId) (n : Nat) : s.Keeps (s.grant l n) := by
  have noted : s.Keeps (if Config.creditMax < (s.lane l).credits + n ∧ n ≠ 0 then
      s.raise { kind := .creditExcess, lane := some l } else s) := by
    split
    · exact .of_fixedPart rfl rfl
    · exact .refl s
  unfold State.grant
  dsimp only
  split
  · exact noted
  · refine noted.trans (.of_fixedPart rfl ?_)
    refine (State.permissions_judgeWaits _ _).trans (State.permissions_setLane _ _ _ ?_)
    split <;> rfl

theorem execReportFrame_keeps {l : LaneId} {f : Bytes} {s t : State} (h : execReportFrame l f s = .next t) :
    s.Keeps t := by
  cases h
  exact s.bFrameEnds_keeps l f _ (s.offerReport_keeps _ _)

theorem execControlRequestArrival_keeps {l : LaneId} {f : Bytes} {s t : State}
    (h : execControlRequestArrival l f s = .next t) : s.Keeps t := by
  cases h
  exact s.bFrameEnds_keeps l f _ (s.offerRequest_keeps _ _)

theorem execShortControlFrame_keeps {l : LaneId} {f : Bytes} {s t : State}
    (h : execShortControlFrame l f s = .next t) : s.Keeps t := by
  cases h
  exact s.bFrameEnds_keeps l f _ (s.countShort_keeps _)

theorem execBControlDiscarded_keeps {l : LaneId} {f : Bytes} {s t : State}
    (h : execBControlDiscarded l f s = .next t) : s.Keeps t := by
  cases h
  exact s.bFrameEnds_keeps l f _ (s.countLane_keeps _ _)

theorem execCreditGrant_keeps {l : LaneId} {f : Bytes} {s t : State} (h : execCreditGrant l f s = .next t) :
    s.Keeps t := by
  cases h
  refine s.bFrameEnds_keeps l f _ ?_
  split
  · exact s.countShort_keeps _
  · exact s.grant_keeps _ _

theorem execUncrossDone_keeps {l : LaneId} {f : Bytes} {s t : State} (h : execUncrossDone l f s = .next t) :
    s.Keeps t := by
  cases h
  refine s.bFrameEnds_keeps l f _ ?_
  split
  · exact .of_eq rfl rfl rfl
  · exact .of_fixedPart (by simp) (by simp)

/-! ### Lanes: expiries and egress -/

theorem execReleaseExpiry_keeps {l : LaneId} {s t : State} (h : execReleaseExpiry l s = .next t) : s.Keeps t := by
  cases h
  split
  · exact .refl s
  · split
    · exact .of_fixedPart (by simp) (by simp)
    · exact .refl s

theorem execPlacementExpiry_keeps {l : LaneId} {b : BookId} {s t : State} (h : execPlacementExpiry l b s = .next t) :
    s.Keeps t := by
  cases h
  split
  · exact .of_fixedPart (by simp) (by simp)
  · exact .refl s

theorem execEngineEgressChoice_keeps {l : LaneId} {s t : State} (h : execEngineEgressChoice l s = .next t) :
    s.Keeps t := by
  cases h
  split
  · exact .refl s
  · split
    · exact .of_fixedPart (by simp) (by simp)
    · exact .of_fixedPart (by simp) (by simp)
    · exact .of_fixedPart rfl (State.permissions_setLane _ _ _ rfl)
    · exact .of_fixedPart rfl (State.permissions_setLane _ _ _ rfl)

theorem execGatewayEgressChoice_keeps {l : LaneId} {s t : State} (h : execGatewayEgressChoice l s = .next t) :
    s.Keeps t := by
  cases h
  dsimp only
  split
  · exact .refl s
  · split
    · exact .of_fixedPart (by simp) (by simp)
    · exact .of_fixedPart rfl (State.permissions_setLane _ _ _ rfl)
    · exact .of_fixedPart (by simp) (by simp)
    · exact .of_fixedPart (by simp) (by simp)

/-! ### Books, the exporter, the evidence -/

theorem State.takeExpiry_keeps (s : State) (p : Phase) (b : BookId) : s.Keeps (s.takeExpiry p b) :=
  .of_fixedPart (by simp) (by simp)

theorem execUncrossTimeout_keeps {b : BookId} {s t : State} (h : execUncrossTimeout b s = .next t) : s.Keeps t := by
  cases h
  split
  · exact .of_fixedPart (by simp) (by simp)
  · exact .refl s

theorem execFlushExpiry_keeps {s t : State} (h : execFlushExpiry s = .next t) : s.Keeps t := by
  cases h
  split
  · exact .refl s
  · split
    · exact .of_eq rfl rfl rfl
    · exact .refl s

theorem execSnapshotExpiry_keeps {s t : State} (h : execSnapshotExpiry s = .next t) : s.Keeps t := by
  cases h
  split
  · exact .refl s
  · split
    · exact .of_fixedPart (by simp) (by simp)
    · exact .refl s

end Sys2Proof.Machine
end

section
/-! PROOFS. The requests keep LT, the limits of the rates, and some lane with permission. -/

namespace Sys2Proof.Machine

/-! ### Requests -/

/-- The taking of a request keeps what its leaving of the queue, its judgement and the placing of its reply keep
(R186, R187). -/
theorem State.takeRequest_induct {P : State → Prop} {s : State} (row : Instr) {serve : LaneId → Bytes → State → Answer}
    (hs : P s) (pop : ∀ l, P (s.popRequest l)) (served : ∀ l p t, P t → P (serve l p t).1)
    (placed : ∀ t l r, P t → P (t.placeReply l r)) : P (s.takeRequest row serve) := by
  unfold State.takeRequest
  split
  · exact hs
  · next l frame _ =>
    dsimp only
    split
    · refine placed _ _ _ ?_
      split
      · exact pop l
      · exact served _ _ _ (pop l)
    · exact hs

/-- A request whose judgement keeps the rates and the permissions keeps them whole. -/
theorem State.takeRequest_keeps (s : State) (row : Instr) {serve : LaneId → Bytes → State → Answer}
    (h : ∀ l p t, State.Keeps t (serve l p t).1) : s.Keeps (s.takeRequest row serve) :=
  State.takeRequest_induct row (.refl s) (s.popRequest_keeps) (fun l p t ht => ht.trans (h l p t))
    fun t l r ht => ht.trans (t.placeReply_keeps l r)

theorem serveMatch_keeps (l : LaneId) (p : Bytes) (s : State) : s.Keeps (serveMatch l p s).1 := by
  unfold serveMatch
  split
  · exact .refl s
  · split
    · exact .refl s
    · dsimp only
      split
      · exact .refl s
      · split
        · exact .refl s
        · exact .of_eq rfl rfl rfl

theorem serveClass_keeps (l : LaneId) (p : Bytes) (s : State) : s.Keeps (serveClass l p s).1 := by
  unfold serveClass
  split
  · exact .refl s
  · split
    · exact .refl s
    · split
      · exact .refl s
      · exact .of_eq rfl rfl rfl

/-- A STAMPING write keeps all of it where what follows its acceptance does. -/
theorem stampingTests_keeps {known : Bool} {judge : State → Answer} {p : Bytes} {s : State}
    (h : s.Keeps (judge s).1) : s.Keeps (stampingTests known judge p s).1 := by
  unfold stampingTests
  split
  · exact .refl s
  · split
    · exact .refl s
    · split
      · exact .refl s
      · exact h

theorem stampingRange_keeps (low high v : Nat) (w : Stamping) {after : State → State}
    (h : ∀ t, State.Keeps t (after t)) (s : State) : s.Keeps (stampingRange low high v w after s).1 := by
  unfold stampingRange
  split
  · have accepted : s.Keeps (acceptStamping w s) := .of_eq rfl rfl rfl
    exact accepted.trans (h _)
  · exact .refl s

theorem serveEntryFrameType_keeps (l : LaneId) (p : Bytes) (s : State) :
    s.Keeps (serveEntryFrameType l p s).1 := by
  refine stampingTests_keeps ?_
  dsimp only
  split
  · exact .refl s
  · exact stampingRange_keeps _ _ _ _ .refl s

theorem serveClockSetting_keeps (l : LaneId) (p : Bytes) (s : State) : s.Keeps (serveClockSetting l p s).1 := by
  unfold serveClockSetting
  split
  · exact .refl s
  · split
    · exact .refl s
    · exact .of_eq rfl rfl rfl

theorem serveAutoSwitch_keeps (l : LaneId) (p : Bytes) (s : State) : s.Keeps (serveAutoSwitch l p s).1 := by
  unfold serveAutoSwitch
  split
  · exact .refl s
  · split
    · exact .refl s
    · exact .of_eq rfl rfl rfl

theorem State.afterEnable_keeps (s : State) (ref : RefLine) (on changed : Bool) :
    s.Keeps (s.afterEnable ref on changed) := by
  unfold State.afterEnable
  split
  · exact .refl s
  · split
    · exact s.offerClock_keeps _ _ _
    · dsimp only
      split
      · exact (s.offerClock_keeps _ _ _).trans (State.lossOfSelected_keeps _)
      · exact s.offerClock_keeps _ _ _

theorem serveReferenceEnable_keeps (l : LaneId) (p : Bytes) (s : State) :
    s.Keeps (serveReferenceEnable l p s).1 := by
  unfold serveReferenceEnable
  split
  · exact .refl s
  · split
    · exact .refl s
    · refine State.Keeps.trans ?_ (State.afterEnable_keeps _ _ _ _)
      exact .of_eq (by simp) (by simp) (by simp)

theorem serveExportLane_keeps (l : LaneId) (p : Bytes) (s : State) : s.Keeps (serveExportLane l p s).1 := by
  unfold serveExportLane
  split
  · exact .refl s
  · split
    · exact .refl s
    · split
      · exact .refl s
      · exact .of_eq rfl rfl rfl

theorem serveFlushInterval_keeps (l : LaneId) (p : Bytes) (s : State) : s.Keeps (serveFlushInterval l p s).1 := by
  unfold serveFlushInterval
  dsimp only
  split
  · exact .refl s
  · split
    · exact .of_eq rfl rfl rfl
    · exact .refl s

theorem serveCounter_keeps (l : LaneId) (p : Bytes) (s : State) : s.Keeps (serveCounter l p s).1 := by
  unfold serveCounter
  split
  · exact .refl s
  · split
    · exact .refl s
    · exact .of_eq rfl rfl rfl

theorem serveSnapshotPeriod_keeps (l : LaneId) (p : Bytes) (s : State) :
    s.Keeps (serveSnapshotPeriod l p s).1 := by
  unfold serveSnapshotPeriod
  split
  · exact .refl s
  · exact .of_eq rfl rfl rfl

theorem serveTableRead_keeps (l : LaneId) (p : Bytes) (s : State) : s.Keeps (serveTableRead l p s).1 := by
  unfold serveTableRead
  split
  · exact .refl s
  · split <;> exact .refl s

theorem State.judgeArm_keeps (s : State) (b : BookId) (p : Bytes) : s.Keeps (s.judgeArm b p).1 := by
  unfold State.judgeArm
  dsimp only
  split
  · exact .refl s
  · split
    · exact .refl s
    · split
      · exact .refl s
      · split
        · exact .refl s
        · exact .of_fixedPart rfl rfl

theorem serveBookArm_keeps (l : LaneId) (p : Bytes) (s : State) : s.Keeps (serveBookArm l p s).1 := by
  unfold serveBookArm
  split
  · exact .refl s
  · split
    · exact .refl s
    · exact .refl s
    · exact .refl s
    · exact .refl s
    · exact .refl s
    · exact s.judgeArm_keeps _ _
    · exact s.judgeArm_keeps _ _

theorem serveBookDisarm_keeps (l : LaneId) (p : Bytes) (s : State) : s.Keeps (serveBookDisarm l p s).1 := by
  have disarmed (b : BookId) : s.Keeps (s.disarm b).1 := .of_fixedPart rfl rfl
  unfold serveBookDisarm
  split
  · exact .refl s
  · split
    · exact disarmed _
    · split
      · exact .refl s
      · exact disarmed _
    all_goals exact .refl s

theorem State.judgeExtend_keeps (s : State) (b : BookId) (n : Nat) : s.Keeps (s.judgeExtend b n).1 := by
  unfold State.judgeExtend
  split <;> exact .of_fixedPart rfl rfl

theorem serveBookExtend_keeps (l : LaneId) (p : Bytes) (s : State) : s.Keeps (serveBookExtend l p s).1 := by
  unfold serveBookExtend
  split
  · exact .refl s
  · split
    · exact .refl s
    · exact s.judgeExtend_keeps _ _

theorem State.commandAcquire_keeps (s : State) : s.Keeps s.commandAcquire := by
  have entered : s.Keeps s.enterAcquire := by
    unfold State.enterAcquire
    dsimp only
    split
    · exact s.switchReference_keeps
    · exact .of_eq rfl rfl rfl
  unfold State.commandAcquire
  split
  · exact entered
  · exact entered
  · exact .refl s
  · exact .refl s

theorem serveAcquire_keeps (l : LaneId) (p : Bytes) (s : State) : s.Keeps (serveAcquire l p s).1 := by
  unfold serveAcquire
  split
  · exact .refl s
  · exact s.commandAcquire_keeps

theorem State.enterFree_keeps (s : State) : s.Keeps s.enterFree := by
  have freed : s.Keeps { s with
      discipline := { s.discipline with state := .free, lockCount := 0, stepPending := false }
      uncertainty := { s.uncertainty with
        evaluated := false, uBase := Config.uncertaintyMax, growthExpiry := none } } := .of_eq rfl rfl rfl
  exact ((freed.trans (State.rateToFreq_keeps _)).trans (State.offerClock_keeps _ _ _ _)).trans
    (State.judgeGrade_keeps _)

theorem serveRelease_keeps (l : LaneId) (p : Bytes) (s : State) : s.Keeps (serveRelease l p s).1 := by
  unfold serveRelease
  split
  · exact .refl s
  all_goals exact s.enterFree_keeps

theorem State.select_keeps (s : State) (ref : RefLine) : s.Keeps (s.select ref) := by
  have chosen : s.Keeps { s with discipline := s.discipline.selectNow ref } := by
    refine .of_eq rfl ?_ rfl
    unfold Discipline.selectNow
    dsimp only
    split <;> rfl
  have recorded := (chosen.trans (State.rateToFreq_keeps _)).trans (State.offerClock_keeps _ .select ref none)
  unfold State.select
  split
  · exact .refl s
  · dsimp only
    split
    · exact recorded.trans (State.offerClock_keeps _ _ _ _)
    · exact recorded

theorem State.clearMissingOf_keeps (s : State) (ref : RefLine) : s.Keeps (s.clearMissingOf ref) := by
  unfold State.clearMissingOf
  dsimp only
  split
  · exact (s.setMonitor_keeps _ _).trans (State.offerClock_keeps _ _ _ _)
  · exact s.setMonitor_keeps _ _

/-! ### Lane commands -/

theorem onCommandedLane_keeps {code : Nat} {p : Bytes} {s : State} {take : LaneId → Answer}
    (h : ∀ l, s.Keeps (take l).1) : s.Keeps (onCommandedLane code p s take).1 := by
  unfold onCommandedLane
  split
  · exact .refl s
  · split
    · exact .refl s
    · exact h _

theorem State.enterState_keeps (s : State) (l : LaneId) (st : LaneState) (e : LaneEvent) :
    s.Keeps (s.enterState l st e) := .of_fixedPart rfl (State.permissions_setLane _ _ _ rfl)

theorem State.supersedeDrain_keeps (s : State) (l : LaneId) : s.Keeps (s.supersedeDrain l) :=
  .of_fixedPart rfl (State.permissions_completeReply ..)

theorem serveEnable_keeps (l : LaneId) (p : Bytes) (s : State) : s.Keeps (serveEnable l p s).1 := by
  refine onCommandedLane_keeps fun k => ?_
  split
  · exact s.enterState_keeps _ _ _
  · exact .refl s
  · exact (s.enterState_keeps _ _ _).trans (State.supersedeDrain_keeps _ _)
  · exact .refl s

theorem serveDrain_keeps (l : LaneId) (p : Bytes) (s : State) : s.Keeps (serveDrain l p s).1 := by
  refine onCommandedLane_keeps fun k => ?_
  split
  · exact .refl s
  · unfold State.startDrain
    split <;> exact s.enterState_keeps _ _ _
  · exact .refl s
  · exact .refl s

theorem serveDisable_keeps (l : LaneId) (p : Bytes) (s : State) : s.Keeps (serveDisable l p s).1 := by
  refine onCommandedLane_keeps fun k => ?_
  split
  · exact .refl s
  · exact s.enterState_keeps _ _ _
  · exact (s.enterState_keeps _ _ _).trans (State.supersedeDrain_keeps _ _)
  · exact .refl s

theorem State.startProbing_keeps (s : State) (l : LaneId) (ret : ReturnState) :
    s.Keeps (s.startProbing l ret).1 := by
  have entered : s.Keeps (s.enterProbing l ret) := .of_fixedPart rfl (State.permissions_setLane _ _ _ rfl)
  unfold State.startProbing
  split
  · exact .refl s
  · split
    · exact entered
    · exact entered.trans (.of_fixedPart (State.fixedPart_probeFail ..) (State.permissions_probeFail ..))

theorem serveProbe_keeps (l : LaneId) (p : Bytes) (s : State) : s.Keeps (serveProbe l p s).1 := by
  refine onCommandedLane_keeps fun k => ?_
  split
  · exact s.startProbing_keeps _ _
  · exact s.startProbing_keeps _ _
  · exact .refl s
  · exact .refl s

/-! ### Journal requests and the datapath reset -/

theorem serveJournalRelease_keeps (l : LaneId) (p : Bytes) (s : State) : s.Keeps (serveJournalRelease l p s).1 := by
  unfold serveJournalRelease
  dsimp only
  split
  · exact .refl s
  · exact .of_eq rfl rfl rfl

theorem serveJournalResend_keeps (l : LaneId) (p : Bytes) (s : State) : s.Keeps (serveJournalResend l p s).1 := by
  unfold serveJournalResend
  dsimp only
  split
  · exact .of_eq rfl rfl rfl
  · exact .refl s

theorem serveDatapathReset_keeps (l : LaneId) (p : Bytes) (s : State) : s.Keeps (serveDatapathReset l p s).1 := by
  unfold serveDatapathReset
  split
  · exact .refl s
  · exact .of_fixedPart (fixedPart_flushLanes ..) (permissions_flushLanes ..)

/-! ### The LANE write, which alone changes permissions (R191) -/

/-- An accepted LANE write that takes a lane's permission finds another lane with it (R70, R191). -/
theorem serveLaneWrite_reachable (l : LaneId) (p : Bytes) (s : State) (h : s.Reachable) :
    (serveLaneWrite l p s).1.Reachable := by
  unfold serveLaneWrite
  split
  · exact h
  next k _ =>
  dsimp only
  split
  · exact h
  split
  · exact h
  split
  · exact h
  next inRange =>
  split
  · exact h
  next allowed =>
  suffices written : (s.setLane k ((s.lane k).written (laneWriteOf p))).Reachable from
    written.of_permissions ((State.permissions_installPending ..).trans (State.permissions_offerTable ..))
  have other (m : LaneId) (hm : m ≠ k) (hp : (s.lane m).permission = true) :
      (s.setLane k ((s.lane k).written (laneWriteOf p))).Reachable :=
    ⟨m, by rwa [State.lane_setLane_of_ne _ _ hm]⟩
  cases hw : (laneWriteOf p).permission with
  | none => exact h.of_permissions (State.permissions_setLane _ _ _ (by simp [LaneUnit.written, hw]))
  | some v =>
    have hv : v ≤ 1 := by simp [LaneWrite.outOfRange, hw] at inRange; omega
    by_cases on : v = 1
    · exact ⟨k, by simp [LaneUnit.written, hw, on]⟩
    · have off : v = 0 := by omega
      have elsewhere : s.otherPermission k = true := by simpa [hw, off] using allowed
      simp only [State.otherPermission, List.any_eq_true, Bool.and_eq_true, bne_iff_ne] at elsewhere
      obtain ⟨m, -, hm, hp⟩ := elsewhere
      exact other m hm hp

/-- A LANE write leaves the time path alone, accepted or not. -/
theorem serveLaneWrite_fixedPart (l : LaneId) (p : Bytes) (s : State) :
    (serveLaneWrite l p s).1.fixedPart = s.fixedPart := by
  unfold serveLaneWrite
  split
  · rfl
  dsimp only
  split
  · rfl
  split
  · rfl
  split
  · rfl
  split
  · rfl
  · simp [okWith]

/-- Where the fixed part stays, so do LT and the limits of the rates. -/
theorem execTableWriteLane_rates {s t : State} (h : execTableWriteLane s = .next t) :
    t.timebase = s.timebase ∧ t.discipline = s.discipline := by
  cases h
  refine State.takeRequest_induct (P := fun t => t.timebase = s.timebase ∧ t.discipline = s.discipline)
    .tableWriteLane ⟨rfl, rfl⟩ (fun _ => ⟨rfl, rfl⟩) (fun l p t ht => ?_) (fun t l r ht => ht)
  obtain ⟨htime, -, -, hdisc, -⟩ := State.fixedPart_ext (serveLaneWrite_fixedPart l p t)
  exact ⟨htime.trans ht.1, hdisc.trans ht.2⟩

theorem execTableWriteLane_reachable {s t : State} (hs : s.Reachable) (h : execTableWriteLane s = .next t) :
    t.Reachable := by
  cases h
  exact State.takeRequest_induct .tableWriteLane hs (fun l => hs.of_permissions (State.permissions_popRequest ..))
    serveLaneWrite_reachable fun t l r ht => ht.of_permissions (State.permissions_placeReply ..)

end Sys2Proof.Machine
end

section
/-! PROOFS. What every command keeps, and the two statements that rest on it. -/

namespace Sys2Proof.Machine

/-- A request command whose judgement keeps all of it keeps all of it. -/
theorem keeps_of_request {s t : State} {row : Instr} {serve : LaneId → Bytes → State → Answer}
    (h : (.next (s.takeRequest row serve) : Result) = .next t) (hk : ∀ l p u, State.Keeps u (serve l p u).1) :
    s.Keeps t := by
  cases h
  exact s.takeRequest_keeps row hk

/-- Every command but the reset input, a marker edge and a LANE write keeps LT, the limits of the rates, and the
permissions. -/
theorem exec_keeps {c : Instr} {s t : State} (hreset : c ≠ .powerOnReset) (hedge : ∀ ref, c ≠ .markerEdge ref)
    (hlane : c ≠ .tableWriteLane) (h : exec c s = .next t) : s.Keeps t := by
  cases c with
  | powerOnReset => exact absurd rfl hreset
  | markerEdge ref => exact absurd rfl (hedge ref)
  | tableWriteLane => exact absurd rfl hlane
  | announcementReceived ref m => exact execAnnouncementReceived_keeps h
  | armExpiry ref => exact execArmExpiry_keeps h
  | announcementExpiry ref => exact execAnnouncementExpiry_keeps h
  | guardExpiry ref => exact execGuardExpiry_keeps h
  | growthExpiry => exact execGrowthExpiry_keeps h
  | aLinkLost l => exact execALinkLost_keeps h
  | aLinkReturned l => exact execALinkReturned_keeps h
  | bLinkLost l r => exact execBLinkLost_keeps h
  | bLinkReturned l => exact execBLinkReturned_keeps h
  | startOfFrame l => exact execStartOfFrame_keeps h
  | aFrameDiscarded l f => exact execAFrameDiscarded_keeps h
  | entryFrame l f => exact execEntryFrame_keeps h
  | foreignFrame l f => exact execForeignFrame_keeps h
  | aControlFrame l f => exact execAControlFrame_keeps h
  | probeReturn l f => exact execProbeReturn_keeps h
  | probeTimeout l => exact execProbeTimeout_keeps h
  | bFrameDiscarded l f => exact execBFrameDiscarded_keeps h
  | reportFrame l f => exact execReportFrame_keeps h
  | controlRequestArrival l f => exact execControlRequestArrival_keeps h
  | shortControlFrame l f => exact execShortControlFrame_keeps h
  | bControlDiscarded l f => exact execBControlDiscarded_keeps h
  | creditGrant l f => exact execCreditGrant_keeps h
  | uncrossDone l f => exact execUncrossDone_keeps h
  | releaseExpiry l => exact execReleaseExpiry_keeps h
  | placementExpiry l b => exact execPlacementExpiry_keeps h
  | engineEgressChoice l => exact execEngineEgressChoice_keeps h
  | gatewayEgressChoice l => exact execGatewayEgressChoice_keeps h
  | tcExpiry b => cases h; exact s.takeExpiry_keeps _ b
  | twExpiry b => cases h; exact s.takeExpiry_keeps _ b
  | eExpiry b => cases h; exact s.takeExpiry_keeps _ b
  | uncrossExpiry b => cases h; exact s.takeExpiry_keeps _ b
  | uncrossTimeout b => exact execUncrossTimeout_keeps h
  | flushExpiry => exact execFlushExpiry_keeps h
  | snapshotExpiry => exact execSnapshotExpiry_keeps h
  | tableWriteMatch => exact keeps_of_request h serveMatch_keeps
  | tableWriteClass => exact keeps_of_request h serveClass_keeps
  | tableWriteH =>
    exact keeps_of_request h fun _ _ u => stampingTests_keeps (stampingRange_keeps _ _ _ _ State.judgeGrade_keeps u)
  | tableWriteL =>
    exact keeps_of_request h fun _ _ u => stampingTests_keeps (stampingRange_keeps _ _ _ _ State.judgeGrade_keeps u)
  | tableWriteDayOrigin =>
    exact keeps_of_request h fun _ _ u => stampingTests_keeps (stampingRange_keeps _ _ _ _ State.Keeps.refl u)
  | tableWriteEntryFrameType => exact keeps_of_request h serveEntryFrameType_keeps
  | tableWriteQ =>
    exact keeps_of_request h fun _ _ u => stampingTests_keeps (stampingRange_keeps _ _ _ _ State.Keeps.refl u)
  | tableWriteClockSetting => exact keeps_of_request h serveClockSetting_keeps
  | tableWriteAutoSwitch => exact keeps_of_request h serveAutoSwitch_keeps
  | tableWriteReferenceEnable => exact keeps_of_request h serveReferenceEnable_keeps
  | tableWriteExportLane => exact keeps_of_request h serveExportLane_keeps
  | tableWriteFlushInterval => exact keeps_of_request h serveFlushInterval_keeps
  | tableWriteCounter => exact keeps_of_request h serveCounter_keeps
  | tableWriteSnapshotPeriod => exact keeps_of_request h serveSnapshotPeriod_keeps
  | tableRead => exact keeps_of_request h serveTableRead_keeps
  | bookArm => exact keeps_of_request h serveBookArm_keeps
  | bookDisarm => exact keeps_of_request h serveBookDisarm_keeps
  | bookExtend => exact keeps_of_request h serveBookExtend_keeps
  | bookSeed => exact keeps_of_request h fun _ _ _ => .of_eq rfl rfl rfl
  | acquire => exact keeps_of_request h serveAcquire_keeps
  | release => exact keeps_of_request h serveRelease_keeps
  | selectA => exact keeps_of_request h fun _ _ u => u.select_keeps .a
  | selectB => exact keeps_of_request h fun _ _ u => u.select_keeps .b
  | clearMissing =>
    exact keeps_of_request h fun _ _ u => (u.clearMissingOf_keeps .a).trans (State.clearMissingOf_keeps _ .b)
  | enable => exact keeps_of_request h serveEnable_keeps
  | drain => exact keeps_of_request h serveDrain_keeps
  | disable => exact keeps_of_request h serveDisable_keeps
  | probe => exact keeps_of_request h serveProbe_keeps
  | journalRelease => exact keeps_of_request h serveJournalRelease_keeps
  | journalResend => exact keeps_of_request h serveJournalResend_keeps
  | counterRead => exact keeps_of_request h fun _ _ u => .refl u
  | counterClear => exact keeps_of_request h fun _ _ _ => .of_eq rfl rfl rfl
  | statusRead => exact keeps_of_request h fun _ _ u => .refl u
  | datapathReset => exact keeps_of_request h serveDatapathReset_keeps
  | unknownRequest => exact keeps_of_request h fun _ _ u => .refl u

/-- After power-on the rates are within their limits, and lane 0 has permission (R2, R42). -/
theorem reset_ratesBounded : State.reset.RatesBounded := ⟨by decide, by decide⟩

theorem reset_reachable : State.reset.Reachable := ⟨0, rfl⟩

theorem exec_keeps_rates {c : Instr} {s t : State} (hs : s.RatesBounded) (h : exec c s = .next t) :
    t.RatesBounded := by
  by_cases hreset : c = .powerOnReset
  · subst hreset
    cases h
    exact reset_ratesBounded.of_eq rfl rfl
  by_cases hedge : ∃ ref, c = .markerEdge ref
  · obtain ⟨ref, rfl⟩ := hedge
    exact (execMarkerEdge_keeps h).rates hs
  by_cases hlane : c = .tableWriteLane
  · subst hlane
    obtain ⟨htime, hdisc⟩ := execTableWriteLane_rates h
    exact hs.of_eq (by rw [htime]) (by rw [hdisc])
  · exact (exec_keeps hreset (fun ref hc => hedge ⟨ref, hc⟩) hlane h).rates hs

theorem exec_keeps_reachable {c : Instr} {s t : State} (hs : s.Reachable) (h : exec c s = .next t) :
    t.Reachable := by
  by_cases hreset : c = .powerOnReset
  · subst hreset
    cases h
    exact reset_reachable.of_permissions rfl
  by_cases hedge : ∃ ref, c = .markerEdge ref
  · obtain ⟨ref, rfl⟩ := hedge
    exact hs.of_permissions (execMarkerEdge_keeps h).permissions
  by_cases hlane : c = .tableWriteLane
  · subst hlane
    exact execTableWriteLane_reachable hs h
  · exact hs.of_permissions (exec_keeps hreset (fun ref hc => hedge ⟨ref, hc⟩) hlane h).permissions

/-- A step executes a command on the state with the queue's rest, or lets a nanosecond pass (log 1). -/
theorem step_cases {s t : State} (h : step s = .next t) :
    (s.pending = [] ∧ t = s.tick) ∨
      ∃ c rest, s.pending = c :: rest ∧ exec c { s with pending := rest } = .next t := by
  unfold step at h
  split at h
  next empty => cases h; exact .inl ⟨empty, rfl⟩
  next c rest hp => exact .inr ⟨c, rest, hp, h⟩

/-- Settles O54: the tick leaves r, F and the lanes alone, and every command keeps the limits of the rates and some
lane with permission. -/
theorem stepKeepsRatesAndPermission : Obligations.StepKeepsRatesAndPermission := by
  constructor
  · intro s t hs h
    rcases step_cases h with ⟨-, rfl⟩ | ⟨c, rest, -, hc⟩
    · exact hs.of_eq rfl rfl
    · refine exec_keeps_rates ?_ hc
      exact hs.of_eq rfl rfl
  · intro s t hs h
    rcases step_cases h with ⟨-, rfl⟩ | ⟨c, rest, -, hc⟩
    · exact hs.of_permissions rfl
    · refine exec_keeps_reachable ?_ hc
      exact hs.of_permissions rfl

/-- Settles O58: of all commands a marker edge alone can step LT, and it defers the step while a book is
auction-active. -/
theorem noCommandMovesLtInAuction : Obligations.NoCommandMovesLtInAuction := by
  intro s t b c hb hreset h
  by_cases hedge : ∃ ref, c = .markerEdge ref
  · obtain ⟨ref, rfl⟩ := hedge
    exact (execMarkerEdge_keeps h).lt (s.auctionActive_iff.mpr ⟨b, hb⟩)
  by_cases hlane : c = .tableWriteLane
  · subst hlane
    simp [State.lt, (execTableWriteLane_rates h).1]
  · exact (exec_keeps hreset (fun ref hc => hedge ⟨ref, hc⟩) hlane h).lt

end Sys2Proof.Machine
end

section
/-! PROOFS. The advance of LT (R1), the tick of an empty queue (log 1), and the announcements (R3, R209). -/

namespace Sys2Proof.Machine

/-! ### The advance of LT -/

/-- What an advance accumulates may be carried in two parts: the parts below a whole are carried over. -/
theorem div_add_mod_carry (a b m : Nat) : (a + b) / m = a / m + (a % m + b) / m ∧ (a + b) % m = (a % m + b) % m := by
  constructor
  · rcases Nat.eq_zero_or_pos m with rfl | hm
    · simp
    · conv_lhs => rw [← Nat.div_add_mod a m, Nat.add_assoc, Nat.mul_add_div hm]
  · simp

/-- An advance is the same whatever pieces it is cut into (log 2). -/
theorem Timebase.advance_add (t : Timebase) (a b : Nat) : t.advance (a + b) = (t.advance a).advance b := by
  unfold Timebase.advance
  generalize ((Config.second : Int) + t.r).toNat * 65536 = k
  obtain ⟨hunits, hcarry⟩ := div_add_mod_carry (k * a + t.carry) (k * b) Config.second
  have hsum : k * (a + b) + t.carry = k * a + t.carry + k * b := by ring
  have hcomm : (k * a + t.carry) % Config.second + k * b = k * b + (k * a + t.carry) % Config.second := by ring
  obtain ⟨hlt, hfrac⟩ := div_add_mod_carry (t.frac.toNat + (k * a + t.carry) / Config.second)
    ((k * b + (k * a + t.carry) % Config.second) / Config.second) 65536
  dsimp only
  rw [hsum, hunits, hcarry, hcomm, ← Nat.add_assoc t.frac.toNat, hlt, hfrac]
  simp [Nat.add_assoc]

/-- In one second of the oscillator LT advances by 10⁹ + r, and the fraction and what lies below it stay (R1). -/
theorem Timebase.advance_second (t : Timebase) (hr : -1000000000 ≤ t.r) (hc : t.carry < 1000000000) :
    t.advance 1000000000 =
      { t with lt := ((t.lt : Int) + 1000000000 + t.r).toNat, osc := t.osc + 1000000000 } := by
  unfold Timebase.advance
  simp only [Config.second, Nat.cast_ofNat]
  generalize hk : ((1000000000 : Int) + t.r).toNat = k
  have units : (k * 65536 * 1000000000 + t.carry) / 1000000000 = k * 65536 := by omega
  have carry : (k * 65536 * 1000000000 + t.carry) % 1000000000 = t.carry := by omega
  have hf := t.frac.isLt
  have lt : t.lt + (t.frac.toNat + k * 65536) / 65536 = ((t.lt : Int) + 1000000000 + t.r).toNat := by omega
  have frac : BitVec.ofNat 16 ((t.frac.toNat + k * 65536) % 65536) = t.frac :=
    BitVec.eq_of_toNat_eq (by simp only [BitVec.toNat_ofNat]; omega)
  rw [units, carry, lt, frac]

/-- Settles O3: an advance may be cut anywhere, and one of a whole second leaves nothing to carry. -/
theorem timebaseAdvancesAtScaledRate : Obligations.TimebaseAdvancesAtScaledRate :=
  fun t => ⟨t.advance_add, t.advance_second⟩

/-! ### The tick -/

theorem reached_iff (now : Nat) (o : Option Nat) : reached now o = true ↔ ∃ x, o = some x ∧ x ≤ now := by
  cases o <;> simp [reached]

/-- The call start of a book or the release expiry of a lane. -/
def isTcOrReleaseExpiry : Instr → Bool
  | .tcExpiry _ => true
  | .releaseExpiry _ => true
  | _ => false

/-- The Control Handler's taking that joins the queue is a request, never such an expiry (R187). -/
theorem requestRow_not_expiry (p : Bytes) : isTcOrReleaseExpiry (requestRow p) = false := by
  have write : isTcOrReleaseExpiry (writeRow p) = false := by
    unfold writeRow
    repeat' split
    all_goals rfl
  have clock : isTcOrReleaseExpiry (clockCommandRow p) = false := by
    unfold clockCommandRow
    split <;> rfl
  have lane : isTcOrReleaseExpiry (laneCommandRow p) = false := by
    unfold laneCommandRow
    split <;> rfl
  simp only [requestRow, apply_ite isTcOrReleaseExpiry, write, clock, lane]
  simp [isTcOrReleaseExpiry]

theorem not_mem_dueRequest (s : State) {c : Instr} (h : isTcOrReleaseExpiry c = true) : c ∉ s.dueRequest := by
  unfold State.dueRequest
  split
  · simp
  · rw [List.mem_singleton]
    rintro rfl
    simp [requestRow_not_expiry] at h

/-- The expiry that joins the queue for a book in ARMED whose Tc is reached, and for no other, is its call start (R99,
R100). -/
theorem State.tcExpiry_mem_dueOfBook (s : State) (b c : BookId) :
    Instr.tcExpiry b ∈ s.dueOfBook c ↔
      b = c ∧ ∃ a, (s.book c).phase = .armed ∧ (s.book c).arming = some a ∧ a.tc ≤ s.lt := by
  unfold State.dueOfBook
  have boundary : reached s.lt (s.book c).boundary = true ∧ (s.book c).phase = .armed ↔
      ∃ a, (s.book c).phase = .armed ∧ (s.book c).arming = some a ∧ a.tc ≤ s.lt := by
    unfold Book.boundary
    cases hp : (s.book c).phase <;> cases ha : (s.book c).arming <;> simp [reached]
  rw [← boundary]
  split
  · cases hp : (s.book c).phase <;> simp_all [boundaryRow]
  · split <;> simp_all

theorem mem_allLanes (l : LaneId) : l ∈ allLanes := by
  revert l
  decide

theorem State.tcExpiry_mem_dueCommands (s : State) (b : BookId) :
    Instr.tcExpiry b ∈ s.dueCommands ↔
      ∃ a, (s.book b).phase = .armed ∧ (s.book b).arming = some a ∧ a.tc ≤ s.lt := by
  have unit (ref : RefLine) : Instr.tcExpiry b ∉ s.dueOfUnit ref := by
    unfold State.dueOfUnit
    split <;> split <;> simp
  have growth : Instr.tcExpiry b ∉ s.dueGrowth := by unfold State.dueGrowth; split <;> simp
  have lane (l : LaneId) : Instr.tcExpiry b ∉ s.dueOfLane l := by
    unfold State.dueOfLane State.dueProbe
    simp only [List.mem_append, not_or]
    refine ⟨⟨?_, ?_⟩, by simp⟩
    · split
      · split <;> simp
      · simp
      · simp
    · split <;> simp
  have flush : Instr.tcExpiry b ∉ s.dueFlush := by unfold State.dueFlush; split <;> simp
  have request : Instr.tcExpiry b ∉ s.dueRequest := not_mem_dueRequest s rfl
  have snapshot : Instr.tcExpiry b ∉ s.dueSnapshot := by unfold State.dueSnapshot; split <;> simp
  simp only [State.dueCommands, List.mem_append, List.mem_flatMap, unit, growth, lane, flush, request, snapshot,
    State.tcExpiry_mem_dueOfBook, and_false, exists_false, or_false, false_or]
  constructor
  · rintro ⟨c, -, rfl, h⟩
    exact h
  · exact fun h => ⟨b, mem_allBooks b, rfl, h⟩

/-- The release expiry of a lane joins the queue exactly when it is reached (R130). -/
theorem State.releaseExpiry_mem_dueCommands (s : State) (l : LaneId) :
    Instr.releaseExpiry l ∈ s.dueCommands ↔ ∃ x, (s.lane l).releaseExpiry = some x ∧ x ≤ s.lt := by
  have unit (ref : RefLine) : Instr.releaseExpiry l ∉ s.dueOfUnit ref := by
    unfold State.dueOfUnit
    split <;> split <;> simp
  have growth : Instr.releaseExpiry l ∉ s.dueGrowth := by unfold State.dueGrowth; split <;> simp
  have book (b : BookId) : Instr.releaseExpiry l ∉ s.dueOfBook b := by
    unfold State.dueOfBook
    split
    · cases (s.book b).phase <;> simp [boundaryRow]
    · split <;> simp
  have lane (k : LaneId) : Instr.releaseExpiry l ∈ s.dueOfLane k ↔
      l = k ∧ reached s.lt (s.lane k).releaseExpiry = true := by
    have probe : Instr.releaseExpiry l ∉ s.dueProbe k := by
      unfold State.dueProbe
      split
      · split <;> simp
      · simp
      · simp
    simp only [State.dueOfLane, List.mem_append, probe, false_or]
    split <;> simp_all
  have flush : Instr.releaseExpiry l ∉ s.dueFlush := by unfold State.dueFlush; split <;> simp
  have request : Instr.releaseExpiry l ∉ s.dueRequest := not_mem_dueRequest s rfl
  have snapshot : Instr.releaseExpiry l ∉ s.dueSnapshot := by unfold State.dueSnapshot; split <;> simp
  simp only [State.dueCommands, List.mem_append, List.mem_flatMap, unit, growth, book, lane, flush, request, snapshot,
    and_false, exists_false, or_false, false_or, ← reached_iff]
  constructor
  · rintro ⟨k, -, rfl, h⟩
    exact h
  · exact fun h => ⟨l, mem_allLanes l, rfl, h⟩

/-- Settles O2: the tick advances the Timebase and queues what is due; the two families are read off that queue. -/
theorem emptyQueueLetsOneNanosecondPass : Obligations.EmptyQueueLetsOneNanosecondPass := by
  intro s empty
  refine ⟨s.tick, by simp [step, empty], rfl, rfl, rfl, rfl, fun b => ?_, fun l => ?_⟩
  · exact s.passNanosecond.tcExpiry_mem_dueCommands b
  · exact s.passNanosecond.releaseExpiry_mem_dueCommands l

/-! ### Announcements -/

/-- A message is valid exactly when it has the properties of R3, and it then spells these values. -/
theorem announcementOf_eq_some (m : Bytes) (a : Announcement) :
    announcementOf m = some a ↔
      (m.length = 12 ∧ field m 0 1 = Config.leadValue ∧ field m 7 1 < 8 ∧ field m 10 1 = 0 ∧ byteSum m % 256 = 0) ∧
        a.seconds = field m 1 6 ∧ a.grade.val = field m 7 1 ∧ a.source = BitVec.ofNat 16 (field m 8 2) := by
  unfold announcementOf
  obtain ⟨seconds, grade, source⟩ := a
  split
  next h => simp [h, Fin.ext_iff, eq_comm]
  next h => simp [h]

/-- The six bytes of the announced second, behind the lead byte (R200, R209). -/
theorem field_seconds (lead s5 s4 s3 s2 s1 s0 : Byte) (rest : Bytes) :
    field (lead :: s5 :: s4 :: s3 :: s2 :: s1 :: s0 :: rest) 1 6 =
      s5.toNat * 2 ^ 40 + s4.toNat * 2 ^ 32 + s3.toNat * 2 ^ 24 + s2.toNat * 2 ^ 16 + s1.toNat * 2 ^ 8 + s0.toNat := by
  simp only [field, beNat, List.drop_succ_cons, List.drop_zero, List.take_succ_cons, List.take_zero, List.foldl_cons,
    List.foldl_nil]
  ring

/-- A list of twelve bytes, byte by byte. -/
theorem eq_of_length_twelve {m : Bytes} (h : m.length = 12) :
    ∃ b0 b1 b2 b3 b4 b5 b6 b7 b8 b9 b10 b11 : Byte, m = [b0, b1, b2, b3, b4, b5, b6, b7, b8, b9, b10, b11] := by
  match m, h with
  | [b0, b1, b2, b3, b4, b5, b6, b7, b8, b9, b10, b11], _ => exact ⟨_, _, _, _, _, _, _, _, _, _, _, _, rfl⟩

/-- Settles O5: the twelve bytes of R209 are read one by one. -/
theorem announcementValidity : Obligations.AnnouncementValidity := by
  intro m a
  rw [announcementOf_eq_some]
  constructor
  · rintro ⟨⟨length, lead, -, zero, sum⟩, seconds, grade, source⟩
    obtain ⟨b0, b1, b2, b3, b4, b5, b6, b7, b8, b9, b10, b11, rfl⟩ := eq_of_length_twelve length
    have hlead : b0 = 0x5D := BitVec.eq_of_toNat_eq (by simpa [field, beNat, Config.leadValue] using lead)
    have hzero : b10 = 0 := BitVec.eq_of_toNat_eq (by simpa [field, beNat] using zero)
    subst hlead hzero
    refine ⟨b1, b2, b3, b4, b5, b6, b7, b8, b9, b11, rfl, sum, ?_, ?_, ?_⟩
    · rw [seconds, field_seconds]
    · rw [grade]
      simp [field, beNat]
    · rw [source]
      simp [field, beNat]
      omega
  · rintro ⟨s5, s4, s3, s2, s1, s0, g, i1, i0, c, rfl, sum, seconds, grade, source⟩
    refine ⟨⟨rfl, rfl, ?_, rfl, sum⟩, ?_, ?_, ?_⟩
    · simp [field, beNat, ← grade]
    · rw [seconds, field_seconds]
    · rw [grade]
      simp [field, beNat]
    · refine BitVec.eq_of_toNat_eq ?_
      rw [source]
      simp [field, beNat]
      omega

end Sys2Proof.Machine
end

section
/-! PROOFS. The reset input (R42 and the power-on rules of every chapter), and the capture unit by its state (R3 to R9). -/

namespace Sys2Proof.Machine

/-! ### Power-on -/

/-- The lanes after power-on: lane 0 alone has permission (R42). -/
theorem reset_lane (l : LaneId) : State.reset.lane l = LaneUnit.reset (l == 0) := by
  revert l
  decide

theorem reset_book (b : BookId) : State.reset.book b = Book.idle := by
  revert b
  decide

/-- Settles O4: every value is read off the state after power-on. -/
theorem resetGivesPowerOnValues : Obligations.ResetGivesPowerOnValues := by
  constructor
  · intro s
    refine ⟨_, rfl, rfl, rfl, rfl, fun ref => ?_, rfl, rfl, rfl, rfl, rfl, rfl, rfl, rfl⟩
    cases ref <;> exact ⟨rfl, ⟨_, rfl⟩, rfl, rfl, rfl, rfl, rfl⟩
  · intro s
    refine ⟨_, rfl, fun l => ?_, fun n => ?_, fun c => ?_, fun b => ?_, rfl, rfl, rfl, rfl, fun l => ?_, rfl, rfl, rfl,
      rfl, rfl, rfl, rfl, rfl, fun i => ?_, fun i => ?_, rfl, rfl, rfl⟩
    · have lane : State.lane { State.reset with pending := s.pending, freeIndex := s.freeIndex } l =
          LaneUnit.reset (l == 0) := reset_lane l
      rw [lane]
      refine ⟨rfl, rfl, rfl, rfl, rfl, rfl, rfl, ?_, rfl, rfl, rfl, rfl, rfl, rfl, rfl, rfl, rfl, rfl, rfl, rfl, rfl,
        rfl, rfl⟩
      simp [LaneUnit.reset]
    · simp [State.reset, MatchEntry.reset]
    · simp [State.reset, ClassRecord.reset]
    · have book : State.book { State.reset with pending := s.pending, freeIndex := s.freeIndex } b = Book.idle :=
        reset_book b
      rw [book]
      exact ⟨rfl, rfl, rfl, rfl, rfl, fun l => by simp [Book.trigger, Book.idle]⟩
    · simp [State.reset, Journal.reset, Journal.reservation]
    · simp [State.reset, Evidence.reset]
    · simp [State.reset, Evidence.reset]

/-- Settles O57: after power-on the queues and the ring are empty, the rates 0, and every book IDLE. -/
theorem resetMeetsInvariants : Obligations.ResetMeetsInvariants := by
  refine ⟨reset_ratesBounded, fun l => ?_, ⟨?_, ?_, ?_, ?_⟩, reset_reachable, ⟨by decide, fun _ => rfl, ?_⟩, fun l b => ?_⟩
  · rw [reset_lane]
    simp [LaneUnit.Fits, LaneUnit.reset, frameCount]
  · exact List.Pairwise.nil
  · simp [State.reset, Journal.reset]
  · exact List.nodup_nil
  · simp [State.reset, Journal.reset]
  · simp [State.reset]
  · rw [reset_lane, reset_book]
    simp [LaneUnit.reset, Book.idle, Book.trigger]

/-! ### The capture unit -/

/-- The judgement of an edge in ARMED: refused for grade 7, and in LOCKED outside the capture window; else accepted
(R6). -/
theorem State.judgeEdge_cases (s : State) (ref : RefLine) (a : Announcement) :
    (a.grade = 7 → s.judgeEdge ref a = (s.setUnit ref s.guardUnit).refuseMarker ref .gradeUnusable) ∧
    (a.grade ≠ 7 → s.discipline.state = .locked → s.clock.wc < (s.offsetOf a).natAbs →
      s.judgeEdge ref a = (s.setUnit ref s.guardUnit).refuseMarker ref .window) ∧
    (a.grade ≠ 7 → (s.discipline.state = .locked → (s.offsetOf a).natAbs ≤ s.clock.wc) →
      s.judgeEdge ref a =
        (s.setUnit ref s.guardUnit).acceptMarker ref ⟨s.lt, a.seconds, a.grade, a.source, s.offsetOf a⟩) := by
  have offset : ((s.lt : Int) - (a.seconds * Config.second : Nat)) = s.offsetOf a := rfl
  unfold State.judgeEdge
  rw [offset]
  dsimp only
  refine ⟨fun g => if_pos g, fun g locked outside => ?_, fun g inside => ?_⟩
  · rw [if_neg g, if_pos ⟨locked, outside⟩]
  · rw [if_neg g, if_neg fun ⟨locked, outside⟩ => absurd (inside locked) (by omega)]

/-- A DISABLED reference is not enabled, every other one is (R13, log 25). -/
theorem Monitor.enabled_iff (m : Monitor) : m.enabled = true ↔ m.refState ≠ .disabled := by
  simp [Monitor.enabled]

/-- A monitor set twice is set as the second time. -/
@[simp] theorem State.setMonitor_setMonitor_same (s : State) (r : RefLine) (m n : Monitor) :
    (s.setMonitor r m).setMonitor r n = s.setMonitor r n := by cases r <;> rfl

/-- A DISABLED reference ignores announcements and edges (R13). -/
theorem exec_of_disabled {ref : RefLine} {s : State} (h : (s.monitor ref).refState = .disabled) (m : Bytes) :
    exec (.announcementReceived ref m) s = .next s ∧ exec (.markerEdge ref) s = .next s := by
  have off : (!(s.monitor ref).enabled) = true := by simp [Monitor.enabled, h]
  exact ⟨congrArg Host.Outcome.next (if_pos off), congrArg Host.Outcome.next (if_pos off)⟩

/-- An enabled reference judges an announcement by its validity (R3). -/
theorem exec_announcement {ref : RefLine} {s : State} (h : (s.monitor ref).refState ≠ .disabled) (m : Bytes) :
    (announcementOf m = none → exec (.announcementReceived ref m) s = .next (s.countDiscard ref)) ∧
    (∀ a, announcementOf m = some a →
      exec (.announcementReceived ref m) s = .next (s.validAnnouncement ref a)) := by
  have on : ¬ (!(s.monitor ref).enabled) = true := by simpa using (Monitor.enabled_iff _).mpr h
  constructor
  · intro hm
    refine congrArg Host.Outcome.next ((if_neg on).trans ?_)
    rw [hm]
  · intro a hm
    refine congrArg Host.Outcome.next ((if_neg on).trans ?_)
    rw [hm]

/-- An enabled reference takes an edge by its capture unit (R5, R6, R9). -/
theorem exec_markerEdge {ref : RefLine} {s : State} (h : (s.monitor ref).refState ≠ .disabled) :
    (∀ x, (s.monitor ref).unit = .idle x → exec (.markerEdge ref) s = .next (s.countOrphan ref)) ∧
    (∀ e, (s.monitor ref).unit = .guard e → exec (.markerEdge ref) s = .next (s.countOrphan ref)) ∧
    (∀ a e, (s.monitor ref).unit = .armed a e → exec (.markerEdge ref) s = .next (s.judgeEdge ref a)) := by
  have on : ¬ (!(s.monitor ref).enabled) = true := by simpa using (Monitor.enabled_iff _).mpr h
  refine ⟨fun x hu => ?_, fun e hu => ?_, fun a e hu => ?_⟩
  · refine congrArg Host.Outcome.next ((if_neg on).trans ?_)
    rw [hu]
  · refine congrArg Host.Outcome.next ((if_neg on).trans ?_)
    rw [hu]
  · refine congrArg Host.Outcome.next ((if_neg on).trans ?_)
    rw [hu]

/-- An expiry of the capture unit that is set is taken once the oscillator has reached it (R5, R8, R9). -/
theorem exec_unitExpiry (ref : RefLine) (s : State) (e : Nat) :
    ((s.monitor ref).unit = .idle (some e) → exec (.announcementExpiry ref) s =
      .next (if e ≤ s.timebase.osc then (s.setUnit ref s.idleUnit).refuseMarker ref .noAnnouncement else s)) ∧
    (∀ a, (s.monitor ref).unit = .armed a e → exec (.armExpiry ref) s =
      .next (if e ≤ s.timebase.osc then (s.setUnit ref s.guardUnit).refuseMarker ref .noEdge else s)) ∧
    ((s.monitor ref).unit = .guard e → exec (.guardExpiry ref) s =
      .next (if e ≤ s.timebase.osc then s.setUnit ref s.idleUnit else s)) := by
  refine ⟨fun hu => congrArg Host.Outcome.next ?_, fun a hu => congrArg Host.Outcome.next ?_,
    fun hu => congrArg Host.Outcome.next ?_⟩ <;> rw [hu]

/-- A valid announcement arms in IDLE, overruns in ARMED and is discarded in GUARD (R5, R7, R9). -/
theorem State.validAnnouncement_by_unit (s : State) (ref : RefLine) (a : Announcement) :
    (∀ x, (s.monitor ref).unit = .idle x →
      s.validAnnouncement ref a = s.setUnit ref (.armed a (s.timebase.osc + Config.captureExpiry))) ∧
    (∀ b e, (s.monitor ref).unit = .armed b e →
      s.validAnnouncement ref a = ((s.setUnit ref s.guardUnit).countDiscard ref).refuseMarker ref .overrun) ∧
    (∀ e, (s.monitor ref).unit = .guard e → s.validAnnouncement ref a = s.countDiscard ref) := by
  unfold State.validAnnouncement
  refine ⟨fun x hu => ?_, fun b e hu => ?_, fun e hu => ?_⟩ <;> rw [hu]

/-- Settles O6: each clause is the case of the capture unit that its hypothesis names. -/
theorem captureUnitActsByState : Obligations.CaptureUnitActsByState := by
  refine ⟨fun ref m s a b x e => ?_, fun ref s a e x => ?_, fun ref s e a => ?_⟩
  · obtain ⟨idle, armed, guarded⟩ := s.validAnnouncement_by_unit ref a
    refine ⟨fun h => (exec_of_disabled h m).1, fun h hm => (exec_announcement h m).1 hm, fun h hm hu => ?_,
      fun h hm hu => ?_, fun h hm hu => ?_⟩ <;> rw [(exec_announcement h m).2 a hm]
    · rw [idle x hu]
      rfl
    · rw [armed b e hu]
      simp [State.setUnit, State.countDiscard, State.guardUnit, bump32, saturatingSucc, Config.count32Max,
        Config.milli]
    · rw [guarded e hu]
      rfl
  · obtain ⟨grade, window, -⟩ := s.judgeEdge_cases ref a
    refine ⟨fun h => (exec_of_disabled h []).2, fun h => ?_⟩
    obtain ⟨idle, guarded, armed⟩ := exec_markerEdge h
    refine ⟨fun hu => idle x hu, fun hu => guarded e hu, fun hu hg => ?_, fun hu hg locked outside => ?_⟩ <;>
      rw [armed a e hu]
    · rw [grade hg]
      rfl
    · rw [window hg locked outside]
      rfl
  · obtain ⟨announcement, arm, guarded⟩ := exec_unitExpiry ref s e
    refine ⟨fun due => ⟨fun hu => ?_, fun hu => ?_, fun hu => ?_⟩,
      fun early => ⟨fun hu => ?_, fun hu => ?_, fun hu => ?_⟩⟩
    · rw [announcement hu, if_pos due]
      rfl
    · rw [arm a hu, if_pos due]
      rfl
    · rw [guarded hu, if_pos due]
      rfl
    · rw [announcement hu, if_neg (by omega)]
    · rw [arm a hu, if_neg (by omega)]
    · rw [guarded hu, if_neg (by omega)]

end Sys2Proof.Machine
end

section
/-! PROOFS. Refused markers (R12) and the loss of the selected reference (R19). -/

namespace Sys2Proof.Machine

/-! ### The loss of the selected reference -/

/-- What the loss of the selected reference does to the Timebase, the Discipline Controller and the records: in FREE
nothing; else the rate is F, and it switches, holds over, or stays (R19). -/
theorem State.lossOfSelected_effect (s : State) :
    let t := s.lossOfSelected
    let switches := s.discipline.autoSwitch = true ∧ (s.monitor s.discipline.selected.other).refState = .healthy
    (s.discipline.state = .free → t = s) ∧
    (s.discipline.state ≠ .free → t.timebase = s.timebase.setRate s.discipline.freq) ∧
    (s.discipline.state ≠ .free → switches →
      t.discipline = { s.discipline with selected := s.discipline.selected.other, state := .acquire, lockCount := 0 } ∧
      t.journal.counter = s.journal.counter + if s.discipline.state = .acquire then 1 else 2) ∧
    (s.discipline.state = .locked → ¬ switches →
      t.discipline = { s.discipline with state := .holdover } ∧ t.journal.counter = s.journal.counter + 1) ∧
    (s.discipline.state ≠ .free → s.discipline.state ≠ .locked → ¬ switches →
      t.discipline = s.discipline ∧ t.journal.counter = s.journal.counter) := by
  intro t switches
  obtain ⟨hfree, hswitch, hlocked, hother⟩ := s.lossOfSelected_cases
  obtain ⟨switched, counted⟩ := s.switchReference_eq
  have held (hf : s.discipline.state ≠ .free) (hl : s.discipline.state ≠ .locked) :
      s.discipline.state = .acquire ∨ s.discipline.state = .holdover := by
    revert hf hl
    cases s.discipline.state <;> simp
  refine ⟨hfree, fun hf => ?_, fun hf sw => ?_, fun hl sw => ?_, fun hf hl sw => ?_⟩
  · by_cases sw : switches
    · rw [show t = s.switchReference from hswitch hf sw.1 sw.2, switched]
    · by_cases hl : s.discipline.state = .locked
      · rw [show t = _ from hlocked hl sw]
        rfl
      · rw [show t = _ from hother (held hf hl) sw]
        rfl
  · rw [show t = s.switchReference from hswitch hf sw.1 sw.2]
    exact ⟨by rw [switched], counted⟩
  · rw [show t = _ from hlocked hl sw]
    exact ⟨rfl, State.offerClock_counter _ _ _ _⟩
  · rw [show t = _ from hother (held hf hl) sw]
    exact ⟨rfl, rfl⟩

/-! ### Refused markers -/

/-- The missing count one higher, the consecutive-good count 0 (R12). -/
def Monitor.missed (m : Monitor) : Monitor := { m with good := 0, missing := saturatingSucc Config.count8Max m.missing }

/-- A refused marker that makes its reference LOST, before the loss is acted on (R12, R28). -/
def State.loseReference (s : State) (ref : RefLine) : State :=
  ((s.setMonitor ref { (s.monitor ref).missed with refState := .lost }).raise { kind := .markerMissing }).offerClock
    .referenceLost ref

/-- A refused marker counts; at the threshold it makes the reference LOST, and the loss of the selected one is acted
on (R12, R19). -/
theorem State.refuseMarker_cases (s : State) (ref : RefLine) (reason : RefusalReason) :
    let lost := s.clock.m ≤ min ((s.monitor ref).missing + 1) 255 ∧
      ((s.monitor ref).refState = .listening ∨ (s.monitor ref).refState = .healthy)
    (¬ lost → s.refuseMarker ref reason =
      (s.setMonitor ref (s.monitor ref).missed).raise { kind := .markerMissing }) ∧
    (lost → ref ≠ s.discipline.selected → s.refuseMarker ref reason = s.loseReference ref) ∧
    (lost → ref = s.discipline.selected → s.refuseMarker ref reason = (s.loseReference ref).lossOfSelected) := by
  intro lost
  refine ⟨fun hl => if_neg hl, fun hl hr => ?_, fun hl hr => ?_⟩
  · refine (if_pos hl).trans ((if_neg hr).trans ?_)
    cases ref <;> rfl
  · refine (if_pos hl).trans ((if_pos hr).trans (congrArg State.lossOfSelected ?_))
    cases ref <;> rfl

/-- A reference that becomes LOST changes its monitor, the records and the evidence alone. -/
theorem State.loseReference_eq (s : State) (ref : RefLine) :
    s.loseReference ref = { s with
      monitorA := (s.loseReference ref).monitorA, monitorB := (s.loseReference ref).monitorB
      journal := (s.loseReference ref).journal, evidence := (s.loseReference ref).evidence } := by
  cases ref <;> rfl

theorem State.loseReference_monitor (s : State) (ref : RefLine) :
    (s.loseReference ref).monitor ref = { (s.monitor ref).missed with refState := .lost } ∧
      (s.loseReference ref).monitor ref.other = s.monitor ref.other := by
  cases ref <;> exact ⟨rfl, rfl⟩

theorem State.loseReference_counter (s : State) (ref : RefLine) :
    (s.loseReference ref).journal.counter = s.journal.counter + 1 := by
  simp [State.loseReference]

/-- A loss leaves the monitors alone. -/
theorem State.lossOfSelected_monitor (s : State) (ref : RefLine) : s.lossOfSelected.monitor ref = s.monitor ref := by
  rw [State.lossOfSelected_eq]
  cases ref <;> rfl

/-- A refusal below the threshold changes its monitor and the evidence alone (R12). -/
theorem State.countMissed_eq (s : State) (ref : RefLine) (m : Monitor) (e : EvidenceEvent) :
    (s.setMonitor ref m).raise e = { s with
      monitorA := ((s.setMonitor ref m).raise e).monitorA, monitorB := ((s.setMonitor ref m).raise e).monitorB
      evidence := s.evidence.apply e } := by
  cases ref <;> rfl

/-- The monitor after a refusal that leaves the reference as it is, and after one that loses it (R12). -/
theorem State.refuseMarker_monitor (s : State) (ref : RefLine) (reason : RefusalReason) :
    let lost := s.clock.m ≤ min ((s.monitor ref).missing + 1) 255 ∧
      ((s.monitor ref).refState = .listening ∨ (s.monitor ref).refState = .healthy)
    (s.refuseMarker ref reason).monitor ref = { s.monitor ref with
      missing := min ((s.monitor ref).missing + 1) 255, good := 0
      refState := if lost then .lost else (s.monitor ref).refState } ∧
    (s.refuseMarker ref reason).monitor ref.other = s.monitor ref.other := by
  intro lost
  obtain ⟨counts, losesOther, losesSelected⟩ := s.refuseMarker_cases ref reason
  obtain ⟨monitor, other⟩ := s.loseReference_monitor ref
  by_cases hl : lost
  · rw [if_pos hl]
    by_cases hr : ref = s.discipline.selected
    · rw [losesSelected hl hr, State.lossOfSelected_monitor, State.lossOfSelected_monitor]
      exact ⟨monitor, other⟩
    · rw [losesOther hl hr]
      exact ⟨monitor, other⟩
  · rw [if_neg hl, counts hl]
    cases ref <;> exact ⟨rfl, rfl⟩

/-- Whatever a refused marker does, it changes the monitors, the Timebase, the discipline, the records and the evidence
alone. -/
theorem State.refuseMarker_eq (s : State) (ref : RefLine) (reason : RefusalReason) :
    let t := s.refuseMarker ref reason
    t = { s with
      monitorA := t.monitorA, monitorB := t.monitorB, timebase := t.timebase, discipline := t.discipline
      journal := t.journal, evidence := t.evidence } := by
  intro t
  obtain ⟨counts, losesOther, losesSelected⟩ := s.refuseMarker_cases ref reason
  by_cases hl : s.clock.m ≤ min ((s.monitor ref).missing + 1) 255 ∧
      ((s.monitor ref).refState = .listening ∨ (s.monitor ref).refState = .healthy)
  · by_cases hr : ref = s.discipline.selected
    · rw [show t = _ from losesSelected hl hr, State.lossOfSelected_eq, State.loseReference_eq]
    · rw [show t = _ from losesOther hl hr, State.loseReference_eq]
  · rw [show t = _ from counts hl, State.countMissed_eq]

/-- Settles O7: below the threshold a refused marker only counts; at it the reference is LOST, and the loss of the
selected one acts by the discipline state. -/
theorem refusedMarkerRule : Obligations.RefusedMarkerRule := by
  intro ref reason s k t missing lost selectedLost switches
  obtain ⟨counts, losesOther, losesSelected⟩ := s.refuseMarker_cases ref reason
  obtain ⟨monitor, other⟩ := s.refuseMarker_monitor ref reason
  have whole := s.loseReference_eq ref
  have counter := s.loseReference_counter ref
  have time : (s.loseReference ref).timebase = s.timebase := by rw [whole]
  have disc : (s.loseReference ref).discipline = s.discipline := by rw [whole]
  have acts (hs : selectedLost) : t = (s.loseReference ref).lossOfSelected := losesSelected hs.1 hs.2.1
  have rests (hl : lost) (hs : ¬ selectedLost) : t = s.loseReference ref := by
    by_cases hr : ref = s.discipline.selected
    · have free : s.discipline.state = .free := by
        by_contra hf
        exact hs ⟨hl, hr, hf⟩
      rw [show t = _ from losesSelected hl hr]
      exact (s.loseReference ref).lossOfSelected_effect.1 (by rw [disc, free])
    · exact losesOther hl hr
  have opposite (hs : selectedLost) : (s.loseReference ref).monitor s.discipline.selected.other =
      s.monitor s.discipline.selected.other := by
    rw [← hs.2.1]
    exact (s.loseReference_monitor ref).2
  obtain ⟨-, rate, switched, held, stayed⟩ := (s.loseReference ref).lossOfSelected_effect
  simp only [disc, time, counter] at rate switched held stayed
  refine ⟨monitor, other, fun hl => ?_, fun hl hs => ?_, fun hs => ?_, fun hs => ?_, fun hs sw locked => ?_,
    fun hs sw unlocked => ?_, fun hs sw => ?_, s.refuseMarker_eq ref reason⟩
  · rw [show t = _ from counts hl, State.countMissed_eq]
    exact ⟨rfl, rfl⟩
  · rw [rests hl hs, counter]
  · by_cases hl : lost
    · rw [rests hl hs]
      exact ⟨time, disc⟩
    · rw [show t = _ from counts hl, State.countMissed_eq]
      exact ⟨rfl, rfl⟩
  · rw [acts hs, rate hs.2.2]
    rfl
  · rw [acts hs]
    exact held locked (by rwa [opposite hs])
  · rw [acts hs]
    exact stayed hs.2.2 unlocked (by rwa [opposite hs])
  · obtain ⟨discipline, records⟩ := switched hs.2.2 (by rwa [opposite hs])
    rw [acts hs, discipline, records, hs.2.1]
    refine ⟨rfl, ?_⟩
    split <;> omega

end Sys2Proof.Machine
end

section
/-! PROOFS. The evaluations: slew, deferred step, and the clock side of a step, said once each (R24 to R27, R30 to
R32). -/

namespace Sys2Proof.Machine

/-! ### The grade at the marker instant -/

/-- The grade table in nanoseconds is the grade table (R29). -/
theorem gradeNs_eq (g : Fin 8) : gradeNs g = gradeTable g := by
  revert g
  decide

theorem gradeTable_le (g : Fin 8) : gradeTable g ≤ Config.uncertaintyMax := by
  revert g
  decide

/-- At the marker instant nothing has grown: U_clock is U_base (R33), and the judgement follows it (R36). -/
theorem State.judgeGrade_at_mark (s : State) (he : s.uncertainty.evaluated = true)
    (hg : s.uncertainty.growthExpiry = some (s.uncertainty.ltMark + 1)) (hlt : s.lt = s.uncertainty.ltMark)
    (hb : s.uncertainty.uBase ≤ Config.uncertaintyMax) :
    s.judgeGrade.uncertainty = { s.uncertainty with
      grade := if s.uncertainty.uBase ≤ s.stamping.l then .traceable else .degraded } := by
  have growth : s.growthLt = s.uncertainty.ltMark := by rw [State.growthLt_some hg]; omega
  have base : s.uClock = s.uncertainty.uBase := by
    simp [State.uClock, State.uClockAt, growth, he, ceilDiv, Config.second, hb]
  rw [State.judgeGrade_eq]
  simp [State.judgedGrade, he, base]

/-- The judgement leaves everything but the uncertainty and the records alone. -/
theorem State.judgeGrade_rest (s : State) :
    s.judgeGrade = { s with
      uncertainty := s.judgeGrade.uncertainty, journal := s.judgeGrade.journal, evidence := s.judgeGrade.evidence } := by
  rw [State.judgeGrade_eq]

/-! ### Slew -/

/-- The lock count and the state after a slew of offset `theta` (R17, R18). -/
def Discipline.afterSlew (d : Discipline) (tLock k : Nat) (theta : Int) : Discipline :=
  match d.state with
  | .acquire =>
    if theta.natAbs ≤ tLock then
      { d with lockCount := d.lockCount + 1, state := if k ≤ d.lockCount + 1 then .locked else .acquire }
    else { d with lockCount := 0 }
  | .locked => if 8 * tLock < theta.natAbs then { d with lockCount := 0, state := .acquire } else d
  | .free => d
  | .holdover => d

/-- The state `t` is `u` but for the records and the evidence, which the Journal and the Evidence Unit keep. -/
def State.SameButRecords (u t : State) : Prop := ∃ j e, t = { u with journal := j, evidence := e }

theorem State.SameButRecords.refl (u : State) : u.SameButRecords u := ⟨_, _, rfl⟩

theorem State.SameButRecords.trans {u t v : State} (h : u.SameButRecords t) (k : t.SameButRecords v) :
    u.SameButRecords v := by
  obtain ⟨_, _, rfl⟩ := h
  obtain ⟨_, _, rfl⟩ := k
  exact ⟨_, _, rfl⟩

theorem State.offerClock_records (s : State) (e : ClockEvent) (r : RefLine) (th : Option Int) :
    s.SameButRecords (s.offerClock e r th) := ⟨_, _, rfl⟩

/-- After a slew the discipline changes by R17 and R18, and a change of state gives a record. -/
theorem State.lockAfterSlew_records (s : State) (theta : Int) :
    ({ s with discipline := s.discipline.afterSlew s.clock.tLock s.clock.k theta } : State).SameButRecords
      (s.lockAfterSlew theta) := by
  unfold State.lockAfterSlew Discipline.afterSlew
  cases hs : s.discipline.state <;> dsimp only
  · exact .refl s
  · split
    · split
      · exact ⟨_, _, rfl⟩
      · rw [← hs]
        exact .refl _
    · rw [← hs]
      exact .refl _
  · split
    · exact ⟨_, _, rfl⟩
    · exact .refl s
  · exact .refl s

/-- An evaluation ends with the judgement at the marker instant: U_base is the uncertainty, the grade follows it, and the
growth expiry stands one nanosecond later, whatever was recorded in between (R30 to R34, R36). -/
theorem State.judged_records {w t : State} {base mark : Nat} (h : (w.fixUncertainty base mark).SameButRecords t)
    (hlt : w.lt = mark) (hb : base ≤ Config.uncertaintyMax) :
    ({ w with uncertainty :=
        ⟨base, mark, true, if base ≤ w.stamping.l then .traceable else .degraded, some (mark + 1)⟩ } : State).SameButRecords
      t.judgeGrade := by
  obtain ⟨j, e, rfl⟩ := h
  have rest := State.judgeGrade_rest { w.fixUncertainty base mark with journal := j, evidence := e }
  rw [State.judgeGrade_at_mark { w.fixUncertainty base mark with journal := j, evidence := e } rfl rfl hlt hb] at rest
  exact ⟨_, _, rest⟩

/-- A shift divides by its power of two, rounded toward zero (R25). -/
theorem truncShift_eq (v : Int) (n : Nat) : truncShift v n = v.tdiv (2 ^ n) := by simp [truncShift]

/-- F after a slew (R25). -/
def State.slewFreq (s : State) (theta : Int) : Int :=
  max (-150000) (min (s.discipline.freq - theta.tdiv (2 ^ s.clock.gi)) 150000)

/-- U_base of a slew and of a deferred step (R30, R32). -/
theorem offsetBase_eq (theta : Int) (g : Fin 8) : offsetBase theta g = min (theta.natAbs + gradeNs g) 1000000000 := by
  rw [gradeNs_eq]
  rfl

/-- A slew: F, r, the uncertainty at the capture, the lock count and the state; LT stays (R17, R18, R25, R30). -/
theorem State.slew_records (s : State) (m : Marker) (hm : m.captured = s.lt) :
    let freq := s.slewFreq m.theta
    let base := min (m.theta.natAbs + gradeNs m.grade) 1000000000
    ({ s with
      timebase := { s.timebase with r := max (-200000) (min (freq - m.theta.tdiv (2 ^ s.clock.gp)) 200000) }
      discipline :=
        ({ s.discipline with freq := freq, stepPending := false } : Discipline).afterSlew s.clock.tLock s.clock.k m.theta
      uncertainty := ⟨base, s.lt, true, if base ≤ s.stamping.l then .traceable else .degraded, some (s.lt + 1)⟩
      } : State).SameButRecords (s.slew m) := by
  intro freq base
  have rate : s.slewRate m.theta = { s with
      discipline := { s.discipline with freq := freq, stepPending := false }
      timebase := { s.timebase with r := max (-200000) (min (freq - m.theta.tdiv (2 ^ s.clock.gp)) 200000) } } := by
    simp only [State.slewRate, truncShift_eq, ← sub_eq_add_neg]
    rfl
  have locked := ((s.slewRate m.theta).fixUncertainty base s.lt).lockAfterSlew_records m.theta
  unfold State.slew
  rw [hm, offsetBase_eq]
  rw [rate] at locked ⊢
  exact State.judged_records (w := { s with
    discipline :=
      ({ s.discipline with freq := freq, stepPending := false } : Discipline).afterSlew s.clock.tLock s.clock.k m.theta
    timebase := { s.timebase with r := max (-200000) (min (freq - m.theta.tdiv (2 ^ s.clock.gp)) 200000) } })
    locked rfl (min_le_right _ _)

/-! ### Deferred step -/

/-- A deferred step: r by the whole offset, ACQUIRE, the whole offset as uncertainty; LT and F stay (R27, R32). -/
theorem State.deferStep_records (s : State) (m : Marker) (hm : m.captured = s.lt) :
    let base := min (m.theta.natAbs + gradeNs m.grade) 1000000000
    ({ s with
      timebase := { s.timebase with
        r := max (-200000) (min (s.discipline.freq - m.theta.tdiv (2 ^ s.clock.gp)) 200000) }
      discipline := { s.discipline with state := .acquire, lockCount := 0, stepPending := true }
      uncertainty := ⟨base, s.lt, true, if base ≤ s.stamping.l then .traceable else .degraded, some (s.lt + 1)⟩
      } : State).SameButRecords (s.deferStep m) := by
  intro base
  unfold State.deferStep
  dsimp only
  rw [truncShift_eq, ← sub_eq_add_neg, hm, offsetBase_eq]
  refine State.judged_records (w := { s with
    timebase := { s.timebase with
      r := max (-200000) (min (s.discipline.freq - m.theta.tdiv (2 ^ s.clock.gp)) 200000) }
    discipline := { s.discipline with state := .acquire, lockCount := 0, stepPending := true } })
    ?_ rfl (min_le_right _ _)
  split
  · exact (State.offerClock_records _ _ _ _).trans (State.offerClock_records _ _ _ _)
  · exact State.offerClock_records _ _ _ _

/-! ### The clock side of a step -/

/-- A step sets LT to the announced second and r to F, enters ACQUIRE, and leaves the reference's own error as
uncertainty (R26, R31). -/
theorem State.stepClock_records (s : State) (m : Marker) (hm : m.theta = (s.lt : Int) - (m.seconds * 1000000000 : Nat)) :
    let base := gradeNs m.grade
    let lt := m.seconds * 1000000000
    ({ s with
      timebase := { s.timebase with lt := lt, r := max (-200000) (min s.discipline.freq 200000) }
      discipline := { s.discipline with state := .acquire, lockCount := 0, stepPending := false }
      uncertainty := ⟨base, lt, true, if base ≤ s.stamping.l then .traceable else .degraded, some (lt + 1)⟩
      } : State).SameButRecords (s.stepClock m) := by
  intro base lt
  have stepped : ((s.lt : Int) - m.theta).toNat = lt := by omega
  unfold State.stepClock
  dsimp only
  rw [stepped, ← gradeNs_eq]
  refine State.judged_records (w := { s with
    timebase := { s.timebase with lt := lt, r := max (-200000) (min s.discipline.freq 200000) }
    discipline := { s.discipline with state := .acquire, lockCount := 0, stepPending := false } })
    ?_ rfl ((gradeNs_eq m.grade).trans_le (gradeTable_le _))
  split
  · exact (State.offerClock_records _ _ _ _).trans (State.offerClock_records _ _ _ _)
  · exact State.offerClock_records _ _ _ _

end Sys2Proof.Machine
end

section
/-! PROOFS. Accepted markers: what they do to their reference (R10, R11), and the slew and the deferred step as the
edge of the selected reference gives them (R24 to R27). -/

namespace Sys2Proof.Machine

/-! ### The marker of an edge -/

/-- The marker that an edge now makes of a pending announcement (R6). -/
def State.markerOf (s : State) (a : Announcement) : Marker := ⟨s.lt, a.seconds, a.grade, a.source, s.offsetOf a⟩

/-- The state once an edge was accepted and its marker noted, before the Discipline Controller handles it. -/
def State.noted (s : State) (ref : RefLine) (a : Announcement) : State :=
  (s.setUnit ref s.guardUnit).noteMarker ref (s.markerOf a)

/-- An accepted edge gives an accepted marker (R6). -/
theorem exec_of_accepts {s : State} {ref : RefLine} {a : Announcement} (h : s.Accepts ref a) :
    exec (.markerEdge ref) s = .next ((s.setUnit ref s.guardUnit).acceptMarker ref (s.markerOf a)) := by
  obtain ⟨enabled, ⟨e, armed⟩, grade, window⟩ := h
  rw [(exec_markerEdge enabled).2.2 a e armed, (s.judgeEdge_cases ref a).2.2 grade window]
  rfl

/-- The noting of an edge touches the monitors, the records and the evidence alone. -/
theorem State.noted_eq (s : State) (ref : RefLine) (a : Announcement) :
    ∃ monitorA monitorB journal evidence, s.noted ref a = { s with
      monitorA := monitorA, monitorB := monitorB, journal := journal, evidence := evidence } := by
  unfold State.noted
  rw [State.noteMarker_eq]
  cases ref <;> exact ⟨_, _, _, _, rfl⟩

/-- The monitor of the noted marker, and the other one (R10, R11). -/
theorem State.noteMarker_monitor (s : State) (ref : RefLine) (k : Marker) :
    let m := s.monitor ref
    (s.noteMarker ref k).monitor ref =
      { m.accepted k with refState := m.refState.afterAccepted (m.accepted k).good } ∧
    (s.noteMarker ref k).monitor ref.other = s.monitor ref.other := by
  unfold State.noteMarker
  dsimp only
  split <;> split <;> simp

/-! ### What an evaluation leaves alone -/

/-- What no evaluation touches: the monitors, the settings, the classification tables and the handler's own items. -/
def State.settings (s : State) :
    Monitor × Monitor × ClockSettings × Stamping × Vector MatchEntry 32 × Vector ClassRecord 16 × LaneId × List Instr :=
  (s.monitorA, s.monitorB, s.clock, s.stamping, s.matchTable, s.classTable, s.pointer, s.pending)

theorem State.settings_ext {s t : State} (h : t.settings = s.settings) :
    t.monitorA = s.monitorA ∧ t.monitorB = s.monitorB ∧ t.clock = s.clock ∧ t.stamping = s.stamping ∧
      t.matchTable = s.matchTable ∧ t.classTable = s.classTable ∧ t.pointer = s.pointer ∧ t.pending = s.pending := by
  simpa [State.settings] using h

theorem State.settings_of_fixedPart {s t : State} (h : t.fixedPart = s.fixedPart) : t.settings = s.settings := by
  obtain ⟨-, ha, hb, -, -, hc, hs, hm, ht, hp, hq⟩ := State.fixedPart_ext h
  simp [State.settings, ha, hb, hc, hs, hm, ht, hp, hq]

theorem State.SameButRecords.fixedPart {u t : State} (h : u.SameButRecords t) : t.fixedPart = u.fixedPart := by
  obtain ⟨j, e, rfl⟩ := h
  rfl

/-- After its clock side a step leaves the time path alone. -/
theorem State.stepLt_fixedPart (s : State) (m : Marker) :
    (s.stepLt m).fixedPart = (s.reserveForStep.stepClock m).fixedPart := by
  have lanes (t : State) : (allLanes.foldl State.laneOnStep t).fixedPart = t.fixedPart :=
    foldl_preserves State.fixedPart _ State.fixedPart_laneOnStep _ _
  unfold State.stepLt
  dsimp only
  rw [State.fixedPart_snapshotOnStep, lanes]
  split
  · exact foldl_preserves State.fixedPart _ State.fixedPart_bookOnStep _ _
  · rfl

/-- The clock side of a step, as the whole step leaves it (R26, R31). -/
theorem State.stepLt_clock (s : State) (m : Marker) (hm : m.theta = (s.lt : Int) - (m.seconds * 1000000000 : Nat)) :
    let base := gradeNs m.grade
    let lt := m.seconds * 1000000000
    (s.stepLt m).timebase = { s.timebase with lt := lt, r := max (-200000) (min s.discipline.freq 200000) } ∧
    (s.stepLt m).discipline = { s.discipline with state := .acquire, lockCount := 0, stepPending := false } ∧
    (s.stepLt m).uncertainty =
      ⟨base, lt, true, if base ≤ s.stamping.l then .traceable else .degraded, some (lt + 1)⟩ ∧
    (s.stepLt m).settings = s.settings := by
  intro base lt
  have reserved := State.fixedPart_reserveForStep s
  obtain ⟨rtime, -, -, rdisc, -, -, rstamping, -⟩ := State.fixedPart_ext reserved
  have rlt : s.reserveForStep.lt = s.lt := State.lt_of_fixedPart reserved
  have clocked := (s.reserveForStep.stepClock_records m (by rw [rlt]; exact hm)).fixedPart
  have whole := (s.stepLt_fixedPart m).trans clocked
  obtain ⟨time, -, -, disc, unc, -⟩ := State.fixedPart_ext whole
  have settings := State.settings_of_fixedPart reserved
  refine ⟨?_, ?_, ?_, (State.settings_of_fixedPart whole).trans settings⟩
  · rw [time, rtime, rdisc]
  · rw [disc, rdisc]
  · rw [unc, rstamping]

/-- The captured LT and the offset of a marker as an edge makes them (R6). -/
def State.Captured (s : State) (m : Marker) : Prop :=
  m.captured = s.lt ∧ m.theta = (s.lt : Int) - (m.seconds * 1000000000 : Nat)

theorem State.evaluate_settings (s : State) (m : Marker) (hm : s.Captured m) :
    (s.evaluate m).settings = s.settings := by
  obtain ⟨captured, offset⟩ := hm
  unfold State.evaluate
  split
  · obtain ⟨j, e, slewed⟩ := s.slew_records m captured
    rw [slewed]
    rfl
  · split
    · obtain ⟨j, e, deferred⟩ := s.deferStep_records m captured
      rw [deferred]
      rfl
    · exact (s.stepLt_clock m offset).2.2.2

/-! ### The selected reference in ACQUIRE or LOCKED -/

/-- A slew in ACQUIRE or LOCKED ends in one of the two and selects nothing (R17, R18). -/
theorem Discipline.afterSlew_state (d : Discipline) (tLock k : Nat) (theta : Int)
    (h : d.state = .acquire ∨ d.state = .locked) :
    (d.afterSlew tLock k theta).selected = d.selected ∧ (d.afterSlew tLock k theta).state ≠ .holdover := by
  unfold Discipline.afterSlew
  rcases h with h | h <;> rw [h] <;> dsimp only
  · split
    · exact ⟨rfl, by dsimp only; split <;> simp⟩
    · exact ⟨rfl, by simp⟩
  · split
    · exact ⟨rfl, by simp⟩
    · exact ⟨rfl, by simp [h]⟩

/-- After an evaluation the controller is in ACQUIRE or in LOCKED, and the same reference is selected. -/
theorem State.evaluate_discipline (s : State) (m : Marker) (hm : s.Captured m)
    (hs : s.discipline.state = .acquire ∨ s.discipline.state = .locked) :
    (s.evaluate m).discipline.selected = s.discipline.selected ∧ (s.evaluate m).discipline.state ≠ .holdover := by
  obtain ⟨captured, offset⟩ := hm
  unfold State.evaluate
  split
  · obtain ⟨j, e, slewed⟩ := s.slew_records m captured
    rw [slewed]
    exact Discipline.afterSlew_state _ _ _ _ hs
  · split
    · obtain ⟨j, e, deferred⟩ := s.deferStep_records m captured
      rw [deferred]
      exact ⟨rfl, by simp⟩
    · rw [(s.stepLt_clock m offset).2.1]
      exact ⟨rfl, by simp⟩

/-- The selected reference becoming HEALTHY acts in HOLDOVER alone (R20). -/
theorem State.becameHealthy_selected {s : State} {ref : RefLine} (h : s.discipline.selected = ref)
    (hs : s.discipline.state ≠ .holdover) : s.becameHealthy ref = s := by
  unfold State.becameHealthy
  rw [if_pos h.symm, if_neg hs]

theorem State.noted_captured (s : State) (ref : RefLine) (a : Announcement) :
    (s.noted ref a).Captured (s.markerOf a) := by
  obtain ⟨_, _, _, _, hn⟩ := s.noted_eq ref a
  rw [hn]
  exact ⟨rfl, rfl⟩

/-- An edge of the selected reference in ACQUIRE or LOCKED is noted and evaluated, and no more (R10, R17, R18). -/
theorem exec_of_evaluates {s : State} {a : Announcement} (h : s.Evaluates a) :
    exec (.markerEdge s.discipline.selected) s =
      .next ((s.noted s.discipline.selected a).evaluate (s.markerOf a)) := by
  obtain ⟨accepts, active⟩ := h
  have captured := s.noted_captured s.discipline.selected a
  have disc : (s.noted s.discipline.selected a).discipline = s.discipline := by
    obtain ⟨_, _, _, _, hn⟩ := s.noted_eq s.discipline.selected a
    rw [hn]
  have evaluated : (s.noted s.discipline.selected a).disciplineMarker (s.markerOf a) =
      (s.noted s.discipline.selected a).evaluate (s.markerOf a) := by
    unfold State.disciplineMarker
    rw [disc]
    rcases active with active | active <;> rw [active]
  obtain ⟨selected, state⟩ := State.evaluate_discipline _ _ captured (by rw [disc]; exact active)
  have healthy := State.becameHealthy_selected (selected.trans (by rw [disc])) state
  rw [exec_of_accepts accepts, State.acceptMarker_eq]
  have chosen : s.discipline.selected = (s.setUnit s.discipline.selected s.guardUnit).discipline.selected := by
    simp [State.setUnit]
  dsimp only
  rw [if_pos chosen]
  change Host.Outcome.next (if _ then
    ((s.noted s.discipline.selected a).disciplineMarker (s.markerOf a)).becameHealthy s.discipline.selected
      else (s.noted s.discipline.selected a).disciplineMarker (s.markerOf a)) = _
  rw [evaluated, healthy, ite_self]

/-! ### The three outcomes (R24) -/

theorem State.evaluate_of_small {s : State} {m : Marker} (h : m.theta.natAbs ≤ s.clock.s) : s.evaluate m = s.slew m :=
  if_pos h

theorem State.evaluate_of_auction {s : State} {m : Marker} (h : s.clock.s < m.theta.natAbs) {b : BookId}
    (hb : s.InAuction b) : s.evaluate m = s.deferStep m :=
  (if_neg (not_le.mpr h)).trans (if_pos (s.auctionActive_iff.mpr ⟨b, hb⟩))

theorem State.evaluate_of_large {s : State} {m : Marker} (h : s.clock.s < m.theta.natAbs)
    (hb : ∀ b, ¬ s.InAuction b) : s.evaluate m = s.stepLt m := by
  refine (if_neg (not_le.mpr h)).trans (if_neg ?_)
  rw [State.auctionActive_iff]
  rintro ⟨b, auction⟩
  exact hb b auction

/-- The lock count and the state after a slew, case by case (R17, R18). -/
theorem Discipline.afterSlew_cases (d : Discipline) (tLock k : Nat) (theta : Int) :
    let t := d.afterSlew tLock k theta
    (d.state = .acquire → theta.natAbs ≤ tLock →
      t.lockCount = d.lockCount + 1 ∧ t.state = if k ≤ d.lockCount + 1 then .locked else .acquire) ∧
    (d.state = .acquire → tLock < theta.natAbs → t.lockCount = 0 ∧ t.state = .acquire) ∧
    (d.state = .locked → 8 * tLock < theta.natAbs → t.lockCount = 0 ∧ t.state = .acquire) ∧
    (d.state = .locked → theta.natAbs ≤ 8 * tLock → t.lockCount = d.lockCount ∧ t.state = .locked) := by
  unfold Discipline.afterSlew
  refine ⟨fun hs h => ?_, fun hs h => ?_, fun hs h => ?_, fun hs h => ?_⟩ <;> simp only [hs]
  · rw [if_pos h]
    exact ⟨rfl, rfl⟩
  · rw [if_neg (not_le.mpr h)]
    exact ⟨rfl, rfl⟩
  · rw [if_pos h]
    exact ⟨rfl, rfl⟩
  · rw [if_neg (not_lt.mpr h)]
    exact ⟨rfl, hs⟩

/-- A slew keeps F, the flag, the selection and auto-switch as they were set before it judged the lock. -/
theorem Discipline.afterSlew_keeps (d : Discipline) (tLock k : Nat) (theta : Int) :
    (d.afterSlew tLock k theta).freq = d.freq ∧ (d.afterSlew tLock k theta).stepPending = d.stepPending ∧
      (d.afterSlew tLock k theta).selected = d.selected ∧ (d.afterSlew tLock k theta).autoSwitch = d.autoSwitch := by
  unfold Discipline.afterSlew
  split
  · split <;> exact ⟨rfl, rfl, rfl, rfl⟩
  · split <;> exact ⟨rfl, rfl, rfl, rfl⟩
  · exact ⟨rfl, rfl, rfl, rfl⟩
  · exact ⟨rfl, rfl, rfl, rfl⟩

/-- Settles O9: the slew as the edge gives it. -/
theorem slewCorrectsRate : Obligations.SlewCorrectsRate := by
  intro s a h small theta freq base
  have run := exec_of_evaluates h
  have captured := s.noted_captured s.discipline.selected a
  obtain ⟨mA, mB, j, e, hn⟩ := s.noted_eq s.discipline.selected a
  rw [hn] at run captured
  obtain ⟨j', e', slewed⟩ := State.slew_records _ _ captured.1
  rw [State.evaluate_of_small (by exact small), slewed] at run
  obtain ⟨kfreq, kpending, kselected, kswitch⟩ := Discipline.afterSlew_keeps
    { s.discipline with freq := freq, stepPending := false } s.clock.tLock s.clock.k theta
  obtain ⟨counts, drops, unlocks, holds⟩ := Discipline.afterSlew_cases
    { s.discipline with freq := freq, stepPending := false } s.clock.tLock s.clock.k theta
  exact ⟨_, run, rfl, kfreq, kpending, kselected, kswitch, rfl, counts, drops, unlocks, holds, rfl⟩

/-- Settles O11: the deferred step as the edge gives it. -/
theorem largeOffsetIsDeferredInAuction : Obligations.LargeOffsetIsDeferredInAuction := by
  intro s a b h large auction theta base
  have run := exec_of_evaluates h
  have captured := s.noted_captured s.discipline.selected a
  obtain ⟨mA, mB, j, e, hn⟩ := s.noted_eq s.discipline.selected a
  rw [hn] at run captured
  obtain ⟨j', e', deferred⟩ := State.deferStep_records _ _ captured.1
  rw [State.evaluate_of_auction (by exact large) (b := b) (by exact auction), deferred] at run
  exact ⟨_, run, rfl, rfl, rfl, rfl⟩

end Sys2Proof.Machine
end

section
/-! PROOFS. What an accepted marker does to its reference, and when it drives nothing (R10, R11, R16, R19, R20). -/

namespace Sys2Proof.Machine

/-- A marker changes the source when the last accepted one had another (R11). -/
theorem Monitor.sourceChanged_iff (m : Monitor) (k : Marker) :
    m.sourceChanged k = true ↔ ∃ p, m.last = some p ∧ p.source ≠ k.source := by
  unfold Monitor.sourceChanged
  cases m.last <;> simp

/-- The selected gone, as the operations test it (R19). -/
theorem RefState.gone_iff (r : RefState) : r.gone = true ↔ r = .lost ∨ r = .disabled := by
  cases r <;> simp [RefState.gone]

/-- The monitor of an accepted edge (R6, R10, R11). -/
theorem State.noted_monitor (s : State) (ref : RefLine) (a : Announcement) :
    let k := s.monitor ref
    let good := (k.accepted (s.markerOf a)).good
    (s.noted ref a).monitor ref = { k with
      unit := s.guardUnit, last := some (s.markerOf a), missing := 0, good := good
      refState := k.refState.afterAccepted good } ∧
    (s.noted ref a).monitor ref.other = s.monitor ref.other := by
  obtain ⟨own, other⟩ := (s.setUnit ref s.guardUnit).noteMarker_monitor ref (s.markerOf a)
  have unit : (s.setUnit ref s.guardUnit).monitor ref = { s.monitor ref with unit := s.guardUnit } := by
    simp [State.setUnit]
  rw [unit] at own
  exact ⟨own, other.trans (State.monitor_setMonitor_other _ _ _)⟩

/-- What becomes of the clock when a reference becomes HEALTHY: HOLDOVER re-acquires with the selected one (R20), the
later switch is made to the other one (R19). -/
theorem State.becameHealthy_cases (s : State) (ref : RefLine) :
    let switches := s.discipline.autoSwitch = true ∧
      (s.discipline.state = .acquire ∨ s.discipline.state = .holdover) ∧
      ((s.monitor s.discipline.selected).refState = .lost ∨ (s.monitor s.discipline.selected).refState = .disabled)
    (ref = s.discipline.selected → s.discipline.state = .holdover →
      ({ s with discipline := { s.discipline with state := .acquire, lockCount := 0 } } : State).SameButRecords
        (s.becameHealthy ref)) ∧
    (ref = s.discipline.selected → s.discipline.state ≠ .holdover → s.becameHealthy ref = s) ∧
    (ref ≠ s.discipline.selected → switches →
      ({ s with
        timebase := s.timebase.setRate s.discipline.freq
        discipline := { s.discipline with state := .acquire, lockCount := 0, selected := ref } } : State).SameButRecords
        (s.becameHealthy ref)) ∧
    (ref ≠ s.discipline.selected → ¬ switches → s.becameHealthy ref = s) := by
  intro switches
  have tested : (s.discipline.autoSwitch && (s.discipline.state == .acquire || s.discipline.state == .holdover)
      && (s.monitor s.discipline.selected).refState.gone) = true ↔ switches := by
    simp [switches, RefState.gone_iff, and_assoc]
  unfold State.becameHealthy
  refine ⟨fun hr hs => ?_, fun hr hs => ?_, fun hr sw => ?_, fun hr sw => ?_⟩
  · rw [if_pos hr, if_pos hs]
    exact ⟨_, _, rfl⟩
  · rw [if_pos hr, if_neg hs]
  · have target : s.discipline.selected.other = ref := by
      revert hr
      cases ref <;> cases s.discipline.selected <;> simp [RefLine.other]
    rw [if_neg hr, if_pos (tested.mpr sw), s.switchReference_eq.1, target]
    exact ⟨_, _, rfl⟩
  · rw [if_neg hr, if_neg (mt tested.mp sw)]

/-- In FREE and in HOLDOVER the Discipline Controller drops a marker (R15, R16, R20). -/
theorem State.disciplineMarker_inactive {s : State} {m : Marker}
    (h : ¬ (s.discipline.state = .acquire ∨ s.discipline.state = .locked)) : s.disciplineMarker m = s := by
  unfold State.disciplineMarker
  split
  · next hs => exact absurd (.inl hs) h
  · next hs => exact absurd (.inr hs) h
  · rfl
  · rfl

/-- An accepted edge is noted; in ACQUIRE and LOCKED that of the selected reference is evaluated, and else nothing
follows but what the reference's becoming HEALTHY causes (R10, R15, R16, R20). -/
theorem exec_of_accepts_cases {s : State} {ref : RefLine} {a : Announcement} (h : s.Accepts ref a) :
    let good := ((s.monitor ref).accepted (s.markerOf a)).good
    let evaluated := ref = s.discipline.selected ∧ (s.discipline.state = .acquire ∨ s.discipline.state = .locked)
    let becomesHealthy := (s.monitor ref).refState = .listening ∧ 3 ≤ good
    (evaluated → exec (.markerEdge ref) s = .next ((s.noted ref a).evaluate (s.markerOf a))) ∧
    (¬ evaluated → becomesHealthy → exec (.markerEdge ref) s = .next ((s.noted ref a).becameHealthy ref)) ∧
    (¬ evaluated → ¬ becomesHealthy → exec (.markerEdge ref) s = .next (s.noted ref a)) := by
  intro good evaluated becomesHealthy
  have dropped (he : ¬ evaluated) : (if ref = (s.setUnit ref s.guardUnit).discipline.selected then
      (s.noted ref a).disciplineMarker (s.markerOf a) else s.noted ref a) = s.noted ref a := by
    split
    · next hr =>
      have hr' : ref = s.discipline.selected := hr.trans (by simp [State.setUnit])
      have inactive : ¬ (s.discipline.state = .acquire ∨ s.discipline.state = .locked) := fun hs => he ⟨hr', hs⟩
      obtain ⟨_, _, _, _, hn⟩ := s.noted_eq ref a
      exact State.disciplineMarker_inactive (by rw [hn]; exact inactive)
    · rfl
  have healthy : ((s.setUnit ref s.guardUnit).monitor ref).refState = .listening ∧
      ((s.setUnit ref s.guardUnit).monitor ref).refState.afterAccepted
        (((s.setUnit ref s.guardUnit).monitor ref).accepted (s.markerOf a)).good = .healthy ↔ becomesHealthy := by
    have unit : (s.setUnit ref s.guardUnit).monitor ref = { s.monitor ref with unit := s.guardUnit } := by
      simp [State.setUnit]
    rw [unit]
    refine and_congr_right fun hl => ?_
    dsimp only at hl ⊢
    rw [hl]
    show (if 3 ≤ good then RefState.healthy else .listening) = .healthy ↔ _
    by_cases three : 3 ≤ good
    · rw [if_pos three]
      exact iff_of_true rfl three
    · rw [if_neg three]
      exact iff_of_false (by decide) three
  have accepted := exec_of_accepts h
  rw [State.acceptMarker_eq] at accepted
  refine ⟨fun he => ?_, fun he hh => ?_, fun he hh => ?_⟩
  · obtain ⟨rfl, active⟩ := he
    exact exec_of_evaluates ⟨h, active⟩
  · exact accepted.trans (congrArg Host.Outcome.next ((if_pos (healthy.mpr hh)).trans
      (congrArg (State.becameHealthy · ref) (dropped he))))
  · exact accepted.trans (congrArg Host.Outcome.next ((if_neg (mt healthy.mp hh)).trans (dropped he)))

/-- Where an accepted edge is not evaluated, the Timebase and the discipline change only as the reference's becoming
HEALTHY makes them (R19, R20). -/
theorem exec_of_accepts_unevaluated {s : State} {ref : RefLine} {a : Announcement} (h : s.Accepts ref a)
    (he : ¬ (ref = s.discipline.selected ∧ (s.discipline.state = .acquire ∨ s.discipline.state = .locked))) :
    let good := ((s.monitor ref).accepted (s.markerOf a)).good
    let becomesHealthy := (s.monitor ref).refState = .listening ∧ 3 ≤ good
    let switches := becomesHealthy ∧ ref ≠ s.discipline.selected ∧ s.discipline.autoSwitch = true ∧
      (s.discipline.state = .acquire ∨ s.discipline.state = .holdover) ∧
      ((s.monitor s.discipline.selected).refState = .lost ∨ (s.monitor s.discipline.selected).refState = .disabled)
    let reacquires := becomesHealthy ∧ ref = s.discipline.selected ∧ s.discipline.state = .holdover
    ∃ t time disc, exec (.markerEdge ref) s = .next t ∧
      ({ s.noted ref a with timebase := time, discipline := disc } : State).SameButRecords t ∧
      (switches → time = s.timebase.setRate s.discipline.freq ∧
        disc = { s.discipline with state := .acquire, lockCount := 0, selected := ref }) ∧
      (reacquires → time = s.timebase ∧ disc = { s.discipline with state := .acquire, lockCount := 0 }) ∧
      (¬ switches → ¬ reacquires → time = s.timebase ∧ disc = s.discipline) := by
  intro good becomesHealthy switches reacquires
  obtain ⟨-, healthy, unhealthy⟩ := exec_of_accepts_cases h
  obtain ⟨mA, mB, j, e, hn⟩ := s.noted_eq ref a
  have other (hr : ref ≠ s.discipline.selected) :
      (s.noted ref a).monitor s.discipline.selected = s.monitor s.discipline.selected := by
    have opposite : s.discipline.selected = ref.other := by
      revert hr
      cases ref <;> cases s.discipline.selected <;> simp [RefLine.other]
    rw [opposite]
    exact (s.noted_monitor ref a).2
  rw [hn] at healthy unhealthy other ⊢
  by_cases hh : becomesHealthy
  · have run := healthy he hh
    obtain ⟨reacquire, keep, switch, stay⟩ := State.becameHealthy_cases
      { s with monitorA := mA, monitorB := mB, journal := j, evidence := e } ref
    by_cases hr : ref = s.discipline.selected
    · have nsw : ¬ switches := fun sw => sw.2.1 hr
      by_cases hs : s.discipline.state = .holdover
      · exact ⟨_, _, _, run, reacquire hr hs, fun sw => absurd sw nsw, fun _ => ⟨rfl, rfl⟩,
          fun _ nre => absurd ⟨hh, hr, hs⟩ nre⟩
      · rw [keep hr hs] at run
        exact ⟨_, _, _, run, .refl _, fun sw => absurd sw nsw, fun re => absurd re.2.2 hs, fun _ _ => ⟨rfl, rfl⟩⟩
    · have nre : ¬ reacquires := fun re => hr re.2.1
      by_cases sw : switches
      · obtain ⟨-, -, auto, state, gone⟩ := sw
        exact ⟨_, _, _, run, switch hr ⟨auto, state, by rw [other hr]; exact gone⟩, fun _ => ⟨rfl, rfl⟩,
          fun re => absurd re nre, fun nsw _ => absurd ⟨hh, hr, auto, state, gone⟩ nsw⟩
      · rw [stay hr fun ⟨auto, state, gone⟩ =>
          sw ⟨hh, hr, auto, state, by rw [← other hr]; exact gone⟩] at run
        exact ⟨_, _, _, run, .refl _, fun h => absurd h sw, fun re => absurd re nre, fun _ _ => ⟨rfl, rfl⟩⟩
  · exact ⟨_, _, _, unhealthy he hh, .refl _, fun sw => absurd sw.1 hh, fun re => absurd re.1 hh,
      fun _ _ => ⟨rfl, rfl⟩⟩

/-- What an edge leaves in the monitors and leaves alone elsewhere, where it touches no settings after its noting. -/
theorem State.settings_of_noted {s t : State} {ref : RefLine} {a : Announcement}
    (h : t.settings = (s.noted ref a).settings) :
    t.monitor ref = (s.noted ref a).monitor ref ∧ t.monitor ref.other = s.monitor ref.other ∧
      t.clock = s.clock ∧ t.stamping = s.stamping ∧ t.matchTable = s.matchTable ∧ t.classTable = s.classTable ∧
      t.pointer = s.pointer ∧ t.pending = s.pending := by
  obtain ⟨ha, hb, hc, hs, hm, ht, hp, hq⟩ := State.settings_ext h
  have monitors (r : RefLine) : t.monitor r = (s.noted ref a).monitor r := by cases r <;> assumption
  obtain ⟨_, _, _, _, hn⟩ := s.noted_eq ref a
  refine ⟨monitors ref, (monitors ref.other).trans (s.noted_monitor ref a).2, ?_, ?_, ?_, ?_, ?_, ?_⟩
  · rw [hc, hn]
  · rw [hs, hn]
  · rw [hm, hn]
  · rw [ht, hn]
  · rw [hp, hn]
  · rw [hq, hn]

/-- Settles O8: the edge is noted; what follows it leaves the monitors alone. -/
theorem acceptedMarkerUpdatesReference : Obligations.AcceptedMarkerUpdatesReference := by
  intro ref s a h k good becomesHealthy switches evaluated
  have goodEq : (k.accepted (s.markerOf a)).good = good := by
    have source := k.sourceChanged_iff (s.markerOf a)
    show (if k.sourceChanged (s.markerOf a) then 1 else min (k.good + 1) 255) = good
    simp only [source, good]
    rfl
  have noted : (s.noted ref a).monitor ref = { k with
      unit := .guard (s.timebase.osc + s.clock.guardMs * 1000000)
      last := some ⟨s.lt, a.seconds, a.grade, a.source, s.offsetOf a⟩
      missing := 0
      good := good
      refState := match k.refState with
        | .lost => .listening
        | .listening => if 3 ≤ good then .healthy else .listening
        | r => r } := by
    rw [(s.noted_monitor ref a).1, goodEq]
    show Monitor.mk _ _ _ _ _ _ _ = Monitor.mk _ _ _ _ _ _ _
    congr 1
    cases k.refState <;> rfl
  by_cases he : evaluated
  · obtain ⟨own, other, clock, stamping, tables, classes, pointer, pending⟩ := State.settings_of_noted
      (State.evaluate_settings _ _ (s.noted_captured ref a))
    have active := he.2
    exact ⟨_, (exec_of_accepts_cases h).1 he, own.trans noted, other, clock, stamping, tables, classes, pointer,
      pending, fun hne => absurd he hne, fun hne => absurd he hne, fun free => by simp [free] at active,
      fun held => by simp [held] at active, fun hr => absurd he.1 hr, fun sw => absurd he.1 sw.2.1⟩
  · obtain ⟨t, time, disc, run, same, hsw, hre, hstay⟩ := exec_of_accepts_unevaluated h he
    rw [goodEq] at hsw hre hstay
    obtain ⟨own, other, clock, stamping, tables, classes, pointer, pending⟩ := State.settings_of_noted (t := t)
      (by obtain ⟨_, _, rfl⟩ := same; rfl)
    obtain ⟨_, _, _, _, hn⟩ := s.noted_eq ref a
    obtain ⟨_, _, rfl⟩ := same
    refine ⟨_, run, own.trans noted, other, clock, stamping, tables, classes, pointer, pending,
      fun _ => ?_, fun _ nsw => ?_, fun free => ?_, fun held hr => ?_, fun hr nsw => ?_, fun sw => (hsw sw).symm⟩
    · rw [hn]
      exact ⟨rfl, rfl, rfl, rfl⟩
    · by_cases re : becomesHealthy ∧ ref = s.discipline.selected ∧ s.discipline.state = .holdover
      · exact (hre re).1
      · exact (hstay nsw re).1
    · refine (hstay (fun sw => ?_) fun re => ?_).2
      · simp [free] at sw
      · simp [free] at re
    · by_cases hb : becomesHealthy
      · rw [if_pos hb]
        exact (hre ⟨hb, hr, held⟩).2
      · rw [if_neg hb]
        exact (hstay (fun sw => sw.2.1 hr) fun re => hb re.1).2
    · exact (hstay nsw fun re => hr re.2.1).2

end Sys2Proof.Machine
end

section
/-! PROOFS. The writes of the CLOCK table (R13, R23, R190). -/

namespace Sys2Proof.Machine

/-! ### Which row a CLOCK write belongs to (log 4) -/

/-- The rows of the numeric settings and of auto-switch. -/
def isClockWriteRow : Instr → Bool
  | .tableWriteClockSetting => true
  | .tableWriteAutoSwitch => true
  | _ => false

/-- A request of one of those rows is a TABLE_WRITE of that row. -/
theorem requestRow_eq_writeRow {p : Bytes} (h : isClockWriteRow (requestRow p) = true) :
    requestRow p = writeRow p := by
  have clock : isClockWriteRow (clockCommandRow p) = false := by
    unfold clockCommandRow
    split <;> rfl
  have lane : isClockWriteRow (laneCommandRow p) = false := by
    unfold laneCommandRow
    split <;> rfl
  by_cases hk : reqKind p = kindTableWrite
  · exact if_pos hk
  · simp only [requestRow, if_neg hk, apply_ite isClockWriteRow, clock, lane] at h
    simp [isClockWriteRow] at h

/-- Setting code 9 is auto-switch; a numeric setting's row never has it (R190, R203). -/
theorem settingCode_of_writeRow (p : Bytes) :
    (writeRow p = .tableWriteAutoSwitch → settingCode p = 9) ∧
      (writeRow p = .tableWriteClockSetting → settingCode p ≠ 9) := by
  unfold writeRow
  split
  · simp
  · simp
  · simp
  · split <;> simp
  · split <;> simp_all
  · split <;> simp
  · split <;> simp
  · simp

/-! ### Numeric settings and auto-switch -/

/-- Each numeric setting has a range with its ends in order; no other code has one (R23). -/
theorem clockRange_eq_none {code : Nat} (h : code < 1 ∨ 8 < code) : clockRange code = none := by
  unfold clockRange
  split
  case h_9 => rfl
  all_goals omega

/-- The answer to a write of a numeric setting: the settings after it and the value set, beside the value asked for. -/
def clockSettingAnswer (s : State) (asked set : Nat) (clock : ClockSettings) : Answer :=
  let written : State := { s with clock }
  (written.offerTable .clock 0 written.clockContent,
    .completed (if set = asked then .ok else .okClamped) written.clockReply)

/-- A write of a numeric setting limits the value to the range of its code (R190). -/
theorem serveClockSetting_of_range {l : LaneId} {p : Bytes} {s : State} {low high : Nat} (hi : reqIndex p = 0)
    (hr : clockRange (settingCode p) = some (low, high)) :
    serveClockSetting l p s = clockSettingAnswer s (settingValue p) (clampRange low high (settingValue p))
      (s.clock.write (settingCode p) (clampRange low high (settingValue p))) := by
  unfold serveClockSetting
  rw [if_neg (not_not.mpr hi), hr]
  rfl

theorem clampRange_cases {low high : Nat} (h : low ≤ high) (v : Nat) :
    (v < low → clampRange low high v = low) ∧ (low ≤ v → v ≤ high → clampRange low high v = v) ∧
      (high < v → clampRange low high v = high) := by
  unfold clampRange
  omega

/-- A served request ends as its row's judgement answers it (R186, R187). -/
theorem exec_of_serves {s : State} {row : Instr} {l : LaneId} {p : Bytes} {serve : LaneId → Bytes → State → Answer}
    {t : State} {body : ReplyBody} (hexec : exec row s = .next (s.takeRequest row serve)) (h : s.Serves row l p)
    (hserve : serve l p (s.popRequest l) = (t, body)) : exec row s = .next (t.replied l p body) := by
  rw [hexec, State.takeRequest_of_serves h serve, hserve]

/-- What a served write of auto-switch comes to (R189, R190). -/
theorem serveAutoSwitch_cases (l : LaneId) (p : Bytes) (s : State) :
    let set (on : Bool) : State := { s with discipline := { s.discipline with autoSwitch := on } }
    (reqIndex p ≠ 0 → serveAutoSwitch l p s = refuseWith .badIndex s) ∧
    (reqIndex p = 0 → onOffValue p = none → serveAutoSwitch l p s = refuseWith .badValue s) ∧
    (reqIndex p = 0 → ∀ on, onOffValue p = some on →
      serveAutoSwitch l p s = okWith (set on).clockReply ((set on).offerTable .clock 0 (set on).clockContent)) := by
  unfold serveAutoSwitch
  refine ⟨fun hi => if_pos hi, fun hi hv => ?_, fun hi on hv => ?_⟩ <;> rw [if_neg (not_not.mpr hi), hv]

/-- The value of an on/off setting: 0 and 1 alone spell one (R190, R207). -/
theorem onOffValue_cases (p : Bytes) :
    (settingValue p = 0 → onOffValue p = some false) ∧ (settingValue p = 1 → onOffValue p = some true) ∧
      (1 < settingValue p → onOffValue p = none) := by
  unfold onOffValue
  refine ⟨fun h => by rw [h]; rfl, fun h => by rw [h]; rfl, fun h => ?_⟩
  unfold onOffOf
  split
  · omega
  · omega
  · rfl

/-- The writes of reference enables (R13, R189, R190). -/
theorem serveReferenceEnable_cases (l : LaneId) (p : Bytes) (s : State) :
    let ref : RefLine := if settingCode p = 10 then .a else .b
    let set (on : Bool) := s.setMonitor ref (s.enabledMonitor ref on)
    (reqIndex p ≠ 0 → serveReferenceEnable l p s = refuseWith .badIndex s) ∧
    (reqIndex p = 0 → onOffValue p = none → serveReferenceEnable l p s = refuseWith .badValue s) ∧
    (reqIndex p = 0 → ∀ on, onOffValue p = some on → serveReferenceEnable l p s =
      okWith (set on).clockReply (((set on).offerTable .clock 0 (set on).clockContent).afterEnable ref on
        (on != (s.monitor ref).enabled))) := by
  unfold serveReferenceEnable
  refine ⟨fun hi => if_pos hi, fun hi hv => ?_, fun hi on hv => ?_⟩ <;> rw [if_neg (not_not.mpr hi), hv]

/-- The monitor after a write of its reference enable (R13). -/
theorem enabledMonitor_cases (s : State) (ref : RefLine) :
    let m := s.monitor ref
    (∀ on, on = m.enabled → s.enabledMonitor ref on = m) ∧
      (m.refState = .disabled → s.enabledMonitor ref true =
        { m with refState := .listening, missing := 0, good := 0, unit := .idle (some (s.timebase.osc + 1000000000)) }) ∧
      (m.refState ≠ .disabled → s.enabledMonitor ref false = { m with refState := .disabled, unit := .idle none }) := by
  intro m
  have enabled : m.enabled = true ↔ m.refState ≠ .disabled := Monitor.enabled_iff m
  refine ⟨fun on hon => if_pos hon, fun hm => ?_, fun hm => ?_⟩
  · exact (if_neg fun hon => enabled.mp hon.symm hm).trans (if_pos rfl)
  · exact (if_neg fun hon => Bool.false_ne_true (hon.trans (enabled.mpr hm))).trans (if_neg (by decide))

/-- A reference turned off is recorded; if it was the selected one, that is a loss (R13, R19). -/
theorem afterEnable_off (s : State) (ref : RefLine) :
    (ref ≠ s.discipline.selected →
        s.afterEnable ref false true = s.offerClock .referenceDisabled ref) ∧
      (ref = s.discipline.selected →
        s.afterEnable ref false true = (s.offerClock .referenceDisabled ref).lossOfSelected) :=
  ⟨fun h => if_neg h, fun h => if_pos h⟩

/-- The numeric settings, each with its own range (R23, R190). -/
theorem numericSettingWrites (s : State) (l : LaneId) (p : Bytes) (h : s.Serves .tableWriteClockSetting l p)
    (hi : reqIndex p = 0) {low high : Nat} {set : Nat → ClockSettings} (hle : low ≤ high)
    (hr : clockRange (settingCode p) = some (low, high))
    (hw : ∀ x, s.clock.write (settingCode p) x = set x) :
    let written (x : Nat) (st : Status) := exec .tableWriteClockSetting s =
      .next (((({ s.popRequest l with clock := set x } : State)).offer
        (.table .clock 0 ({ s.popRequest l with clock := set x } : State).clockContent)).replied l p
          (.completed st (uField 1 5 ++ uField 1 0 ++ ({ s.popRequest l with clock := set x } : State).clockContent)))
    (settingValue p < low → written low .okClamped) ∧
    (low ≤ settingValue p → settingValue p ≤ high → written (settingValue p) .ok) ∧
    (high < settingValue p → written high .okClamped) := by
  intro written
  have served (x : Nat) (hx : clampRange low high (settingValue p) = x) :
      serveClockSetting l p (s.popRequest l) = clockSettingAnswer (s.popRequest l) (settingValue p) x (set x) := by
    rw [serveClockSetting_of_range hi hr, hx]
    exact congrArg _ (hw x)
  have limited (x : Nat) (hx : clampRange low high (settingValue p) = x) (hne : x ≠ settingValue p) :
      written x .okClamped := by
    refine exec_of_serves rfl h ((served x hx).trans ?_)
    simp only [clockSettingAnswer, if_neg hne]
    rfl
  obtain ⟨below, within, above⟩ := clampRange_cases hle (settingValue p)
  refine ⟨fun hv => limited _ (below hv) (by omega), fun hv hv' => ?_, fun hv => limited _ (above hv) (by omega)⟩
  refine exec_of_serves rfl h ((served _ (within hv hv')).trans ?_)
  simp only [clockSettingAnswer, if_pos]
  rfl

/-- Settles O42: the numeric settings one by one, then auto-switch, then the reference enables. -/
theorem clockTableWrites : Obligations.ClockTableWrites := by
  constructor
  · intro s row l p h hrow code v refusedAs q written clamped
    have writes : requestRow p = writeRow p := requestRow_eq_writeRow (by
      rw [h.2.1]
      rcases hrow with rfl | rfl <;> rfl)
    have isRow : writeRow p = row := writes.symm.trans h.2.1
    rcases hrow with rfl | rfl
    · have notNine : code ≠ 9 := (settingCode_of_writeRow p).2 isRow
      refine ⟨fun hi => exec_of_serves rfl h (if_pos hi), fun hi => ?_⟩
      have setting (n low high : Nat) (set : Nat → ClockSettings) (hle : low ≤ high)
          (hr : clockRange n = some (low, high)) (hw : ∀ x, s.clock.write n x = set x) :
          code = n → clamped low high set := by
        rintro rfl
        exact numericSettingWrites s l p h hi hle hr hw
      refine ⟨fun hc => ?_, setting 1 _ _ _ (by decide) rfl fun _ => rfl, setting 2 _ _ _ (by decide) rfl fun _ => rfl,
        setting 3 _ _ _ (by decide) rfl fun _ => rfl, setting 4 _ _ _ (by decide) rfl fun _ => rfl,
        setting 5 _ _ _ (by decide) rfl fun _ => rfl, setting 6 _ _ _ (by decide) rfl fun _ => rfl,
        setting 7 _ _ _ (by decide) rfl fun _ => rfl, setting 8 _ _ _ (by decide) rfl fun _ => rfl,
        fun hc => absurd hc notNine⟩
      have noRange : clockRange (settingCode p) = none :=
        clockRange_eq_none (hc.imp_right fun above => lt_trans (by decide) above)
      refine exec_of_serves rfl h (t := q) ((if_neg (not_not.mpr hi)).trans ?_)
      rw [noRange]
      rfl
    · have nine : code = 9 := (settingCode_of_writeRow p).1 isRow
      obtain ⟨badIndex, badValue, accepted⟩ := serveAutoSwitch_cases l p q
      obtain ⟨off, on, neither⟩ := onOffValue_cases p
      refine ⟨fun hi => exec_of_serves rfl h (badIndex hi), fun hi => ?_⟩
      refine ⟨fun hc => by omega, fun hc => by omega, fun hc => by omega, fun hc => by omega, fun hc => by omega,
        fun hc => by omega, fun hc => by omega, fun hc => by omega, fun hc => by omega, fun _ => ⟨fun hv => ?_,
        fun hv => ?_, fun hv => ?_⟩⟩
      · exact exec_of_serves rfl h (accepted hi false (off hv))
      · exact exec_of_serves rfl h (accepted hi true (on hv))
      · exact exec_of_serves rfl h (badValue hi (neither hv))
  · intro s l p h ref m v after recorded answered off on named
    obtain ⟨badIndex, badValue, accepted⟩ := serveReferenceEnable_cases l p (s.popRequest l)
    obtain ⟨valueOff, valueOn, neither⟩ := onOffValue_cases p
    have monitor : (s.popRequest l).monitor ref = m := State.popRequest_monitor _ _ _
    obtain ⟨kept, turnedOn, turnedOff⟩ := enabledMonitor_cases (s.popRequest l) ref
    have written (w changed : Bool) (x : Monitor) (hi : named) (hw : onOffValue p = some w)
        (hx : (s.popRequest l).enabledMonitor ref w = x) (hc : (w != m.enabled) = changed) :
        answered (after x) ((recorded (after x)).afterEnable ref w changed) := by
      subst hx hc
      exact exec_of_serves rfl h ((accepted hi w hw).trans (by rw [← monitor]; rfl))
    have enabled : m.enabled = true ↔ m.refState ≠ .disabled := Monitor.enabled_iff m
    have selected : (recorded off).discipline.selected = s.discipline.selected :=
      congrArg Discipline.selected (State.setMonitor_discipline (s.popRequest l) ref _)
    have lost (hi : named) (hv : v = 0) (hm : m.refState ≠ .disabled) :
        answered off ((recorded off).afterEnable ref false true) :=
      written false true _ hi (valueOff hv) ((turnedOff (by rw [monitor]; exact hm)).trans (by rw [monitor]))
        (by rw [enabled.mpr hm]; rfl)
    refine ⟨fun hi => exec_of_serves rfl h (badIndex hi), fun hi hv => exec_of_serves rfl h (badValue hi (neither hv)),
      fun hi hv => ?_, fun hi hv hm => ?_, fun hi hv hm hs => ?_, fun hi hv hm hs => ?_⟩
    · rcases hv with ⟨hv, hm⟩ | ⟨hv, hm⟩
      · have isOff : m.enabled = false := Bool.eq_false_iff.mpr fun hon => enabled.mp hon hm
        exact written false false m hi (valueOff hv) ((kept _ (by rw [monitor, isOff])).trans monitor) (by rw [isOff]; rfl)
      · have isOn : m.enabled = true := enabled.mpr hm
        exact written true false m hi (valueOn hv) ((kept _ (by rw [monitor, isOn])).trans monitor) (by rw [isOn]; rfl)
    · have isOff : m.enabled = false := Bool.eq_false_iff.mpr fun hon => enabled.mp hon hm
      exact written true true _ hi (valueOn hv) ((turnedOn (by rw [monitor]; exact hm)).trans (by rw [monitor]; rfl))
        (by rw [isOff]; rfl)
    · have run := lost hi hv hm
      rwa [(afterEnable_off (recorded off) ref).1 (by rw [selected]; exact hs)] at run
    · have run := lost hi hv hm
      rwa [(afterEnable_off (recorded off) ref).2 (by rw [selected]; exact hs)] at run

end Sys2Proof.Machine
end

section
/-! PROOFS. The clock commands by discipline state (R14, R21, R22, R193). -/

namespace Sys2Proof.Machine

/-! ### ACQUIRE -/

/-- The entry to ACQUIRE from a state without tracking, at F with a switch when R19 asks for it (R19, R21). -/
theorem State.enterAcquire_effect (s : State) (h : s.discipline.state ≠ .acquire) :
    let t := s.enterAcquire
    let d := s.discipline
    let switches := d.autoSwitch = true ∧ ((s.monitor d.selected).refState = .lost ∨
      (s.monitor d.selected).refState = .disabled) ∧ (s.monitor d.selected.other).refState = .healthy
    t.discipline = { d with
      state := .acquire, lockCount := 0, selected := if switches then d.selected.other else d.selected } ∧
    t.timebase = (if switches then s.timebase.setRate d.freq else s.timebase) ∧
    t.journal.counter = s.journal.counter + (if switches then 2 else 1) ∧
    ({ s with discipline := t.discipline, timebase := t.timebase } : State).SameButRecords t := by
  intro t d switches
  have tested : (d.autoSwitch && (s.monitor d.selected).refState.gone &&
      (s.monitor d.selected.other).refState == .healthy) = true ↔ switches := by
    simp [switches, RefState.gone_iff, and_assoc]
  by_cases sw : switches
  · obtain ⟨switched, counted⟩ := s.switchReference_eq
    rw [show t = s.switchReference from if_pos (tested.mpr sw)]
    simp only [if_pos sw]
    refine ⟨by rw [switched], by rw [switched], by rw [counted, if_neg h], ?_⟩
    rw [switched]
    exact ⟨_, _, rfl⟩
  · rw [show t = _ from if_neg (mt tested.mp sw)]
    simp only [if_neg sw]
    exact ⟨rfl, rfl, State.offerClock_counter _ _ _ _, ⟨_, _, rfl⟩⟩

theorem State.commandAcquire_cases (s : State) :
    (s.discipline.state = .acquire ∨ s.discipline.state = .locked → s.commandAcquire = s) ∧
      (s.discipline.state = .free ∨ s.discipline.state = .holdover → s.commandAcquire = s.enterAcquire) := by
  unfold State.commandAcquire
  split <;> simp [*]

/-! ### RELEASE -/

/-- The entry to FREE: the rate F, the evaluated flag off, and the grade UNTRACEABLE with it (R21, R35, R36). -/
theorem State.enterFree_effect (s : State) :
    let t := s.enterFree
    t.discipline = { s.discipline with state := .free, lockCount := 0, stepPending := false } ∧
    t.timebase = s.timebase.setRate s.discipline.freq ∧
    t.uncertainty = ⟨1000000000, s.uncertainty.ltMark, false, .untraceable, none⟩ ∧
    t.journal.counter = s.journal.counter + (if s.uncertainty.grade = .untraceable then 1 else 2) ∧
    ({ s with discipline := t.discipline, timebase := t.timebase, uncertainty := t.uncertainty } : State).SameButRecords
      t := by
  intro t
  have judged := State.judgeGrade_eq ((({ s with
      discipline := { s.discipline with state := .free, lockCount := 0, stepPending := false }
      uncertainty := { s.uncertainty with evaluated := false, uBase := Config.uncertaintyMax, growthExpiry := none }
      } : State).rateToFreq).offerClock .state s.discipline.selected)
  have counted : t.journal.counter = _ := State.judgeGrade_counter _
  refine ⟨congrArg State.discipline judged, congrArg State.timebase judged, congrArg State.uncertainty judged, ?_, ?_⟩
  · rw [counted, State.offerClock_counter]
    by_cases hg : s.uncertainty.grade = .untraceable
    · exact (if_pos hg.symm).trans (by rw [if_pos hg]; rfl)
    · exact (if_neg (Ne.symm hg)).trans (by rw [if_neg hg]; rfl)
  · rw [show t = _ from judged]
    exact ⟨_, _, rfl⟩

theorem serveRelease_cases (l : LaneId) (p : Bytes) (s : State) :
    (s.discipline.state = .free → serveRelease l p s = s.clockAnswer) ∧
      (s.discipline.state ≠ .free → serveRelease l p s = s.enterFree.clockAnswer) := by
  unfold serveRelease
  split <;> simp [*]

/-! ### SELECT -/

/-- The selection of the other reference: at F, tracking anew from LOCKED and HOLDOVER (R22). -/
theorem State.select_effect (s : State) (ref : RefLine) (h : s.discipline.selected ≠ ref) :
    let t := s.select ref
    let d := s.discipline
    let held := d.state = .locked ∨ d.state = .holdover
    t.discipline = { d with
      selected := ref
      lockCount := if d.state = .free then d.lockCount else 0
      state := if held then .acquire else d.state } ∧
    t.timebase = s.timebase.setRate d.freq ∧
    t.journal.counter = s.journal.counter + (if held then 2 else 1) ∧
    ({ s with discipline := t.discipline, timebase := t.timebase } : State).SameButRecords t := by
  intro t d held
  have chosen : d.selectNow ref = { d with
      selected := ref
      lockCount := if d.state = .free then d.lockCount else 0
      state := if held then .acquire else d.state } := by
    unfold Discipline.selectNow
    split <;> simp [*, held]
  have selected : t = _ := if_neg h
  by_cases hh : held
  · rw [if_pos hh] at chosen ⊢
    rw [selected, if_pos hh, chosen]
    exact ⟨rfl, rfl, by simp [State.rateToFreq, hh], ⟨_, _, rfl⟩⟩
  · rw [if_neg hh] at chosen ⊢
    rw [selected, if_neg hh, chosen]
    exact ⟨rfl, rfl, by simp [State.rateToFreq, hh], ⟨_, _, rfl⟩⟩

/-! ### CLEAR_MISSING -/

/-- The monitor with its missing count cleared, LISTENING if it was LOST (R14). -/
def Monitor.cleared (m : Monitor) : Monitor :=
  { m with missing := 0, refState := if m.refState = .lost then .listening else m.refState }

/-- CLEAR_MISSING on one reference sets its monitor, and a reference that leaves LOST gives a record (R14, R28). -/
theorem State.clearMissingOf_effect (s : State) (ref : RefLine) :
    let t := s.clearMissingOf ref
    t.monitor ref = (s.monitor ref).cleared ∧ t.monitor ref.other = s.monitor ref.other ∧
      t.journal.counter = s.journal.counter + (if (s.monitor ref).refState = .lost then 1 else 0) ∧
      (s.setMonitor ref (s.monitor ref).cleared).SameButRecords t := by
  intro t
  by_cases hl : (s.monitor ref).refState = .lost
  · rw [if_pos hl, Monitor.cleared, if_pos hl, show t = _ from if_pos hl]
    refine ⟨?_, ?_, by simp, ⟨_, _, rfl⟩⟩ <;> cases ref <;> rfl
  · rw [if_neg hl, Monitor.cleared, if_neg hl, show t = _ from if_neg hl]
    refine ⟨?_, ?_, ?_, .refl _⟩ <;> cases ref <;> rfl

/-- Settles O47: ACQUIRE, RELEASE, then SELECT and CLEAR_MISSING, each by its effect on the state without the request. -/
theorem clockCommandsActByState : Obligations.ClockCommandsActByState := by
  constructor
  · intro s l p d switches answered toF
    have monitor (r : RefLine) : (s.popRequest l).monitor r = s.monitor r := State.popRequest_monitor _ _ _
    refine ⟨fun h hc => exec_of_serves rfl h (if_pos hc), fun h hc => ?_, fun h => ?_⟩
    · obtain ⟨stays, enters⟩ := (s.popRequest l).commandAcquire_cases
      have served (t : State) (ht : (s.popRequest l).commandAcquire = t) : answered .acquire t :=
        exec_of_serves rfl h ((if_neg (not_not.mpr hc)).trans (by rw [ht]; rfl))
      refine ⟨fun hs => served _ (stays hs), fun hs => ⟨_, served _ (enters hs), ?_⟩⟩
      have off : d.state ≠ .acquire := by
        rcases hs with hs | hs <;> rw [hs] <;> decide
      have effect := (s.popRequest l).enterAcquire_effect off
      simp only [monitor] at effect
      obtain ⟨disc, time, count, _, _, frame⟩ := effect
      refine ⟨disc, time, count, ?_⟩
      rw [frame]
    · obtain ⟨stays, enters⟩ := serveRelease_cases l p (s.popRequest l)
      refine ⟨fun hs => exec_of_serves rfl h (stays hs), fun hs => ⟨_, exec_of_serves rfl h (enters hs), ?_⟩⟩
      obtain ⟨disc, time, unc, count, _, _, frame⟩ := (s.popRequest l).enterFree_effect
      refine ⟨disc, time, unc, count, ?_⟩
      rw [frame]
  · intro s l p row ref h d answered held
    refine ⟨fun hrow => ?_, fun hrow => ?_⟩
    · have served : answered ((s.popRequest l).select ref) := by
        rcases hrow with ⟨rfl, rfl⟩ | ⟨rfl, rfl⟩ <;> exact exec_of_serves rfl h rfl
      refine ⟨fun hs => ?_, fun hs => ⟨_, served, ?_⟩⟩
      · rwa [show (s.popRequest l).select ref = s.popRequest l from if_pos hs] at served
      · obtain ⟨disc, time, count, _, _, frame⟩ := (s.popRequest l).select_effect ref hs
        refine ⟨disc, time, count, ?_⟩
        rw [frame]
    · subst hrow
      obtain ⟨clearedA, keptB, countA, _, _, frameA⟩ := (s.popRequest l).clearMissingOf_effect .a
      obtain ⟨clearedB, keptA, countB, _, _, frameB⟩ := ((s.popRequest l).clearMissingOf .a).clearMissingOf_effect .b
      have lostB : (((s.popRequest l).clearMissingOf .a).monitor .b).refState = s.monitorB.refState :=
        congrArg Monitor.refState keptB
      refine ⟨_, exec_of_serves rfl h rfl, fun r => ?_, ?_, ?_⟩
      · cases r
        · exact keptA.trans clearedA
        · exact clearedB.trans (congrArg Monitor.cleared keptB)
      · rw [countB, countA, lostB]
        rfl
      · rw [frameB, frameA]
        rfl

end Sys2Proof.Machine
end

section
/-! PROOFS. The reservations of a step (R152, R159). -/

namespace Sys2Proof.Machine

/-! ### The lowest free slot -/

/-- The search passes only used positions, and ends at an unused one or with its fuel. -/
theorem lowestUnused_spec (used : List Nat) (fuel i : Nat) :
    let n := lowestUnused used fuel i
    i ≤ n ∧ (∀ k, i ≤ k → k < n → k ∈ used) ∧ (n < i + fuel → n ∉ used) ∧ n ≤ i + fuel := by
  induction fuel generalizing i with
  | zero => exact ⟨le_rfl, fun k hk hn => absurd (lt_of_le_of_lt hk hn) (lt_irrefl _), fun h => absurd h (lt_irrefl _), le_rfl⟩
  | succ fuel ih =>
    unfold lowestUnused
    split
    next hi =>
      obtain ⟨low, passed, ends, high⟩ := ih (i + 1)
      refine ⟨by omega, fun k hk hn => ?_, fun h => ends (by omega), by omega⟩
      rcases eq_or_lt_of_le hk with rfl | hk
      · simpa using hi
      · exact passed k hk hn
    next hi => exact ⟨le_rfl, fun k _ _ => by omega, fun _ => by simpa using hi, by omega⟩

/-- While a slot is free, the lowest free one is a slot that no held record has (R158). -/
theorem Journal.lowestFree_spec (j : Journal) (h : j.held.length < 4096) :
    j.lowestFree < 4096 ∧ (∀ x ∈ j.held, x.slot ≠ j.lowestFree) ∧
      ∀ n, n < j.lowestFree → ∃ x ∈ j.held, x.slot = n := by
  obtain ⟨-, passed, ends, high⟩ := lowestUnused_spec (j.held.map Held.slot) Config.ringSlots 0
  have below : j.lowestFree < 4096 := by
    by_contra hn
    have all : List.range 4096 ⊆ j.held.map Held.slot := fun k hk =>
      passed k (Nat.zero_le _) (lt_of_lt_of_le (List.mem_range.mp hk) (not_lt.mp hn))
    have := (List.nodup_range.subperm all).length_le
    simp only [List.length_range, List.length_map] at this
    omega
  refine ⟨below, fun x hx hs => ?_, fun n hn => ?_⟩
  · exact ends (below.trans_eq (Nat.zero_add _).symm) (List.mem_map.mpr ⟨x, hx, hs⟩)
  · exact List.mem_map.mp (passed n (Nat.zero_le _) hn)

theorem Journal.freeCount_eq_zero_iff (j : Journal) : j.freeCount = 0 ↔ 4096 ≤ j.held.length := by
  simp [Journal.freeCount, Config.ringSlots, Nat.sub_eq_zero_iff_le]

/-! ### One reservation -/

/-- A lane that has a reservation keeps it; any other takes the next number, bound or lost (R152). -/
theorem State.reserve_cases (s : State) (l : LaneId) :
    (∀ r, s.journal.reservation l = some r → s.reserve l = s) ∧
    (s.journal.reservation l = none → s.journal.held.length < 4096 →
      s.reserve l = { s with journal := s.journal.bind l }) ∧
    (s.journal.reservation l = none → 4096 ≤ s.journal.held.length →
      s.reserve l = { s with
        journal := s.journal.reserveLost l
        evidence := s.evidence.apply { kind := .recordLost, lane := some l } }) := by
  refine ⟨fun r hr => if_pos (by rw [hr]; rfl), fun hr hf => ?_, fun hr hf => ?_⟩
  · exact (if_neg (by rw [hr]; simp)).trans (if_neg fun hz => by
      have := s.journal.freeCount_eq_zero_iff.mp hz
      omega)
  · exact (if_neg (by rw [hr]; simp)).trans (if_pos (s.journal.freeCount_eq_zero_iff.mpr hf))

/-! ### What a stretch of the step does to the records -/

/-- From `s` to `t` records were offered and events raised: the counter and the held records only grew, the
reservations and the snapshot timing stayed (R149, R179). -/
structure State.OnlyOffers (s t : State) : Prop where
  counter : s.journal.counter ≤ t.journal.counter
  reservations : t.journal.reservations = s.journal.reservations
  held : ∀ h ∈ s.journal.held, h ∈ t.journal.held
  period : t.evidence.period = s.evidence.period
  snapshotExpiry : t.evidence.snapshotExpiry = s.evidence.snapshotExpiry

theorem State.OnlyOffers.of_same {s t : State} (hj : t.journal = s.journal) (he : t.evidence = s.evidence) :
    s.OnlyOffers t := by
  constructor <;> simp [hj, he]

theorem State.OnlyOffers.refl (s : State) : s.OnlyOffers s := .of_same rfl rfl

theorem State.OnlyOffers.trans {s t u : State} (h : s.OnlyOffers t) (k : t.OnlyOffers u) : s.OnlyOffers u :=
  ⟨h.counter.trans k.counter, k.reservations.trans h.reservations, fun x hx => k.held x (h.held x hx),
    k.period.trans h.period, k.snapshotExpiry.trans h.snapshotExpiry⟩

theorem State.OnlyOffers.reservation {s t : State} (h : s.OnlyOffers t) (l : LaneId) :
    t.journal.reservation l = s.journal.reservation l := by
  simp [Journal.reservation, h.reservations]

/-- A fold of operations that each only offer records only offers records. -/
theorem State.OnlyOffers.foldl {α : Type} {f : State → α → State} (h : ∀ (t : State) (a : α), t.OnlyOffers (f t a))
    (s : State) (as : List α) : s.OnlyOffers (as.foldl f s) := by
  induction as generalizing s with
  | nil => exact .refl s
  | cons a as ih => exact (h s a).trans (ih _)

theorem State.offer_onlyOffers (s : State) (r : RecordBody) : s.OnlyOffers (s.offer r) where
  counter := by simp
  reservations := (s.journal.admitRecord_keeps s.lt r).1
  held x hx := by
    change x ∈ (s.journal.admitRecord s.lt r).held
    by_cases hf : s.journal.freeCount = 0
    · rwa [Journal.admitRecord_held_of_full _ _ _ hf]
    · rw [Journal.admitRecord_held_of_free _ _ _ hf]
      exact List.mem_append_left _ hx
  period := (apply_ite Evidence.period _ _ _).trans (ite_self _)
  snapshotExpiry := (apply_ite Evidence.snapshotExpiry _ _ _).trans (ite_self _)

theorem State.raise_onlyOffers (s : State) (e : EvidenceEvent) : s.OnlyOffers (s.raise e) :=
  ⟨le_rfl, rfl, fun _ h => h, rfl, rfl⟩

theorem State.raiseAll_onlyOffers (s : State) (es : List EvidenceEvent) : s.OnlyOffers (s.raiseAll es) where
  counter := le_rfl
  reservations := rfl
  held _ h := h
  period := foldl_preserves Evidence.period Evidence.apply (fun _ _ => rfl) _ _
  snapshotExpiry := foldl_preserves Evidence.snapshotExpiry Evidence.apply (fun _ _ => rfl) _ _

/-! ### The reservations of a step -/

/-- Lane `l` has in `t` a number given since `s`, with a bound slot unless it was lost (R152). -/
def State.Numbered (s t : State) (l : LaneId) (r : Reservation) : Prop :=
  t.journal.reservation l = some r ∧ s.journal.counter ≤ r.number ∧ r.number < t.journal.counter ∧
    (r.lost = false → ∃ h ∈ t.journal.held, h.number = r.number ∧ h.content = .bound)

/-- What the reservations of the lanes `ls` do: the records only grow, and each of the lanes that had no reservation
gets one, numbered in ascending lane order (R152). -/
structure State.ReservedFor (s t : State) (ls : List LaneId) : Prop where
  counter : s.journal.counter ≤ t.journal.counter
  held : ∀ h ∈ s.journal.held, h ∈ t.journal.held
  period : t.evidence.period = s.evidence.period
  snapshotExpiry : t.evidence.snapshotExpiry = s.evidence.snapshotExpiry
  others : ∀ k, k ∉ ls → t.journal.reservation k = s.journal.reservation k
  kept : ∀ k r, s.journal.reservation k = some r → t.journal.reservation k = some r
  given : ∀ k ∈ ls, s.journal.reservation k = none → ∃ r, s.Numbered t k r ∧
    ∀ m q, k < m → m ∈ ls → s.journal.reservation m = none → t.journal.reservation m = some q → r.number < q.number

theorem Journal.reservation_setReservation (j : Journal) (l k : LaneId) (r : Option Reservation) :
    (j.setReservation l r).reservation k = if k = l then r else j.reservation k := by
  unfold Journal.setReservation Journal.reservation
  by_cases hk : k = l
  · subst hk
    simp
  · have : l.val ≠ k.val := fun h => hk (Fin.ext h.symm)
    simp [hk, this]

/-- One reservation, of a lane that has none: the counter's number, bound to a slot unless it is lost (R152). -/
theorem State.reserve_of_none {s : State} {l : LaneId} (h : s.journal.reservation l = none) :
    let t := s.reserve l
    t.journal.counter = s.journal.counter + 1 ∧ (∀ x ∈ s.journal.held, x ∈ t.journal.held) ∧
      t.evidence.period = s.evidence.period ∧ t.evidence.snapshotExpiry = s.evidence.snapshotExpiry ∧
      (∀ k, k ≠ l → t.journal.reservation k = s.journal.reservation k) ∧
      ∃ r, r.number = s.journal.counter ∧ s.Numbered t l r := by
  intro t
  obtain ⟨-, binds, loses⟩ := s.reserve_cases l
  rcases lt_or_ge s.journal.held.length 4096 with hf | hf
  · rw [show t = _ from binds h hf]
    refine ⟨rfl, fun x hx => List.mem_append_left _ hx, rfl, rfl, fun k hk => ?_, ⟨s.journal.counter, false⟩, rfl, ?_,
      le_rfl, Nat.lt_succ_self _, fun _ => ⟨⟨s.journal.counter, s.journal.lowestFree, .bound⟩, ?_, rfl, rfl⟩⟩
    · exact (Journal.reservation_setReservation _ _ _ _).trans (if_neg hk)
    · exact (Journal.reservation_setReservation _ _ _ _).trans (if_pos rfl)
    · exact List.mem_append_right _ (List.mem_singleton.mpr rfl)
  · rw [show t = _ from loses h hf]
    refine ⟨rfl, fun x hx => hx, rfl, rfl, fun k hk => ?_, ⟨s.journal.counter, true⟩, rfl, ?_,
      le_rfl, Nat.lt_succ_self _, fun hl => Bool.noConfusion hl⟩
    · exact (Journal.reservation_setReservation _ _ _ _).trans (if_neg hk)
    · exact (Journal.reservation_setReservation _ _ _ _).trans (if_pos rfl)

/-- A number given before more reservations stays given. -/
theorem State.ReservedFor.numbered {s t u : State} {ls : List LaneId} {k : LaneId} {r : Reservation}
    (h : t.ReservedFor u ls) (hk : s.Numbered t k r) : s.Numbered u k r := by
  obtain ⟨given, low, high, bound⟩ := hk
  refine ⟨h.kept k r given, low, lt_of_lt_of_le high h.counter, fun hl => ?_⟩
  obtain ⟨x, hx, hb⟩ := bound hl
  exact ⟨x, h.held x hx, hb⟩

/-- The reservations of lanes in ascending order. -/
theorem State.foldl_reserve (ls : List LaneId) (sorted : ls.Pairwise (· < ·)) (s : State) :
    s.ReservedFor (ls.foldl State.reserve s) ls := by
  induction ls generalizing s with
  | nil => exact ⟨le_rfl, fun _ h => h, rfl, rfl, fun _ _ => rfl, fun _ _ h => h, fun _ h => absurd h (by simp)⟩
  | cons l ls ih =>
    obtain ⟨above, sorted⟩ := List.pairwise_cons.mp sorted
    have rest := ih sorted (s.reserve l)
    rw [List.foldl_cons]
    cases hr : s.journal.reservation l with
    | some r =>
      rw [(s.reserve_cases l).1 r hr] at rest ⊢
      refine ⟨rest.counter, rest.held, rest.period, rest.snapshotExpiry, fun k hk => rest.others k (by simp_all),
        rest.kept, fun k hk unset => ?_⟩
      have ne (m : LaneId) (hm : s.journal.reservation m = none) : m ≠ l := by
        rintro rfl
        rw [hm] at hr
        cases hr
      obtain ⟨r, numbered, before⟩ := rest.given k ((List.mem_cons.mp hk).resolve_left (ne k unset)) unset
      exact ⟨r, numbered, fun m q hkm hm hn => before m q hkm ((List.mem_cons.mp hm).resolve_left (ne m hn)) hn⟩
    | none =>
      obtain ⟨count, held, period, expiry, others, r, hnum, numbered⟩ := State.reserve_of_none hr
      have step : s.journal.counter ≤ (s.reserve l).journal.counter := by omega
      refine ⟨step.trans rest.counter, fun x hx => rest.held x (held x hx), rest.period.trans period,
        rest.snapshotExpiry.trans expiry, fun k hk => ?_, fun k q hq => ?_, fun k hk unset => ?_⟩
      · obtain ⟨hkl, hks⟩ := not_or.mp (mt List.mem_cons.mpr hk)
        exact (rest.others k hks).trans (others k hkl)
      · have hkl : k ≠ l := by
          rintro rfl
          rw [hr] at hq
          cases hq
        exact rest.kept k q ((others k hkl).trans hq)
      · have later (m : LaneId) (hm : m ∈ ls) (hn : s.journal.reservation m = none) :
            ∃ q, (s.reserve l).Numbered (ls.foldl State.reserve (s.reserve l)) m q ∧ _ :=
          rest.given m hm ((others m (above m hm).ne').trans hn)
        rcases List.mem_cons.mp hk with rfl | hkls
        · refine ⟨r, rest.numbered numbered, fun m q hkm hm hn hq => ?_⟩
          obtain ⟨q', ⟨given, low, -⟩, -⟩ := later m ((List.mem_cons.mp hm).resolve_left hkm.ne') hn
          rw [given] at hq
          cases hq
          omega
        · obtain ⟨q, ⟨given, low, rest'⟩, before⟩ := later k hkls unset
          refine ⟨q, ⟨given, step.trans low, rest'⟩, fun m q hkm hm hn => ?_⟩
          have hml : m ≠ l := by
            rintro rfl
            exact absurd (above k hkls) hkm.asymm
          exact before m q hkm ((List.mem_cons.mp hm).resolve_left hml) ((others m hml).trans hn)

/-- The lanes that a step gives reservations: those with a frame in reception (R152). -/
theorem State.reserveForStep_eq (s : State) :
    let taken (t : State) (l : LaneId) := if (s.lane l).rx.isSome then t.reserve l else t
    s.reserveForStep = taken (taken (taken (taken s 0) 1) 2) 3 := by
  intro taken
  have lanes (t : State) (l : LaneId) : (taken t l).lanes = t.lanes :=
    (apply_ite State.lanes _ _ _).trans (by rw [State.reserve_lanes, ite_self])
  have same {t : State} (ht : t.lanes = s.lanes) (l : LaneId) :
      (if (t.lane l).rx.isSome then t.reserve l else t) = taken t l := by
    have lane : t.lane l = s.lane l := by simp [State.lane, ht]
    rw [lane]
  have first := lanes s 0
  have second := (lanes (taken s 0) 1).trans first
  have third := (lanes (taken (taken s 0) 1) 2).trans second
  simp only [State.reserveForStep, allLanes, List.foldl_cons, List.foldl_nil, same rfl, same first, same second,
    same third]

theorem State.reserveForStep_reserved (s : State) :
    s.ReservedFor s.reserveForStep (allLanes.filter fun l => (s.lane l).rx.isSome) := by
  rw [State.reserveForStep_eq]
  have := State.foldl_reserve (allLanes.filter fun l => (s.lane l).rx.isSome) 
    (List.Pairwise.filter _ (by decide)) s
  rwa [List.foldl_filter] at this

end Sys2Proof.Machine
end

section
/-! PROOFS. What the parts of a step do to the records and to the books (R104, R130, R149). -/

namespace Sys2Proof.Machine

/-! ### Records of the clock side -/

/-- A record offered after changes outside the records. -/
theorem State.OnlyOffers.offered {s t : State} (r : RecordBody) (hj : t.journal = s.journal := by rfl)
    (he : t.evidence = s.evidence := by rfl) : s.OnlyOffers (t.offer r) :=
  (State.OnlyOffers.of_same hj he).trans (t.offer_onlyOffers r)

theorem State.offerClock_onlyOffers (s : State) (e : ClockEvent) (r : RefLine) (th : Option Int) :
    s.OnlyOffers (s.offerClock e r th) := s.offer_onlyOffers _

theorem State.OnlyOffers.clockOffered {s t : State} (e : ClockEvent) (r : RefLine) (th : Option Int)
    (hj : t.journal = s.journal := by rfl) (he : t.evidence = s.evidence := by rfl) :
    s.OnlyOffers (t.offerClock e r th) :=
  (State.OnlyOffers.of_same hj he).trans (t.offerClock_onlyOffers e r th)

theorem State.setMonitor_onlyOffers (s : State) (r : RefLine) (m : Monitor) : s.OnlyOffers (s.setMonitor r m) :=
  .of_same (State.setMonitor_journal s r m) (State.setMonitor_evidence s r m)

theorem State.noteMarker_onlyOffers (s : State) (ref : RefLine) (k : Marker) : s.OnlyOffers (s.noteMarker ref k) := by
  have taken (m : Monitor) (e : EvidenceEvent) : s.OnlyOffers ((s.setMonitor ref m).raise e) :=
    (s.setMonitor_onlyOffers ref m).trans (State.raise_onlyOffers _ e)
  unfold State.noteMarker
  dsimp only
  split <;> split
  · exact (taken _ _).trans (State.offerClock_onlyOffers _ _ _ _)
  · exact taken _ _
  · exact ((taken _ _).trans (State.offerClock_onlyOffers _ _ _ _)).trans (State.offerClock_onlyOffers _ _ _ _)
  · exact (taken _ _).trans (State.offerClock_onlyOffers _ _ _ _)

/-- The noting of an edge offers records and raises one event (R10, R11). -/
theorem State.noted_onlyOffers (s : State) (ref : RefLine) (a : Announcement) : s.OnlyOffers (s.noted ref a) :=
  (s.setMonitor_onlyOffers ref { s.monitor ref with unit := s.guardUnit }).trans (State.noteMarker_onlyOffers _ ref _)

theorem State.judgeGrade_onlyOffers (s : State) : s.OnlyOffers s.judgeGrade := by
  unfold State.judgeGrade
  dsimp only
  split
  · exact .refl s
  · exact .clockOffered _ _ _

theorem State.stepClock_onlyOffers (s : State) (m : Marker) : s.OnlyOffers (s.stepClock m) := by
  unfold State.stepClock
  refine State.OnlyOffers.trans ?_ (State.judgeGrade_onlyOffers _)
  dsimp only
  split
  · exact State.OnlyOffers.trans (.clockOffered _ _ _) (State.offerClock_onlyOffers _ _ _ _)
  · exact .clockOffered _ _ _

/-- The clock side of a step touches no lane and no book. -/
theorem State.stepClock_lanes_books (s : State) (m : Marker) :
    (s.stepClock m).lanes = s.lanes ∧ (s.stepClock m).books = s.books ∧ (s.stepClock m).bookUnit = s.bookUnit := by
  unfold State.stepClock
  rw [State.judgeGrade_eq]
  split <;> exact ⟨rfl, rfl, rfl⟩

/-! ### Records of placements and of the ends of probes -/

theorem State.setLane_onlyOffers (s : State) (l : LaneId) (u : LaneUnit) : s.OnlyOffers (s.setLane l u) :=
  .of_same rfl rfl

theorem State.setBook_onlyOffers (s : State) (b : BookId) (k : Book) : s.OnlyOffers (s.setBook b k) :=
  .of_same rfl rfl

theorem State.judgeWaits_onlyOffers (s : State) (l : LaneId) : s.OnlyOffers (s.judgeWaits l) :=
  (s.setLane_onlyOffers l _).trans (State.raiseAll_onlyOffers _ _)

theorem State.placeTrigger_onlyOffers (s : State) (l : LaneId) (p : PendingTrigger) :
    s.OnlyOffers (s.placeTrigger l p) :=
  ((s.setLane_onlyOffers l _).trans (State.setBook_onlyOffers _ _ _)).trans (State.judgeWaits_onlyOffers _ l)

theorem State.placementTest_onlyOffers (s : State) (l : LaneId) : s.OnlyOffers (s.placementTest l) :=
  State.OnlyOffers.foldl (fun t p => t.placeTrigger_onlyOffers l p) _ _

theorem State.install_onlyOffers (s : State) (l : LaneId) (c u : Nat) (r : Option Nat) :
    s.OnlyOffers (s.install l c u r) :=
  ((s.offer_onlyOffers _).trans (State.setLane_onlyOffers _ l _)).trans (State.placementTest_onlyOffers _ l)

theorem State.installPending_onlyOffers (s : State) (l : LaneId) : s.OnlyOffers (s.installPending l) := by
  unfold State.installPending
  dsimp only
  split
  · exact (s.setLane_onlyOffers l _).trans (State.install_onlyOffers _ l _ _ _)
  · exact .refl s

theorem State.probeFail_onlyOffers (s : State) (l : LaneId) : s.OnlyOffers (s.probeFail l) :=
  have replied (t : State) (st : Status) (c : Bytes) : t.OnlyOffers (t.completeReply l .probe st c) := .of_same rfl rfl
  (((s.offer_onlyOffers _).trans (replied _ _ _)).trans (State.setLane_onlyOffers _ l _)).trans
    (State.installPending_onlyOffers _ l)

/-! ### Records of the books -/

theorem State.sendTrigger_onlyOffers (s : State) (b : BookId) (e : Nat) (l : LaneId) :
    s.OnlyOffers (s.sendTrigger b e l) :=
  ((s.setBook_onlyOffers b _).trans (State.setLane_onlyOffers _ l _)).trans (State.placementTest_onlyOffers _ l)

theorem State.takeUncross_onlyOffers (s : State) (st : Bool) (b : BookId) (a : Arming) (d : Draw) :
    s.OnlyOffers (s.takeUncross st b a d) := by
  unfold State.takeUncross
  have entered := s.setBook_onlyOffers b { s.book b with phase := .uncross }
  have sent := State.OnlyOffers.foldl (fun t l => t.sendTrigger_onlyOffers b d.endInstant l)
    (s.setBook b { s.book b with phase := .uncross }) (lanesOf a.lanes)
  exact (entered.trans sent).trans ((State.setBook_onlyOffers _ b _).trans (State.offer_onlyOffers _ _))

theorem State.takeBoundary_onlyOffers (s : State) (st : Bool) (b : BookId) : s.OnlyOffers (s.takeBoundary st b) := by
  unfold State.takeBoundary
  split
  · exact .offered _
  · exact .offered _
  · exact .offered _
  · exact s.takeUncross_onlyOffers _ _ _ _
  · exact .refl s

theorem State.takeBoundaries_onlyOffers (st : Bool) (limit : Nat) (b : BookId) (fuel : Nat) (s : State) :
    s.OnlyOffers (State.takeBoundaries st limit b fuel s) := by
  induction fuel generalizing s with
  | zero => exact .refl s
  | succ n ih =>
    unfold State.takeBoundaries
    split
    · exact .refl s
    · split
      · exact (s.takeBoundary_onlyOffers st b).trans (ih _)
      · exact .refl s

theorem State.bookOnStep_onlyOffers (s : State) (b : BookId) : s.OnlyOffers (s.bookOnStep b) := by
  unfold State.bookOnStep
  split
  · exact State.takeBoundaries_onlyOffers _ _ _ _ _
  · exact .refl s

/-! ### Books under the operations of the lanes -/

/-- The books are the same but for trigger states, and so is the Book Unit. -/
structure State.BooksKept (s t : State) : Prop where
  book : ∀ b, (t.book b).withoutTriggers = (s.book b).withoutTriggers
  bookUnit : t.bookUnit = s.bookUnit

theorem State.BooksKept.of_same {s t : State} (hb : t.books = s.books) (hu : t.bookUnit = s.bookUnit) :
    s.BooksKept t := ⟨fun b => by simp [State.book, hb], hu⟩

/-- What keeps the books keeps them after changes outside the books. -/
theorem State.BooksKept.after {s t u : State} (h : t.BooksKept u) (hb : t.books = s.books := by rfl)
    (hu : t.bookUnit = s.bookUnit := by rfl) : s.BooksKept u :=
  ⟨fun b => (h.book b).trans (by simp [State.book, hb]), h.bookUnit.trans hu⟩

theorem State.BooksKept.refl (s : State) : s.BooksKept s := .of_same rfl rfl

theorem State.BooksKept.trans {s t u : State} (h : s.BooksKept t) (k : t.BooksKept u) : s.BooksKept u :=
  ⟨fun b => (k.book b).trans (h.book b), k.bookUnit.trans h.bookUnit⟩

theorem State.BooksKept.foldl {α : Type} {f : State → α → State} (h : ∀ (t : State) (a : α), t.BooksKept (f t a))
    (s : State) (as : List α) : s.BooksKept (as.foldl f s) := by
  induction as generalizing s with
  | nil => exact .refl s
  | cons a as ih => exact (h s a).trans (ih _)

theorem State.placementTest_booksKept (s : State) (l : LaneId) : s.BooksKept (s.placementTest l) :=
  ⟨s.placementTest_withoutTriggers l, s.placementTest_bookUnit l⟩

theorem State.installPending_booksKept (s : State) (l : LaneId) : s.BooksKept (s.installPending l) := by
  unfold State.installPending
  dsimp only
  split
  · exact .after (State.placementTest_booksKept _ l)
  · exact .refl s

theorem State.probeFail_booksKept (s : State) (l : LaneId) : s.BooksKept (s.probeFail l) :=
  .after (State.installPending_booksKept _ l)

/-! ### The lanes' part of a step -/

/-- The failure of an outstanding probe at a step (R67). -/
def State.failOutstanding (s : State) (l : LaneId) : State :=
  match (s.lane l).probe with
  | .outstanding _ => s.probeFail l
  | .none => s
  | .queued => s

theorem State.failOutstanding_cases (s : State) (l : LaneId) :
    ((∃ x, (s.lane l).probe = .outstanding x) → s.failOutstanding l = s.probeFail l) ∧
      (¬ (∃ x, (s.lane l).probe = .outstanding x) → s.failOutstanding l = s) := by
  unfold State.failOutstanding
  split <;> simp [*]

/-- The release expiry set anew over a lane's list (R130). -/
def State.resetRelease (s : State) (l : LaneId) (lt : Nat) : State :=
  s.setLane l { s.lane l with releaseExpiry := earliestFrom (lt + 1) (s.lane l).hold }

/-- A step at a lane fails an outstanding probe, sets the release expiry, and judges the waits where entries became due
(R67, R130). -/
theorem State.laneOnStep_cases (s : State) (l : LaneId) :
    s.laneOnStep l = (s.failOutstanding l).resetRelease l s.lt ∨
      s.laneOnStep l = ((s.failOutstanding l).resetRelease l s.lt).judgeWaits l := by
  have unfolded : s.laneOnStep l = match ((s.failOutstanding l).lane l).releaseExpiry with
    | none => (s.failOutstanding l).resetRelease l s.lt
    | some t => if t ≤ s.lt then ((s.failOutstanding l).resetRelease l s.lt).judgeWaits l
      else (s.failOutstanding l).resetRelease l s.lt := rfl
  rw [unfolded]
  split
  · exact .inl rfl
  · split
    · exact .inr rfl
    · exact .inl rfl

theorem State.laneOnStep_onlyOffers (s : State) (l : LaneId) : s.OnlyOffers (s.laneOnStep l) := by
  have failed : s.OnlyOffers (s.failOutstanding l) := by
    unfold State.failOutstanding
    split
    · exact s.probeFail_onlyOffers l
    · exact .refl s
    · exact .refl s
  have reset : s.OnlyOffers ((s.failOutstanding l).resetRelease l s.lt) := failed.trans (State.setLane_onlyOffers _ l _)
  rcases s.laneOnStep_cases l with h | h <;> rw [h]
  · exact reset
  · exact reset.trans (State.judgeWaits_onlyOffers _ l)

theorem State.laneOnStep_booksKept (s : State) (l : LaneId) : s.BooksKept (s.laneOnStep l) := by
  have failed : s.BooksKept (s.failOutstanding l) := by
    unfold State.failOutstanding
    split
    · exact s.probeFail_booksKept l
    · exact .refl s
    · exact .refl s
  rcases s.laneOnStep_cases l with h | h <;> rw [h] <;> exact failed.trans (.of_same rfl rfl)

/-! ### The snapshot expiry -/

theorem State.snapshotOnStep_cases (s : State) :
    (s.evidence.snapshotExpiry = none → ∀ forward, s.snapshotOnStep forward = s) ∧
    (∀ e, s.evidence.snapshotExpiry = some e →
      (s.lt < e → s.snapshotOnStep true = s) ∧
      (e ≤ s.lt → s.snapshotOnStep true = s.takeSnapshot) ∧
      s.snapshotOnStep false = { s with
        evidence := { s.evidence with snapshotExpiry := some (nextSnapshot s.evidence.period s.lt) } }) := by
  unfold State.snapshotOnStep
  refine ⟨fun h forward => by rw [h], fun e h => ?_⟩
  rw [h]
  exact ⟨fun hlt => (if_pos rfl).trans (if_neg (not_le.mpr hlt)), fun hle => (if_pos rfl).trans (if_pos hle), rfl⟩

/-- At a step the records only grow, and the snapshot expiry alone of the evidence may be set anew; no lane and no book
changes (R179). -/
theorem State.snapshotOnStep_frame (s : State) (forward : Bool) :
    ∃ u x, s.OnlyOffers u ∧ u.lanes = s.lanes ∧ u.books = s.books ∧ u.bookUnit = s.bookUnit ∧
      s.snapshotOnStep forward = { u with evidence := { u.evidence with snapshotExpiry := x } } := by
  obtain ⟨unset, set⟩ := s.snapshotOnStep_cases
  cases hs : s.evidence.snapshotExpiry with
  | none => exact ⟨s, s.evidence.snapshotExpiry, .refl s, rfl, rfl, rfl, unset hs forward⟩
  | some e =>
    obtain ⟨ahead, due, backward⟩ := set e hs
    cases forward with
    | false => exact ⟨s, _, .refl s, rfl, rfl, rfl, backward⟩
    | true =>
      rcases lt_or_ge s.lt e with hlt | hle
      · exact ⟨s, s.evidence.snapshotExpiry, .refl s, rfl, rfl, rfl, ahead hlt⟩
      · exact ⟨_, _, s.offer_onlyOffers _, rfl, rfl, rfl, due hle⟩

/-- The snapshot expiry at a step: it stays while it is ahead of a forward step, and is else set after LT (R179). -/
theorem State.snapshotOnStep_expiry (s : State) (forward : Bool) :
    (s.evidence.snapshotExpiry = none → (s.snapshotOnStep forward).evidence.snapshotExpiry = none) ∧
    ∀ e, s.evidence.snapshotExpiry = some e → (s.snapshotOnStep forward).evidence.snapshotExpiry =
      if forward = true ∧ s.lt < e then some e else some (nextSnapshot s.evidence.period s.lt) := by
  obtain ⟨unset, set⟩ := s.snapshotOnStep_cases
  refine ⟨fun hs => by rw [unset hs, hs], fun e hs => ?_⟩
  obtain ⟨ahead, due, backward⟩ := set e hs
  cases forward with
  | false => rw [backward, if_neg (by simp)]
  | true =>
    rcases lt_or_ge s.lt e with hlt | hle
    · rw [ahead hlt, if_pos ⟨rfl, hlt⟩, hs]
    · rw [due hle, if_neg (by simpa using hle)]
      rfl

end Sys2Proof.Machine
end

section
/-! PROOFS. How a forward step carries the books over their boundaries (R104). -/

namespace Sys2Proof.Machine

/-! ### One boundary -/

theorem State.sendTrigger_withoutTriggers (s : State) (b c : BookId) (e : Nat) (l : LaneId) :
    ((s.sendTrigger b e l).book c).withoutTriggers = (s.book c).withoutTriggers := by
  refine (State.placementTest_withoutTriggers _ l c).trans ?_
  rw [State.book_setLane, State.book_setBook]
  split
  next h => rw [h, Book.withoutTriggers_setTrigger]
  next => rfl

/-- A book that enters UNCROSS sends its triggers and sets its timeout: phase and timeout of that book change, and
nothing of another one but trigger states (R103). -/
theorem State.takeUncross_withoutTriggers (s : State) (st : Bool) (b c : BookId) (a : Arming) (d : Draw) :
    (c ≠ b → ((s.takeUncross st b a d).book c).withoutTriggers = (s.book c).withoutTriggers) ∧
      ((s.takeUncross st b a d).book b).phase = .uncross := by
  have sent (c : BookId) := foldl_preserves (fun t : State => (t.book c).withoutTriggers)
    (fun t l => t.sendTrigger b d.endInstant l) (fun t l => t.sendTrigger_withoutTriggers b c d.endInstant l)
    (s.setBook b { s.book b with phase := .uncross }) (lanesOf a.lanes)
  constructor
  · intro hc
    refine Eq.trans ?_ ((sent c).trans (by rw [State.book_setBook_of_ne _ _ hc]))
    exact congrArg Book.withoutTriggers (State.book_setBook_of_ne _ _ hc)
  · have entered := congrArg Prod.fst ((sent b).trans (by rw [State.book_setBook_same]))
    exact (congrArg Book.phase (State.book_setBook_same _ _ _)).trans entered

/-- A boundary of one book changes nothing of another one but trigger states. -/
theorem State.takeBoundary_other (s : State) (st : Bool) {b c : BookId} (hc : c ≠ b) :
    ((s.takeBoundary st b).book c).withoutTriggers = (s.book c).withoutTriggers := by
  have set (t : State) (k : Book) (ht : t.books = s.books) :
      ((t.setBook b k).book c).withoutTriggers = (s.book c).withoutTriggers := by
    rw [State.book_setBook_of_ne _ _ hc]
    simp [State.book, ht]
  unfold State.takeBoundary
  split
  · exact set s _ rfl
  · exact set _ _ rfl
  · exact set s _ rfl
  · exact (s.takeUncross_withoutTriggers st b c _ _).1 hc
  · rfl

/-- The phases after the draw, before the book closes (R101 to R103). -/
def Phase.drawn (p : Phase) : Prop := p = .window ∨ p = .freeze ∨ p = .uncross

/-- A book after its draw stays among those phases at each boundary before its close. -/
theorem State.takeBoundary_drawn (s : State) (st : Bool) (b : BookId) (h : (s.book b).phase.drawn) :
    ((s.takeBoundary st b).book b).phase.drawn := by
  unfold State.takeBoundary
  split
  case h_1 hp _ => rw [hp] at h; simp [Phase.drawn] at h
  case h_2 hp _ => rw [hp] at h; simp [Phase.drawn] at h
  case h_3 => exact .inr (.inl (congrArg Book.phase (State.book_setBook_same s b _)))
  case h_4 => exact .inr (.inr (s.takeUncross_withoutTriggers st b b _ _).2)
  case h_5 => exact h

/-! ### The boundaries up to an instant -/

theorem State.takeBoundaries_other (st : Bool) (limit : Nat) {b c : BookId} (hc : c ≠ b) (fuel : Nat) (s : State) :
    ((State.takeBoundaries st limit b fuel s).book c).withoutTriggers = (s.book c).withoutTriggers := by
  induction fuel generalizing s with
  | zero => rfl
  | succ n ih =>
    unfold State.takeBoundaries
    split
    · rfl
    · split
      · exact (ih _).trans (s.takeBoundary_other st hc)
      · rfl

theorem State.takeBoundaries_drawn (st : Bool) (limit : Nat) (b : BookId) (fuel : Nat) (s : State)
    (h : (s.book b).phase.drawn) : ((State.takeBoundaries st limit b fuel s).book b).phase.drawn := by
  induction fuel generalizing s with
  | zero => exact h
  | succ n ih =>
    unfold State.takeBoundaries
    split
    · exact h
    · split
      · exact ih _ (s.takeBoundary_drawn st b h)
      · exact h

/-- The first boundary ahead decides: taken at or before the limit, and nothing is taken beyond it (R99). -/
theorem State.takeBoundaries_succ (st : Bool) (limit : Nat) (b : BookId) (n : Nat) (s : State) {t : Nat}
    (h : (s.book b).boundary = some t) :
    (limit < t → State.takeBoundaries st limit b (n + 1) s = s) ∧
      (t ≤ limit → State.takeBoundaries st limit b (n + 1) s =
        State.takeBoundaries st limit b n (s.takeBoundary st b)) := by
  rw [State.takeBoundaries, h]
  exact ⟨fun hl => if_neg (not_le.mpr hl), fun hl => if_pos hl⟩

/-- How far an ARMED book comes on the boundaries up to an instant: its Tc, then its Tw with the draw (R99 to R101). -/
def Book.CarriedTo (limit : Nat) (a : Arming) (p : Phase) : Prop :=
  (limit < a.tc → p = .armed) ∧ (a.tc ≤ limit → limit < a.tw → p = .call) ∧
    (a.tc ≤ limit → a.tw ≤ limit → p.drawn)

theorem State.takeBoundaries_armed (st : Bool) (limit : Nat) (b : BookId) (s : State) {a : Arming}
    (hp : (s.book b).phase = .armed) (ha : (s.book b).arming = some a) :
    Book.CarriedTo limit a ((State.takeBoundaries st limit b 4 s).book b).phase := by
  have atTc : (s.book b).boundary = some a.tc := by simp [Book.boundary, hp, ha]
  obtain ⟨before, taken⟩ := State.takeBoundaries_succ st limit b 3 s atTc
  have call : s.takeBoundary st b = s.takeTc st b := by simp [State.takeBoundary, hp, ha]
  have called : (s.takeTc st b).book b = { s.book b with phase := .call } := State.book_setBook_same _ _ _
  have atTw : ((s.takeTc st b).book b).boundary = some a.tw := by simp [Book.boundary, called, ha]
  obtain ⟨beforeTw, takenTw⟩ := State.takeBoundaries_succ st limit b 2 (s.takeTc st b) atTw
  have window : (s.takeTc st b).takeBoundary st b = (s.takeTc st b).takeTw st b a := by
    simp [State.takeBoundary, called, ha]
  refine ⟨fun h => ?_, fun hc hw => ?_, fun hc hw => ?_⟩
  · rw [before h, hp]
  · rw [taken hc, call, beforeTw hw, called]
  · rw [taken hc, call, takenTw hw, window]
    exact State.takeBoundaries_drawn _ _ _ _ _ (.inl (congrArg Book.phase (State.book_setBook_same _ _ _)))

/-! ### The books at a forward step -/

theorem State.lt_bookOnStep (s : State) (b : BookId) : (s.bookOnStep b).lt = s.lt :=
  State.lt_of_fixedPart (State.fixedPart_bookOnStep s b)

/-- Only the book itself is carried over boundaries, and only when it is ARMED (R104). -/
theorem State.bookOnStep_cases (s : State) (b : BookId) :
    (∀ c, c ≠ b → ((s.bookOnStep b).book c).withoutTriggers = (s.book c).withoutTriggers) ∧
    ((s.book b).phase ≠ .armed → s.bookOnStep b = s) ∧
    (∀ a, (s.book b).phase = .armed → (s.book b).arming = some a →
      Book.CarriedTo s.lt a ((s.bookOnStep b).book b).phase) := by
  unfold State.bookOnStep
  refine ⟨fun c hc => ?_, fun h => if_neg h, fun a hp ha => ?_⟩
  · split
    · exact State.takeBoundaries_other _ _ hc _ _
    · rfl
  · rw [if_pos hp]
    exact s.takeBoundaries_armed true s.lt b hp ha

theorem Book.phase_of_withoutTriggers {k k' : Book} (h : k'.withoutTriggers = k.withoutTriggers) : k'.phase = k.phase :=
  congrArg Prod.fst h

theorem Book.arming_of_withoutTriggers {k k' : Book} (h : k'.withoutTriggers = k.withoutTriggers) :
    k'.arming = k.arming := congrArg (fun x => x.2.1) h

/-- A fold in which each lane or book has one turn: what holds of `k` up to its turn, and what its turn makes of that
and every later one keeps. -/
theorem foldl_turn {α : Type} {f : State → α → State} {k : α} {P Q : State → Prop}
    (before : ∀ t a, a ≠ k → P t → P (f t a)) (turn : ∀ t, P t → Q (f t k))
    (after : ∀ t a, a ≠ k → Q t → Q (f t a)) (as : List α) (nodup : as.Nodup) (hk : k ∈ as) (s : State) (h : P s) :
    Q (as.foldl f s) := by
  have later (bs : List α) (hbs : k ∉ bs) (t : State) (ht : Q t) : Q (bs.foldl f t) := by
    induction bs generalizing t with
    | nil => exact ht
    | cons b bs ih =>
      obtain ⟨hb, hbs⟩ := not_or.mp (mt List.mem_cons.mpr hbs)
      exact ih hbs _ (after t b (Ne.symm hb) ht)
  induction as generalizing s with
  | nil => cases hk
  | cons a as ih =>
    obtain ⟨ha, nodup⟩ := List.nodup_cons.mp nodup
    rcases List.mem_cons.mp hk with rfl | hk
    · exact later as ha _ (turn s h)
    · exact ih nodup hk _ (before s a (fun e => ha (e ▸ hk)) h)

/-- At the LT of `s`, book `b` is still as it was in `s`, but for trigger states. -/
def State.AsBefore (s : State) (b : BookId) (u : State) : Prop :=
  u.lt = s.lt ∧ (u.book b).withoutTriggers = (s.book b).withoutTriggers

/-- The books after their part of a forward step (R104). -/
theorem State.booksOnStep_effect (s : State) (b : BookId) :
    let t := allBooks.foldl State.bookOnStep s
    ((s.book b).phase ≠ .armed → (t.book b).withoutTriggers = (s.book b).withoutTriggers) ∧
    (∀ a, (s.book b).phase = .armed → (s.book b).arming = some a → Book.CarriedTo s.lt a (t.book b).phase) := by
  intro t
  have member : b ∈ allBooks := by revert b; decide
  have before (u : State) (c : BookId) (hc : c ≠ b) (h : s.AsBefore b u) : s.AsBefore b (u.bookOnStep c) :=
    ⟨(u.lt_bookOnStep c).trans h.1, ((u.bookOnStep_cases c).1 b hc.symm).trans h.2⟩
  constructor
  · intro hp
    refine (foldl_turn (P := s.AsBefore b) (Q := s.AsBefore b) before (fun u h => ?_) before allBooks (by decide) member s
      ⟨rfl, rfl⟩).2
    rw [(u.bookOnStep_cases b).2.1 (by rw [Book.phase_of_withoutTriggers h.2]; exact hp)]
    exact h
  · intro a hp ha
    refine foldl_turn (P := s.AsBefore b) (Q := fun u => Book.CarriedTo s.lt a (u.book b).phase) before
      (fun u h => ?_) (fun u c hc h => ?_) allBooks (by decide) member s ⟨rfl, rfl⟩
    · rw [← h.1]
      exact (u.bookOnStep_cases b).2.2 a ((Book.phase_of_withoutTriggers h.2).trans hp) ((Book.arming_of_withoutTriggers h.2).trans ha)
    · rw [Book.phase_of_withoutTriggers ((u.bookOnStep_cases c).1 b hc.symm)]
      exact h

end Sys2Proof.Machine
end

section
/-! PROOFS. What a step does to the lanes (R67, R69, R130). -/

namespace Sys2Proof.Machine

/-! ### The earliest release time -/

/-- The earlier of an expiry and the instants of a list is one of them, and none of them is before it. -/
theorem foldl_earlierExpiry (ts : List Nat) (acc : Option Nat) :
    let first := ts.foldl (fun acc r => some (earlierExpiry acc r)) acc
    (first = none → acc = none ∧ ts = []) ∧
      ∀ z, first = some z → (z ∈ ts ∨ acc = some z) ∧ (∀ x ∈ ts, z ≤ x) ∧ ∀ y, acc = some y → z ≤ y := by
  induction ts generalizing acc with
  | nil => exact ⟨fun h => ⟨h, rfl⟩, fun z h => ⟨.inr h, by simp, fun y hy => by cases h.symm.trans hy; exact le_rfl⟩⟩
  | cons t ts ih =>
    obtain ⟨unset, set⟩ := ih (some (earlierExpiry acc t))
    refine ⟨fun h => absurd (unset h).1 (by simp), fun z h => ?_⟩
    obtain ⟨source, least, first⟩ := set z h
    have bound := first _ rfl
    cases acc with
    | none =>
      refine ⟨.inl ?_, List.forall_mem_cons.mpr ⟨bound, least⟩, fun y hy => by cases hy⟩
      rcases source with hz | hz
      · exact List.mem_cons_of_mem _ hz
      · exact List.mem_cons.mpr (.inl (Option.some.inj hz).symm)
    | some x =>
      have bound : z ≤ min x t := bound
      refine ⟨?_, List.forall_mem_cons.mpr ⟨bound.trans (min_le_right _ _), least⟩, fun y hy => ?_⟩
      · rcases source with hz | hz
        · exact .inl (List.mem_cons_of_mem _ hz)
        · have hz : min x t = z := Option.some.inj hz
          rcases min_choice x t with hm | hm
          · exact .inr (congrArg some (hm.symm.trans hz))
          · exact .inl (List.mem_cons.mpr (.inl (hz.symm.trans hm)))
      · cases hy
        exact bound.trans (min_le_left _ _)

/-- The release expiry over a list is the earliest release time from `t` on, and there is one if any entry has such a
time (R130). -/
theorem earliestFrom_spec (t : Nat) (hold : List HoldEntry) :
    (∀ z, earliestFrom t hold = some z →
      t ≤ z ∧ (∃ e ∈ hold, e.release = z) ∧ ∀ e ∈ hold, t ≤ e.release → z ≤ e.release) ∧
    (earliestFrom t hold = none → ∀ e ∈ hold, e.release < t) := by
  obtain ⟨unset, set⟩ := foldl_earlierExpiry ((hold.map HoldEntry.release).filter fun r => t ≤ r) none
  refine ⟨fun z h => ?_, fun h e he => ?_⟩
  · obtain ⟨source, least, -⟩ := set z h
    have member := source.resolve_right (by simp)
    simp only [List.mem_filter, List.mem_map, decide_eq_true_eq] at member least
    exact ⟨member.2, member.1, fun e he hte => least _ ⟨⟨e, he, rfl⟩, hte⟩⟩
  · by_contra hte
    have member : e.release ∈ (hold.map HoldEntry.release).filter fun r => t ≤ r := by
      simp only [List.mem_filter, List.mem_map, decide_eq_true_eq]
      exact ⟨⟨e, he, rfl⟩, not_lt.mp hte⟩
    rw [(unset h).2] at member
    cases member

/-- The release expiry depends on the release times alone. -/
theorem earliestFrom_of_bodies {hold hold' : List HoldEntry} (h : bodies hold' = bodies hold) (t : Nat) :
    earliestFrom t hold' = earliestFrom t hold := by
  have releases (es : List HoldEntry) : es.map HoldEntry.release = (bodies es).map Prod.snd := by
    simp [bodies, Function.comp_def]
  unfold earliestFrom
  rw [releases, releases, h]

/-! ### Lanes that a step shifts -/

/-- The lane `v` is the lane `u` after triggers were placed in it, replies completed and its release expiry set. -/
def LaneUnit.Shifted (u v : LaneUnit) : Prop :=
  (∃ added, bodies v.hold = bodies u.hold ++ added ∧ ∀ x ∈ added, ∃ b i, x.1 = HoldBody.trigger b i) ∧
    v = { u with
      hold := v.hold, pendingTriggers := v.pendingTriggers, replies := v.replies, releaseExpiry := v.releaseExpiry }

theorem LaneUnit.Shifted.of_placed {u v : LaneUnit} (h : u.Placed v) : u.Shifted v :=
  ⟨h.1, by rw [h.2]⟩

theorem LaneUnit.Shifted.trans {u v w : LaneUnit} (h : u.Shifted v) (k : v.Shifted w) : u.Shifted w := by
  obtain ⟨⟨a, ha, ta⟩, hv⟩ := h
  obtain ⟨⟨b, hb, tb⟩, hw⟩ := k
  refine ⟨⟨a ++ b, by rw [hb, ha, List.append_assoc], fun x hx => ?_⟩, by rw [hw, hv]⟩
  exact (List.mem_append.mp hx).elim (ta x) (tb x)

theorem LaneUnit.Shifted.of_replies (u : LaneUnit) (q : List Reply) : u.Shifted { u with replies := q } :=
  ⟨⟨[], by simp, by simp⟩, rfl⟩

theorem LaneUnit.Shifted.of_releaseExpiry (u : LaneUnit) (z : Option Nat) : u.Shifted { u with releaseExpiry := z } :=
  ⟨⟨[], by simp, by simp⟩, rfl⟩

/-! ### A compensation installed as a probe ends -/

/-- A lane without a frame in reception, with its waiting compensation installed (R69). -/
def LaneUnit.installed (u : LaneUnit) : LaneUnit :=
  if u.rx.isNone then
    { u with
      cLane := u.pendingC.getD u.cLane, uLane := u.pendingU.getD u.uLane, pendingC := none, pendingU := none }
  else u

theorem State.placementTest_lane_other (s : State) {l k : LaneId} (h : k ≠ l) :
    (s.placementTest l).lane k = s.lane k :=
  foldl_preserves (fun t : State => t.lane k) (fun t p => t.placeTrigger l p)
    (fun _ _ => (State.judgeWaits_lane_other _ h).trans (State.lane_setLane_of_ne _ _ h)) _ _

/-- An installation sets C_lane and U_lane, and may place triggers (R69, R140). -/
theorem State.install_lane (s : State) (l : LaneId) (c u : Nat) (r : Option Nat) :
    ({ s.lane l with cLane := c, uLane := u } : LaneUnit).Placed ((s.install l c u r).lane l) ∧
      ∀ k, k ≠ l → (s.install l c u r).lane k = s.lane k := by
  have set (t : State) (hold : (t.lane l).hold = (s.lane l).hold)
      (ht : t.lane l = { s.lane l with cLane := c, uLane := u, pendingTriggers := (t.lane l).pendingTriggers }) :
      ({ s.lane l with cLane := c, uLane := u } : LaneUnit).Placed ((t.placementTest l).lane l) := by
    refine LaneUnit.Placed.trans ⟨⟨[], by rw [hold]; simp, by simp⟩, ?_⟩ (t.placementTest_placed l l)
    rw [ht]
  refine ⟨set _ ?_ ?_, fun k hk => ?_⟩
  · rw [State.lane_setLane_same]
  · rw [State.lane_setLane_same]
  · exact (State.placementTest_lane_other _ hk).trans (State.lane_setLane_of_ne _ _ hk)

theorem LaneUnit.installed_of_not {u : LaneUnit} (h : ¬ (u.compPending = true ∧ u.rx.isNone = true)) :
    u.installed = u := by
  unfold LaneUnit.installed
  split
  next hrx =>
    obtain ⟨hc, hu⟩ : u.pendingC = none ∧ u.pendingU = none := by
      have : ¬ u.compPending = true := fun hp => h ⟨hp, hrx⟩
      simpa [LaneUnit.compPending] using this
    cases u
    simp_all
  next => rfl

/-- An installation sets the compensation of its lane, may place triggers there, and leaves the other lanes alone
(R69, R140). -/
theorem State.installPending_lane (s : State) (l : LaneId) (h : (s.lane l).probe = .none) :
    (s.lane l).installed.Placed ((s.installPending l).lane l) ∧
      ∀ k, k ≠ l → (s.installPending l).lane k = s.lane k := by
  by_cases hc : (s.lane l).compPending = true ∧ (s.lane l).rx.isNone = true
  · obtain ⟨lane, others⟩ := State.install_lane (s.setLane l { s.lane l with pendingC := none, pendingU := none }) l
      ((s.lane l).pendingC.getD (s.lane l).cLane) ((s.lane l).pendingU.getD (s.lane l).uLane) none
    have installs : s.installPending l = _ := if_pos (by simp [hc.1, hc.2, h])
    rw [State.lane_setLane_same] at lane
    rw [installs, LaneUnit.installed, if_pos hc.2]
    exact ⟨lane, fun k hk => (others k hk).trans (State.lane_setLane_of_ne _ _ hk)⟩
  · have stays : s.installPending l = s := if_neg fun hi => hc (by simpa [h] using hi)
    rw [stays, LaneUnit.installed_of_not hc]
    exact ⟨.refl _, fun _ _ => rfl⟩

/-! ### The end of an outstanding probe -/

/-- A lane as a step leaves it, but for triggers placed, replies and the release expiry: an outstanding probe fails, and
a waiting compensation is then installed (R67, R69). -/
def LaneUnit.onStep (u : LaneUnit) : LaneUnit :=
  match u.probe with
  | .outstanding _ => { u with probe := .none, state := u.state.afterProbe }.installed
  | .none => u
  | .queued => u

/-- A probe that has failed, before a waiting compensation is installed (R67). -/
def State.probeEnded (s : State) (l : LaneId) : State :=
  let u := s.lane l
  let replied := (s.offer (.lane
    { lane := l, event := .probeFailed, comp := some ⟨u.cLane, u.cLane, u.uLane, u.uLane⟩ })).completeReply l .probe .ok
      (u.commandContent l .probe (some probeFailedCode) none)
  replied.setLane l { replied.lane l with probe := .none, state := u.state.afterProbe }

theorem State.probeFail_eq (s : State) (l : LaneId) : s.probeFail l = (s.probeEnded l).installPending l := rfl

/-- The lanes after a failed probe: the deferred reply is completed wherever it stands (R67, R194). -/
theorem State.probeEnded_lane (s : State) (l : LaneId) :
    ∃ content, let replied (k : LaneId) := completeIn l .probe .ok content (s.lane k).replies
      (s.probeEnded l).lane l =
        { s.lane l with probe := .none, state := (s.lane l).state.afterProbe, replies := replied l } ∧
      ∀ k, k ≠ l → (s.probeEnded l).lane k = { s.lane k with replies := replied k } := by
  refine ⟨(s.lane l).commandContent l .probe (some probeFailedCode) none, ?_, fun k hk => ?_⟩
  · refine (State.lane_setLane_same _ _ _).trans ?_
    rw [State.completeReply_lane]
    rfl
  · refine (State.lane_setLane_of_ne _ _ hk).trans ?_
    rw [State.completeReply_lane]
    rfl

theorem LaneUnit.installed_replies (u : LaneUnit) (q : List Reply) :
    ({ u with replies := q } : LaneUnit).installed = { u.installed with replies := q } := by
  unfold LaneUnit.installed
  dsimp only
  split <;> rfl

/-- A failed probe: its lane, the other lanes, and the deferred reply completed in every queue (R67, R69, R194). -/
theorem State.probeFail_lanes (s : State) (l : LaneId) :
    ({ s.lane l with probe := .none, state := (s.lane l).state.afterProbe } : LaneUnit).installed.Shifted
        ((s.probeFail l).lane l) ∧
      (∀ k, k ≠ l → (s.probeFail l).lane k = { s.lane k with replies := ((s.probeFail l).lane k).replies }) ∧
      ∃ content, ∀ k, ((s.probeFail l).lane k).replies = completeIn l .probe .ok content (s.lane k).replies := by
  obtain ⟨content, lane, others⟩ := s.probeEnded_lane l
  have ended : ((s.probeEnded l).lane l).probe = .none := by rw [lane]
  obtain ⟨placed, rest⟩ := (s.probeEnded l).installPending_lane l ended
  rw [State.probeFail_eq]
  rw [lane, LaneUnit.installed_replies { s.lane l with probe := .none, state := (s.lane l).state.afterProbe }] at placed
  refine ⟨(LaneUnit.Shifted.of_replies _ _).trans (.of_placed placed), fun k hk => ?_, content, fun k => ?_⟩
  · rw [rest k hk, others k hk]
  · by_cases hk : k = l
    · subst hk
      rw [placed.2]
    · rw [rest k hk, others k hk]

/-- The lanes once an outstanding probe of lane `l` has failed (R67). -/
theorem State.failOutstanding_lanes (s : State) (l : LaneId) :
    (s.lane l).onStep.Shifted ((s.failOutstanding l).lane l) ∧
    (∀ k, k ≠ l → (s.failOutstanding l).lane k =
      { s.lane k with replies := ((s.failOutstanding l).lane k).replies }) ∧
    (¬ (∃ x, (s.lane l).probe = .outstanding x) → s.failOutstanding l = s) ∧
    ((∃ x, (s.lane l).probe = .outstanding x) →
      ∃ content, ∀ k, ((s.failOutstanding l).lane k).replies = completeIn l .probe .ok content (s.lane k).replies) := by
  obtain ⟨fails, rests⟩ := s.failOutstanding_cases l
  obtain ⟨shifted, others, replies⟩ := s.probeFail_lanes l
  by_cases hf : ∃ x, (s.lane l).probe = .outstanding x
  · rw [fails hf]
    refine ⟨?_, others, fun h => absurd hf h, fun _ => replies⟩
    obtain ⟨x, hx⟩ := hf
    rw [LaneUnit.onStep, hx]
    exact shifted
  · rw [rests hf]
    refine ⟨?_, fun _ _ => rfl, fun _ => rfl, fun h => absurd h hf⟩
    have stays : (s.lane l).onStep = s.lane l := by
      unfold LaneUnit.onStep
      split
      next x hx => exact absurd ⟨x, hx⟩ hf
      next => rfl
      next => rfl
    rw [stays]
    exact .of_replies _ _

/-! ### The turn of one lane -/

/-- After the failure a step sets the lane's release expiry and may mark waits; it touches no other lane (R130). -/
theorem State.laneOnStep_after (s : State) (l : LaneId) :
    let u := s.failOutstanding l
    let v := (s.laneOnStep l).lane l
    (u.lane l).Shifted v ∧ v.replies = (u.lane l).replies ∧ v.releaseExpiry = earliestFrom (s.lt + 1) v.hold ∧
      ∀ k, k ≠ l → (s.laneOnStep l).lane k = u.lane k := by
  intro u v
  have lane : (u.resetRelease l s.lt).lane l = _ := State.lane_setLane_same u l _
  have others {k : LaneId} (hk : k ≠ l) : (u.resetRelease l s.lt).lane k = u.lane k := State.lane_setLane_of_ne u _ hk
  have reset : (u.lane l).Shifted ((u.resetRelease l s.lt).lane l) := by
    rw [lane]
    exact .of_releaseExpiry _ _
  rcases s.laneOnStep_cases l with h | h
  · simp only [v, h]
    exact ⟨reset, by rw [lane], by rw [lane], fun k hk => others hk⟩
  · obtain ⟨marked, same⟩ := (u.resetRelease l s.lt).judgeWaits_lane l
    have placed := (u.resetRelease l s.lt).judgeWaits_placed l l
    simp only [v, h]
    refine ⟨reset.trans (.of_placed placed), by rw [marked, lane], ?_, fun k hk => ?_⟩
    · rw [earliestFrom_of_bodies same, marked, lane]
    · exact (State.judgeWaits_lane_other _ hk).trans (others hk)

/-- One step at a lane: what it makes of the lane itself, whose release expiry then follows its list (R67, R130). -/
theorem State.laneOnStep_lane (s : State) (l : LaneId) :
    let v := (s.laneOnStep l).lane l
    (s.lane l).onStep.Shifted v ∧ v.releaseExpiry = earliestFrom (s.lt + 1) v.hold := by
  obtain ⟨shifted, -, expiry, -⟩ := s.laneOnStep_after l
  exact ⟨(s.failOutstanding_lanes l).1.trans shifted, expiry⟩

/-- The replies of every lane after the turn of lane `l` (R67, R194). -/
theorem State.laneOnStep_replies (s : State) (l k : LaneId) :
    ((s.laneOnStep l).lane k).replies = ((s.failOutstanding l).lane k).replies := by
  obtain ⟨-, replies, -, others⟩ := s.laneOnStep_after l
  by_cases hk : k = l
  · subst hk
    exact replies
  · rw [others k hk]

/-- One step at a lane leaves the other lanes alone but for replies, and completes the deferred replies of a probe that
fails (R67). -/
theorem State.laneOnStep_others (s : State) (l : LaneId) :
    (∀ k, k ≠ l → (s.laneOnStep l).lane k = { s.lane k with replies := ((s.laneOnStep l).lane k).replies }) ∧
    (∀ k, ∀ r ∈ ((s.laneOnStep l).lane k).replies, r ∈ (s.lane k).replies ∨ ∃ st c, r.body = .completed st c) ∧
    ((∃ x, (s.lane l).probe = .outstanding x) →
      ∀ k, ∀ r ∈ ((s.laneOnStep l).lane k).replies, r.body ≠ .deferred l .probe) := by
  obtain ⟨-, -, -, others⟩ := s.laneOnStep_after l
  obtain ⟨-, keptBut, rests, fails⟩ := s.failOutstanding_lanes l
  refine ⟨fun k hk => ?_, fun k r hr => ?_, fun hf k r hr => ?_⟩
  · rw [others k hk]
    exact keptBut k hk
  · rw [State.laneOnStep_replies] at hr
    by_cases hf : ∃ x, (s.lane l).probe = .outstanding x
    · obtain ⟨content, completed⟩ := fails hf
      rw [completed k] at hr
      obtain ⟨q, hq, rfl⟩ := List.mem_map.mp hr
      split
      · exact .inr ⟨_, _, rfl⟩
      · exact .inl hq
    · rw [rests hf] at hr
      exact .inl hr
  · obtain ⟨content, completed⟩ := fails hf
    rw [State.laneOnStep_replies, completed k] at hr
    exact completeIn_no_deferred _ _ _ _ _ r hr

/-! ### The turns of all lanes -/

/-- At the LT of `s`, lane `k` is still as it was in `s`, but for replies. -/
def State.LaneAsBefore (s : State) (k : LaneId) (t : State) : Prop :=
  t.lt = s.lt ∧ t.lane k = { s.lane k with replies := (t.lane k).replies }

/-- Lane `k` has had its turn of the step that began in `s`. -/
def State.LaneTurned (s : State) (k : LaneId) (t : State) : Prop :=
  (s.lane k).onStep.Shifted (t.lane k) ∧ (t.lane k).releaseExpiry = earliestFrom (s.lt + 1) (t.lane k).hold ∧
    ((∃ x, (s.lane k).probe = .outstanding x) → ∀ m, ∀ r ∈ (t.lane m).replies, r.body ≠ .deferred k .probe)

theorem LaneUnit.onStep_replies (u : LaneUnit) (q : List Reply) :
    ({ u with replies := q } : LaneUnit).onStep = { u.onStep with replies := q } := by
  unfold LaneUnit.onStep
  dsimp only
  split
  · exact LaneUnit.installed_replies { u with probe := .none, state := u.state.afterProbe } q
  · rfl
  · rfl

theorem State.LaneAsBefore.turn {s t : State} {k : LaneId} (h : s.LaneAsBefore k t) :
    s.LaneTurned k (t.laneOnStep k) := by
  obtain ⟨lt, lane⟩ := h
  obtain ⟨shifted, expiry⟩ := t.laneOnStep_lane k
  obtain ⟨-, -, completed⟩ := t.laneOnStep_others k
  have probe : (t.lane k).probe = (s.lane k).probe := by rw [lane]
  rw [lane, LaneUnit.onStep_replies] at shifted
  refine ⟨(LaneUnit.Shifted.of_replies _ _).trans shifted, by rw [expiry, lt], fun hf => completed ?_⟩
  rwa [probe]

theorem State.LaneTurned.later {s t : State} {k l : LaneId} (h : s.LaneTurned k t) (hl : l ≠ k) :
    s.LaneTurned k (t.laneOnStep l) := by
  obtain ⟨shifted, expiry, noDeferred⟩ := h
  obtain ⟨others, replies, -⟩ := t.laneOnStep_others l
  have kept := others k hl.symm
  refine ⟨shifted.trans ?_, ?_, fun hf m r hr => ?_⟩
  · rw [kept]
    exact .of_replies _ _
  · rw [kept]
    exact expiry
  · rcases replies m r hr with old | ⟨st, c, done⟩
    · exact noDeferred hf m r old
    · rw [done]
      simp

/-- Every lane has its turn of a step (R67, R130). -/
theorem State.lanesOnStep_turned (s : State) (k : LaneId) : s.LaneTurned k (allLanes.foldl State.laneOnStep s) := by
  refine foldl_turn (P := s.LaneAsBefore k) (Q := s.LaneTurned k) (fun t l hl h => ?_) (fun t h => h.turn)
    (fun t l hl h => h.later hl) allLanes (by decide) (mem_allLanes k) s ⟨rfl, rfl⟩
  obtain ⟨lt, lane⟩ := h
  refine ⟨(State.lt_of_fixedPart (State.fixedPart_laneOnStep t l)).trans lt, ?_⟩
  refine ((t.laneOnStep_others l).1 k hl.symm).trans ?_
  rw [lane]

end Sys2Proof.Machine
end

section
/-! PROOFS. The step of LT (R26, R31, R104, R130, R152, R179). -/

namespace Sys2Proof.Machine

/-! ### A lane at a step -/

/-- What an installation leaves of a lane (R69). -/
theorem LaneUnit.installed_spec (u : LaneUnit) :
    (u.rx = none → u.installed = { u with
      cLane := u.pendingC.getD u.cLane, uLane := u.pendingU.getD u.uLane, pendingC := none, pendingU := none }) ∧
      (u.rx ≠ none → u.installed = u) := by
  unfold LaneUnit.installed
  exact ⟨fun h => if_pos (by rw [h]; rfl), fun h => if_neg (by simpa using h)⟩

/-- What a step leaves of a lane with an outstanding probe, and of any other lane (R67, R69). -/
theorem LaneUnit.onStep_spec (u : LaneUnit) :
    ((∃ x, u.probe = .outstanding x) → u.rx = none → u.onStep = { u with
      probe := .none, state := u.state.afterProbe
      cLane := u.pendingC.getD u.cLane, uLane := u.pendingU.getD u.uLane, pendingC := none, pendingU := none }) ∧
    ((∃ x, u.probe = .outstanding x) → u.rx ≠ none →
      u.onStep = { u with probe := .none, state := u.state.afterProbe }) ∧
    (¬ (∃ x, u.probe = .outstanding x) → u.onStep = u) := by
  obtain ⟨installs, stays⟩ := LaneUnit.installed_spec { u with probe := .none, state := u.state.afterProbe }
  refine ⟨?_, ?_, fun h => ?_⟩
  · rintro ⟨x, hx⟩ hr
    rw [LaneUnit.onStep, hx]
    exact installs hr
  · rintro ⟨x, hx⟩ hr
    rw [LaneUnit.onStep, hx]
    exact stays hr
  · unfold LaneUnit.onStep
    split
    next x hx => exact absurd ⟨x, hx⟩ h
    next => rfl
    next => rfl

/-- What no part of a step touches in a lane. -/
theorem LaneUnit.Shifted.frame {u v : LaneUnit} (h : u.onStep.Shifted v) :
    v.rx = u.rx ∧ v.aLink = u.aLink ∧ v.bLink = u.bLink ∧ v.credits = u.credits ∧ v.notices = u.notices ∧
      v.reports = u.reports ∧ v.requests = u.requests ∧ v.counts = u.counts := by
  obtain ⟨installs, stays, rests⟩ := u.onStep_spec
  rw [h.2]
  by_cases hf : ∃ x, u.probe = .outstanding x
  · by_cases hr : u.rx = none
    · rw [installs hf hr]
      exact ⟨rfl, rfl, rfl, rfl, rfl, rfl, rfl, rfl⟩
    · rw [stays hf hr]
      exact ⟨rfl, rfl, rfl, rfl, rfl, rfl, rfl, rfl⟩
  · rw [rests hf]
    exact ⟨rfl, rfl, rfl, rfl, rfl, rfl, rfl, rfl⟩

/-- The probe, the state and the compensation of a lane after a step (R67, R69). -/
theorem LaneUnit.Shifted.probe {u v : LaneUnit} (h : u.onStep.Shifted v) :
    let fails := ∃ x, u.probe = .outstanding x
    (fails → v.probe = .none ∧ v.state = u.state.afterProbe) ∧
    (¬ fails → v.probe = u.probe ∧ v.state = u.state) ∧
    (fails ∧ u.rx = none → v.cLane = u.pendingC.getD u.cLane ∧ v.uLane = u.pendingU.getD u.uLane ∧
      v.pendingC = none ∧ v.pendingU = none) ∧
    (¬ (fails ∧ u.rx = none) →
      v.cLane = u.cLane ∧ v.uLane = u.uLane ∧ v.pendingC = u.pendingC ∧ v.pendingU = u.pendingU) := by
  intro fails
  obtain ⟨installs, stays, rests⟩ := u.onStep_spec
  rw [h.2]
  by_cases hf : fails
  · by_cases hr : u.rx = none
    · rw [installs hf hr]
      exact ⟨fun _ => ⟨rfl, rfl⟩, fun hn => absurd hf hn, fun _ => ⟨rfl, rfl, rfl, rfl⟩, fun hn => absurd ⟨hf, hr⟩ hn⟩
    · rw [stays hf hr]
      exact ⟨fun _ => ⟨rfl, rfl⟩, fun hn => absurd hf hn, fun hi => absurd hi.2 hr, fun _ => ⟨rfl, rfl, rfl, rfl⟩⟩
  · rw [rests hf]
    exact ⟨fun hi => absurd hi hf, fun _ => ⟨rfl, rfl⟩, fun hi => absurd hi.1 hf, fun _ => ⟨rfl, rfl, rfl, rfl⟩⟩

theorem LaneUnit.onStep_hold (u : LaneUnit) : u.onStep.hold = u.hold := by
  obtain ⟨installs, stays, rests⟩ := u.onStep_spec
  by_cases hf : ∃ x, u.probe = .outstanding x
  · by_cases hr : u.rx = none
    · rw [installs hf hr]
    · rw [stays hf hr]
  · rw [rests hf]

/-- A hold list keeps its entries through a step and gains triggers at most (R130, R141). -/
theorem LaneUnit.Shifted.gains {u v : LaneUnit} (h : u.onStep.Shifted v) :
    ∃ added, bodies v.hold = bodies u.hold ++ added ∧ ∀ x ∈ added, ∃ b i, x.1 = HoldBody.trigger b i := by
  rw [← u.onStep_hold]
  exact h.1

/-- Triggers placed before the lane's part of a step are still placed after it. -/
theorem LaneUnit.Placed.onStep {u v : LaneUnit} (h : u.Placed v) : u.onStep.Shifted v.onStep := by
  obtain ⟨added, hv⟩ := h
  obtain ⟨installs, stays, rests⟩ := u.onStep_spec
  obtain ⟨installs', stays', rests'⟩ := v.onStep_spec
  have probe : v.probe = u.probe := by rw [hv]
  have rx : v.rx = u.rx := by rw [hv]
  rw [probe, rx] at installs' stays'
  rw [probe] at rests'
  by_cases hf : ∃ x, u.probe = .outstanding x
  · by_cases hr : u.rx = none
    · rw [installs hf hr, installs' hf hr]
      exact ⟨added, by rw [hv]⟩
    · rw [stays hf hr, stays' hf hr]
      exact ⟨added, by rw [hv]⟩
  · rw [rests hf, rests' hf]
    exact .of_placed ⟨added, hv⟩

/-! ### The stages of a step -/

theorem State.reserveForStep_frame (s : State) :
    s.reserveForStep.lanes = s.lanes ∧ s.reserveForStep.books = s.books ∧
      s.reserveForStep.bookUnit = s.bookUnit := by
  have reserved (t : State) (l : LaneId) : (t.reserve l).books = t.books ∧ (t.reserve l).bookUnit = t.bookUnit := by
    unfold State.reserve
    split
    · exact ⟨rfl, rfl⟩
    · split <;> exact ⟨rfl, rfl⟩
  refine ⟨foldl_preserves State.lanes _ (fun t l => ?_) _ _, foldl_preserves State.books _ (fun t l => ?_) _ _,
    foldl_preserves State.bookUnit _ (fun t l => ?_) _ _⟩ <;> split
  · exact t.reserve_lanes l
  · rfl
  · exact (reserved t l).1
  · rfl
  · exact (reserved t l).2
  · rfl

/-- A step once the clock and, when it is forward, the books have had their part (R26, R104). -/
def State.booksStepped (s : State) (m : Marker) : State :=
  let clocked := s.reserveForStep.stepClock m
  if m.theta < 0 then allBooks.foldl State.bookOnStep clocked else clocked

theorem State.booksStepped_cases (s : State) (m : Marker) :
    (m.theta < 0 → s.booksStepped m = allBooks.foldl State.bookOnStep (s.reserveForStep.stepClock m)) ∧
      (0 ≤ m.theta → s.booksStepped m = s.reserveForStep.stepClock m) := by
  unfold State.booksStepped
  exact ⟨fun h => if_pos h, fun h => if_neg (not_lt.mpr h)⟩

/-- A step once the lanes have had theirs too (R67, R130). -/
def State.lanesStepped (s : State) (m : Marker) : State := allLanes.foldl State.laneOnStep (s.booksStepped m)

theorem State.stepLt_eq (s : State) (m : Marker) :
    s.stepLt m = (s.lanesStepped m).snapshotOnStep (m.theta < 0) := rfl

/-- The stages after the clock side leave LT where the step set it (R26). -/
theorem State.stepLt_lt (s : State) (m : Marker) (hm : m.theta = (s.lt : Int) - (m.seconds * 1000000000 : Nat)) :
    let lt := m.seconds * 1000000000
    (s.reserveForStep.stepClock m).lt = lt ∧ (s.booksStepped m).lt = lt ∧ (s.lanesStepped m).lt = lt := by
  intro lt
  obtain ⟨time, -⟩ := s.stepLt_clock m hm
  have whole : (s.stepLt m).lt = lt := by rw [State.lt, time]
  have lanes : (s.lanesStepped m).fixedPart = (s.booksStepped m).fixedPart :=
    foldl_preserves State.fixedPart _ State.fixedPart_laneOnStep _ _
  have ended : (s.stepLt m).fixedPart = (s.lanesStepped m).fixedPart := by
    rw [State.stepLt_eq, State.fixedPart_snapshotOnStep]
  have clocked := State.lt_of_fixedPart (s.stepLt_fixedPart m)
  have books := State.lt_of_fixedPart (ended.trans lanes)
  exact ⟨clocked.symm.trans whole, books.symm.trans whole, (State.lt_of_fixedPart ended).symm.trans whole⟩

theorem State.booksStepped_onlyOffers (s : State) (m : Marker) : s.reserveForStep.OnlyOffers (s.booksStepped m) := by
  unfold State.booksStepped
  dsimp only
  split
  · exact (State.stepClock_onlyOffers _ m).trans (State.OnlyOffers.foldl State.bookOnStep_onlyOffers _ _)
  · exact State.stepClock_onlyOffers _ m

theorem State.lanesStepped_onlyOffers (s : State) (m : Marker) : s.reserveForStep.OnlyOffers (s.lanesStepped m) :=
  (s.booksStepped_onlyOffers m).trans (State.OnlyOffers.foldl State.laneOnStep_onlyOffers _ _)

theorem State.booksStepped_placed (s : State) (m : Marker) : s.PlacedIn (s.booksStepped m) := by
  obtain ⟨reserved, -⟩ := s.reserveForStep_frame
  have clocked : s.PlacedIn (s.reserveForStep.stepClock m) :=
    .of_lanes ((State.stepClock_lanes_books _ m).1.trans reserved)
  unfold State.booksStepped
  dsimp only
  split
  · exact clocked.trans (State.PlacedIn.foldl State.bookOnStep_placed _ _)
  · exact clocked

/-! ### Each part of the state after a step -/

/-- A lane after a step (R67, R69, R130). -/
theorem State.stepLt_lane (s : State) (m : Marker) (hm : m.theta = (s.lt : Int) - (m.seconds * 1000000000 : Nat))
    (k : LaneId) :
    let u := (s.stepLt m).lane k
    (s.lane k).onStep.Shifted u ∧ u.releaseExpiry = earliestFrom (m.seconds * 1000000000 + 1) u.hold ∧
      ((∃ x, (s.lane k).probe = .outstanding x) →
        ∀ i, ∀ r ∈ ((s.stepLt m).lane i).replies, r.body ≠ .deferred k .probe) := by
  obtain ⟨-, books, -⟩ := s.stepLt_lt m hm
  obtain ⟨u, x, -, lanes, -, -, ended⟩ := (s.lanesStepped m).snapshotOnStep_frame (m.theta < 0)
  have same (i : LaneId) : (s.stepLt m).lane i = (s.lanesStepped m).lane i := by
    rw [State.stepLt_eq, ended]
    simp [State.lane, lanes]
  have placed := s.booksStepped_placed m k
  obtain ⟨shifted, expiry, noDeferred⟩ := (s.booksStepped m).lanesOnStep_turned k
  simp only [same]
  refine ⟨placed.onStep.trans shifted, by rw [← books]; exact expiry, fun hf => noDeferred ?_⟩
  rwa [show ((s.booksStepped m).lane k).probe = (s.lane k).probe by rw [placed.2]]

/-- The books after a step (R104). -/
theorem State.stepLt_books (s : State) (m : Marker) (hm : m.theta = (s.lt : Int) - (m.seconds * 1000000000 : Nat)) :
    (0 ≤ m.theta → (s.stepLt m).bookUnit = s.bookUnit) ∧
    (∀ b, 0 ≤ m.theta ∨ (s.book b).phase ≠ .armed →
      ((s.stepLt m).book b).withoutTriggers = (s.book b).withoutTriggers) ∧
    (m.theta < 0 → ∀ b a, (s.book b).phase = .armed → (s.book b).arming = some a →
      Book.CarriedTo (m.seconds * 1000000000) a ((s.stepLt m).book b).phase) := by
  obtain ⟨clock, -, -⟩ := s.stepLt_lt m hm
  obtain ⟨-, reservedBooks, reservedUnit⟩ := s.reserveForStep_frame
  obtain ⟨-, clockedBooks, clockedUnit⟩ := s.reserveForStep.stepClock_lanes_books m
  have clocked (b : BookId) : (s.reserveForStep.stepClock m).book b = s.book b := by
    simp [State.book, clockedBooks, reservedBooks]
  obtain ⟨lanesBook, lanesUnit⟩ := State.BooksKept.foldl State.laneOnStep_booksKept (s.booksStepped m) allLanes
  obtain ⟨u, x, -, -, books, unit, ended⟩ := (s.lanesStepped m).snapshotOnStep_frame (m.theta < 0)
  have whole (b : BookId) : ((s.stepLt m).book b).withoutTriggers = ((s.booksStepped m).book b).withoutTriggers := by
    refine Eq.trans ?_ (lanesBook b)
    rw [State.stepLt_eq, ended]
    simp [State.book, books, State.lanesStepped]
  have phase (b : BookId) : ((s.stepLt m).book b).phase = ((s.booksStepped m).book b).phase :=
    Book.phase_of_withoutTriggers (whole b)
  obtain ⟨forward, backward⟩ := s.booksStepped_cases m
  refine ⟨fun h => ?_, fun b h => ?_, fun h b a hp ha => ?_⟩
  · have lanes : (s.lanesStepped m).bookUnit = s.bookUnit := by
      rw [State.lanesStepped, lanesUnit, backward h, clockedUnit, reservedUnit]
    rw [State.stepLt_eq, ended]
    exact unit.trans lanes
  · rw [whole b]
    rcases lt_or_ge m.theta 0 with hn | hn
    · rw [forward hn, (State.booksOnStep_effect _ b).1 (by
        rw [clocked]
        exact h.resolve_left (not_le.mpr hn)), clocked]
    · rw [backward hn, clocked]
  · rw [phase b, forward h, ← clock]
    exact (State.booksOnStep_effect _ b).2 a (by rw [clocked, hp]) (by rw [clocked, ha])

/-- Records offered after reservations leave them as they were given. -/
theorem State.ReservedFor.offers {s t u : State} {ls : List LaneId} (h : s.ReservedFor t ls) (k : t.OnlyOffers u) :
    s.ReservedFor u ls where
  counter := h.counter.trans k.counter
  held x hx := k.held x (h.held x hx)
  period := k.period.trans h.period
  snapshotExpiry := k.snapshotExpiry.trans h.snapshotExpiry
  others l hl := (k.reservation l).trans (h.others l hl)
  kept l r hr := (k.reservation l).trans (h.kept l r hr)
  given l hl hn := by
    obtain ⟨r, ⟨given, low, high, bound⟩, before⟩ := h.given l hl hn
    refine ⟨r, ⟨(k.reservation l).trans given, low, lt_of_lt_of_le high k.counter, fun hb => ?_⟩, fun m q hlm hm hq hr =>
      before m q hlm hm hq ((k.reservation m).symm.trans hr)⟩
    obtain ⟨x, hx, spelt⟩ := bound hb
    exact ⟨x, k.held x hx, spelt⟩

/-- Records offered before reservations leave which lanes need one. -/
theorem State.OnlyOffers.reserves {s t u : State} {ls : List LaneId} (h : s.OnlyOffers t) (k : t.ReservedFor u ls) :
    s.ReservedFor u ls where
  counter := h.counter.trans k.counter
  held x hx := k.held x (h.held x hx)
  period := k.period.trans h.period
  snapshotExpiry := k.snapshotExpiry.trans h.snapshotExpiry
  others l hl := (k.others l hl).trans (h.reservation l)
  kept l r hr := k.kept l r ((h.reservation l).trans hr)
  given l hl hn := by
    obtain ⟨r, ⟨given, low, rest⟩, before⟩ := k.given l hl ((h.reservation l).trans hn)
    exact ⟨r, ⟨given, h.counter.trans low, rest⟩, fun m q hlm hm hq => before m q hlm hm ((h.reservation m).trans hq)⟩

/-- The records after a step: those of a state whose snapshot expiry alone differs (R152, R179). -/
theorem State.stepLt_records (s : State) (m : Marker) :
    ∃ u, s.ReservedFor u (allLanes.filter fun l => (s.lane l).rx.isSome) ∧ (s.stepLt m).journal = u.journal ∧
      (s.stepLt m).evidence.period = s.evidence.period := by
  obtain ⟨u, x, offers, -, -, -, ended⟩ := (s.lanesStepped m).snapshotOnStep_frame (m.theta < 0)
  have reserved := s.reserveForStep_reserved.offers ((s.lanesStepped_onlyOffers m).trans offers)
  refine ⟨u, reserved, ?_, ?_⟩
  · rw [State.stepLt_eq, ended]
  · rw [State.stepLt_eq, ended]
    exact reserved.period

/-- The snapshot expiry after a step (R179). -/
theorem State.stepLt_snapshot (s : State) (m : Marker) (hm : m.theta = (s.lt : Int) - (m.seconds * 1000000000 : Nat)) :
    (s.evidence.snapshotExpiry = none → (s.stepLt m).evidence.snapshotExpiry = none) ∧
      ∀ e, s.evidence.snapshotExpiry = some e → (s.stepLt m).evidence.snapshotExpiry =
        if m.theta < 0 ∧ m.seconds * 1000000000 < e then some e
        else some (nextSnapshot s.evidence.period (m.seconds * 1000000000)) := by
  obtain ⟨-, -, lt⟩ := s.stepLt_lt m hm
  have reserved := s.reserveForStep_reserved.offers (s.lanesStepped_onlyOffers m)
  obtain ⟨unset, set⟩ := (s.lanesStepped m).snapshotOnStep_expiry (m.theta < 0)
  rw [State.stepLt_eq]
  refine ⟨fun h => unset (reserved.snapshotExpiry.trans h), fun e h => ?_⟩
  rw [set e (reserved.snapshotExpiry.trans h), lt, reserved.period]
  simp only [decide_eq_true_eq]

/-- One reservation, spelt out (R152, R159). -/
theorem State.reserve_spelt (s : State) (l : LaneId) :
    let j := s.journal
    let given (lost : Bool) := j.reservations.set l.val (some ⟨j.counter, lost⟩)
    (j.reservation l = none → j.held.length < 4096 → s.reserve l = { s with journal := { j with
      counter := j.counter + 1, held := j.held ++ [⟨j.counter, j.lowestFree, .bound⟩], reservations := given false } }) ∧
    (j.reservation l = none → 4096 ≤ j.held.length → s.reserve l = { s with
      journal := { j with
        counter := j.counter + 1
        lostTotal := j.lostTotal + 1
        gap := some (match j.gap with
          | none => ⟨j.counter, 1⟩
          | some g => ⟨g.first, g.count + 1⟩)
        reservations := given true }
      evidence := s.evidence.apply { kind := .recordLost, lane := some l } }) := by
  obtain ⟨-, binds, loses⟩ := s.reserve_cases l
  exact ⟨binds, loses⟩

theorem mem_receiving (s : State) (k : LaneId) :
    k ∈ allLanes.filter (fun l => (s.lane l).rx.isSome) ↔ (s.lane k).rx.isSome = true := by
  simp [List.mem_filter, mem_allLanes k]

/-- Settles O10: the reservations, then the step part by part on the state in which the marker is noted. -/
theorem stepSetsLtToAnnouncedSecond : Obligations.StepSetsLtToAnnouncedSecond := by
  refine ⟨fun s l => ?_, fun s => s.reserveForStep_eq, ?_⟩
  · obtain ⟨bound, lost⟩ := s.reserve_spelt l
    refine ⟨(s.reserve_cases l).1, fun hr hf => ?_, lost⟩
    obtain ⟨below, unused, least⟩ := s.journal.lowestFree_spec hf
    exact ⟨_, below, unused, least, bound hr hf⟩
  · intro s a h large idle base lt
    have run := exec_of_evaluates h
    have captured := s.noted_captured s.discipline.selected a
    have offers := s.noted_onlyOffers s.discipline.selected a
    obtain ⟨mA, mB, j, e, hn⟩ := s.noted_eq s.discipline.selected a
    rw [hn] at run captured offers
    rw [State.evaluate_of_large (by exact large) (by exact idle)] at run
    obtain ⟨time, disc, unc, settings⟩ := State.stepLt_clock _ _ captured.2
    obtain ⟨-, -, clock, stamping, matchTable, classTable, pointer, pending⟩ := State.settings_ext settings
    obtain ⟨unit, kept, carried⟩ := State.stepLt_books _ _ captured.2
    obtain ⟨u, numbered, journal, period⟩ := State.stepLt_records _ (s.markerOf a)
    have reserved : s.ReservedFor u (allLanes.filter fun l => (s.lane l).rx.isSome) := offers.reserves numbered
    obtain ⟨unset, set⟩ := State.stepLt_snapshot _ _ captured.2
    have lanes := State.stepLt_lane _ _ captured.2
    refine ⟨_, run, time, disc, unc, clock, stamping, matchTable, classTable, pointer, pending,
      fun k => (lanes k).1.frame, fun k => ?_,
      period.trans offers.period, fun hs => unset (offers.snapshotExpiry.trans hs), fun x hx => ?_, fun k hk => ?_,
      fun k r hr => ?_, fun k hk hr => ?_, unit, kept, carried⟩
    · obtain ⟨shifted, expiry, noDeferred⟩ := lanes k
      obtain ⟨fails, rests, installs, keeps⟩ := shifted.probe
      obtain ⟨first, past⟩ := earliestFrom_spec (lt + 1) (((State.stepLt _ (s.markerOf a)).lane k).hold)
      refine ⟨fun hf => ⟨(fails hf).1, (fails hf).2.trans ?_, noDeferred hf⟩, rests, installs, keeps,
        shifted.gains, fun z hz => ?_, fun hz x hx => ?_⟩
      · change (s.lane k).state.afterProbe = _
        cases (s.lane k).state with
        | probing r => cases r <;> rfl
        | disabled => rfl
        | active => rfl
        | draining => rfl
      · exact first z (expiry.symm.trans hz)
      · exact Nat.lt_succ_iff.mp (past (expiry.symm.trans hz) x hx)
    · exact (set x (offers.snapshotExpiry.trans hx)).trans (by rw [offers.period]; rfl)
    · rw [journal]
      exact reserved.others k (by simp [hk])
    · rw [journal]
      exact reserved.kept k r hr
    · rw [journal]
      obtain ⟨r, ⟨given, low, high, bound⟩, before⟩ := reserved.given k ((mem_receiving s k).mpr hk) hr
      exact ⟨r, given, low, high, bound, fun m q hkm hm => before m q hkm ((mem_receiving s m).mpr hm)⟩

end Sys2Proof.Machine
end

section
/-! PROOFS. The events of lanes, books, exporter and evidence leave the fixed part alone: the time path, the settings,
the classification tables and the handler's own items. -/

namespace Sys2Proof.Machine

/-! ### Frames on the B port -/

/-- A frame on the B port that ends leaves alone what its handling does. -/
theorem State.fixedPart_bFrameEnds (s : State) (l : LaneId) (f : Bytes) (k : BPortFrame) {h : State → State}
    (hh : (h s).fixedPart = s.fixedPart) : (s.bFrameEnds l f k h).fixedPart = s.fixedPart := by
  unfold State.bFrameEnds
  split
  · rfl
  · split
    · exact hh
    · rfl

theorem State.fixedPart_offerReport (s : State) (l : LaneId) (f : Bytes) :
    (s.offerReport l f).fixedPart = s.fixedPart := by
  unfold State.offerReport
  split <;> rfl

theorem State.fixedPart_offerRequest (s : State) (l : LaneId) (f : Bytes) :
    (s.offerRequest l f).fixedPart = s.fixedPart := by
  unfold State.offerRequest
  dsimp only
  split
  · rfl
  · split <;> rfl

theorem State.fixedPart_grant (s : State) (l : LaneId) (n : Nat) : (s.grant l n).fixedPart = s.fixedPart := by
  unfold State.grant
  dsimp only
  split <;> split <;> rfl

/-! ### The events -/

/-- The events of links, ports, egress, books, exporter and evidence: every command but the reset input, the commands of
the time path and the requests. -/
def isDatapathEvent : Instr → Bool
  | .aLinkLost _ | .aLinkReturned _ | .bLinkLost _ _ | .bLinkReturned _ => true
  | .startOfFrame _ | .aFrameDiscarded _ _ | .entryFrame _ _ | .foreignFrame _ _ | .aControlFrame _ _ => true
  | .probeReturn _ _ | .probeTimeout _ => true
  | .bFrameDiscarded _ _ | .reportFrame _ _ | .controlRequestArrival _ _ | .shortControlFrame _ _ => true
  | .bControlDiscarded _ _ | .creditGrant _ _ | .uncrossDone _ _ => true
  | .releaseExpiry _ | .placementExpiry _ _ | .engineEgressChoice _ | .gatewayEgressChoice _ => true
  | .tcExpiry _ | .twExpiry _ | .eExpiry _ | .uncrossExpiry _ | .uncrossTimeout _ => true
  | .flushExpiry | .snapshotExpiry => true
  | _ => false

/-- An event of the datapath leaves the time path, the settings and the tables alone. -/
theorem exec_datapathEvent_fixedPart {c : Instr} {s t : State} (hc : isDatapathEvent c = true)
    (h : exec c s = .next t) : t.fixedPart = s.fixedPart := by
  cases c with
  | aLinkLost l => cases h; split <;> simp
  | aLinkReturned l => cases h; split <;> simp
  | bLinkLost l cut =>
    cases h
    split
    · rfl
    · cases cut <;> simp
  | bLinkReturned l => cases h; split <;> simp
  | startOfFrame l => cases h; split <;> simp
  | aFrameDiscarded l f => cases h; split <;> exact State.fixedPart_frameEnds _ _ _ _ _ fun _ _ => rfl
  | entryFrame l f => cases h; simp
  | foreignFrame l f => cases h; simp
  | aControlFrame l f => cases h; exact State.fixedPart_frameEnds _ _ _ _ _ fun _ _ => rfl
  | probeReturn l f =>
    cases h
    split
    · rfl
    · split
      · split <;> simp
      · rfl
  | probeTimeout l =>
    cases h
    split
    · split <;> simp
    · rfl
    · rfl
  | bFrameDiscarded l f => cases h; split <;> exact State.fixedPart_bFrameEnds _ _ _ _ rfl
  | reportFrame l f => cases h; exact State.fixedPart_bFrameEnds _ _ _ _ (s.fixedPart_offerReport _ _)
  | controlRequestArrival l f => cases h; exact State.fixedPart_bFrameEnds _ _ _ _ (s.fixedPart_offerRequest _ _)
  | shortControlFrame l f => cases h; exact State.fixedPart_bFrameEnds _ _ _ _ rfl
  | bControlDiscarded l f => cases h; exact State.fixedPart_bFrameEnds _ _ _ _ rfl
  | creditGrant l f =>
    cases h
    refine State.fixedPart_bFrameEnds _ _ _ _ ?_
    split
    · rfl
    · exact s.fixedPart_grant _ _
  | uncrossDone l f =>
    cases h
    refine State.fixedPart_bFrameEnds _ _ _ _ ?_
    split <;> simp
    rfl
  | releaseExpiry l =>
    cases h
    split
    · rfl
    · split <;> simp
  | placementExpiry l b => cases h; split <;> simp
  | engineEgressChoice l =>
    cases h
    split
    · rfl
    · split
      · rfl
      · simp
      · rfl
      · rfl
  | gatewayEgressChoice l =>
    cases h
    dsimp only
    split
    · rfl
    · split <;> rfl
  | tcExpiry b => cases h; exact s.fixedPart_takeExpiry _ b
  | twExpiry b => cases h; exact s.fixedPart_takeExpiry _ b
  | eExpiry b => cases h; exact s.fixedPart_takeExpiry _ b
  | uncrossExpiry b => cases h; exact s.fixedPart_takeExpiry _ b
  | uncrossTimeout b => cases h; split <;> simp
  | flushExpiry =>
    cases h
    split
    · rfl
    · split <;> rfl
  | snapshotExpiry =>
    cases h
    split
    · rfl
    · split <;> simp
  | _ => cases hc

end Sys2Proof.Machine
end

section
/-! PROOFS. U_clock between two growth expiries, and when the clock grade goes on standing as judged (R33 to R36). -/

namespace Sys2Proof.Machine

/-! ### What the clock grade rests on -/

/-- What the clock grade rests on beside LT: the Uncertainty Unit, H and L (R33, R36). -/
def State.gradeBasis (s : State) : Uncertainty × Nat × Nat := (s.uncertainty, s.stamping.h, s.stamping.l)

theorem State.gradeBasis_ext {s t : State} (h : t.gradeBasis = s.gradeBasis) :
    t.uncertainty = s.uncertainty ∧ t.stamping.h = s.stamping.h ∧ t.stamping.l = s.stamping.l := by
  simpa [State.gradeBasis] using h

theorem State.gradeBasis_of_eq {s t : State} (hu : t.uncertainty = s.uncertainty) (hs : t.stamping = s.stamping) :
    t.gradeBasis = s.gradeBasis := by
  simp [State.gradeBasis, hu, hs]

theorem State.gradeBasis_of_fixedPart {s t : State} (h : t.fixedPart = s.fixedPart) : t.gradeBasis = s.gradeBasis := by
  obtain ⟨-, -, -, -, uncertainty, -, stamping, -⟩ := State.fixedPart_ext h
  exact State.gradeBasis_of_eq uncertainty stamping

/-- The growth expiry runs while the evaluated flag is set, and stands one nanosecond after a whole number of seconds
from LT_mark, LT having passed the second before it (R34, R35). -/
def State.GrowthRuns (s : State) : Prop :=
  (s.uncertainty.evaluated = false → s.uncertainty.growthExpiry = none) ∧
  (s.uncertainty.evaluated = true → s.uncertainty.ltMark ≤ s.lt ∧
    ∃ n, s.uncertainty.growthExpiry = some (s.uncertainty.ltMark + n * 1000000000 + 1) ∧
      (0 < n → s.uncertainty.ltMark + (n - 1) * 1000000000 < s.lt))

theorem State.gradeStands_iff (s : State) :
    s.GradeStands ↔ s.uncertainty.grade = s.judgedGrade ∧ s.GrowthRuns := Iff.rfl

/-! ### U_clock between two growth expiries -/

/-- U_clock at a value of LT, in nanoseconds (R33, R35). -/
theorem State.uClockAt_eq (s : State) (lt : Nat) :
    s.uClockAt lt = if s.uncertainty.evaluated then
      min (s.uncertainty.uBase + s.stamping.h * ((lt - s.uncertainty.ltMark + 999999999) / 1000000000)) 1000000000
    else 1000000000 := by
  simp only [State.uClockAt, ceilDiv, Config.second, Config.uncertaintyMax, Nat.reduceSub]

/-- The seconds begun since LT_mark, counted up to the growth expiry that stands after `n` of them (R33, R34). -/
theorem ceilDiv_second_of_growth {lt mark n : Nat} (past : 0 < n → mark + (n - 1) * 1000000000 < lt) :
    ceilDiv (min lt (mark + n * 1000000000) - mark) Config.second = n := by
  unfold ceilDiv Config.second
  omega

/-- While the growth expiry stands after `n` seconds U_clock has grown by `n` times H, wherever LT is (R33, R34). -/
theorem State.uClock_of_growth {s : State} {n : Nat} (evaluated : s.uncertainty.evaluated = true)
    (expiry : s.uncertainty.growthExpiry = some (s.uncertainty.ltMark + n * 1000000000 + 1))
    (past : 0 < n → s.uncertainty.ltMark + (n - 1) * 1000000000 < s.lt) :
    s.uClock = min (s.uncertainty.uBase + s.stamping.h * n) Config.uncertaintyMax := by
  unfold State.uClock State.uClockAt
  rw [if_pos evaluated, State.growthLt_some expiry, Nat.add_sub_cancel, ceilDiv_second_of_growth past]

/-- As LT advances the growth expiry goes on standing where it does (R34). -/
theorem State.GrowthRuns.advance {s t : State} (h : s.GrowthRuns) (hu : t.uncertainty = s.uncertainty)
    (hlt : s.lt ≤ t.lt) : t.GrowthRuns := by
  obtain ⟨stopped, running⟩ := h
  unfold State.GrowthRuns
  rw [hu]
  refine ⟨stopped, fun evaluated => ?_⟩
  obtain ⟨marked, n, expiry, past⟩ := running evaluated
  exact ⟨marked.trans hlt, n, expiry, fun hn => (past hn).trans_le hlt⟩

/-- As LT advances a judgement gives the same grade until the growth expiry is taken (R34, R36). -/
theorem State.judgedGrade_advance {s t : State} (h : s.GrowthRuns) (hb : t.gradeBasis = s.gradeBasis)
    (hlt : s.lt ≤ t.lt) : t.judgedGrade = s.judgedGrade := by
  obtain ⟨uncertainty, hH, hL⟩ := State.gradeBasis_ext hb
  unfold State.judgedGrade
  rw [uncertainty, hL]
  by_cases evaluated : s.uncertainty.evaluated = true
  · obtain ⟨-, n, expiry, past⟩ := h.2 evaluated
    have before := State.uClock_of_growth evaluated expiry past
    have after : t.uClock = min (t.uncertainty.uBase + t.stamping.h * n) Config.uncertaintyMax :=
      State.uClock_of_growth (by rw [uncertainty, evaluated]) (by rw [uncertainty, expiry])
        fun hn => by rw [uncertainty]; exact (past hn).trans_le hlt
    rw [after, before, uncertainty, hH]
  · rw [if_neg evaluated, if_neg evaluated]

/-- The grade goes on standing while LT advances and what it rests on stays. -/
theorem State.GradeStands.advance {s t : State} (h : s.GradeStands) (hb : t.gradeBasis = s.gradeBasis)
    (hlt : s.lt ≤ t.lt) : t.GradeStands := by
  obtain ⟨grade, growth⟩ := s.gradeStands_iff.mp h
  have uncertainty := (State.gradeBasis_ext hb).1
  refine t.gradeStands_iff.mpr ⟨?_, growth.advance uncertainty hlt⟩
  rw [State.judgedGrade_advance growth hb hlt, uncertainty, grade]

/-- After a judgement the grade stands as judged (R36). -/
theorem State.judgeGrade_gradeStands {s : State} (h : s.GrowthRuns) : s.judgeGrade.GradeStands := by
  rw [State.judgeGrade_eq]
  exact ⟨rfl, h⟩

/-! ### Evaluations -/

/-- At the marker instant the grade follows U_base, and the growth expiry stands one nanosecond later (R33, R34, R36). -/
theorem State.gradeStands_at_mark {s : State} {base : Nat} (hb : base ≤ Config.uncertaintyMax)
    (hu : s.uncertainty = ⟨base, s.lt, true, if base ≤ s.stamping.l then .traceable else .degraded, some (s.lt + 1)⟩) :
    s.GradeStands := by
  have evaluated : s.uncertainty.evaluated = true := by rw [hu]
  have expiry : s.uncertainty.growthExpiry = some (s.uncertainty.ltMark + 0 * 1000000000 + 1) := by simp [hu]
  have clock : s.uClock = base := by
    rw [State.uClock_of_growth (n := 0) evaluated expiry (by simp), hu]
    exact min_eq_left hb
  refine s.gradeStands_iff.mpr ⟨?_, fun off => absurd (off.symm.trans evaluated) (by decide), fun _ => ⟨?_, 0, expiry, ?_⟩⟩
  · rw [State.judgedGrade, if_pos evaluated, clock, hu]
  · rw [hu]
  · simp

/-- Every evaluation judges the grade at the marker instant (R30 to R32, R36). -/
theorem State.evaluate_gradeStands (s : State) (m : Marker) (hm : s.Captured m) : (s.evaluate m).GradeStands := by
  obtain ⟨captured, offset⟩ := hm
  unfold State.evaluate
  split
  · obtain ⟨j, e, slewed⟩ := s.slew_records m captured
    rw [slewed]
    exact State.gradeStands_at_mark (min_le_right _ _) rfl
  · split
    · obtain ⟨j, e, deferred⟩ := s.deferStep_records m captured
      rw [deferred]
      exact State.gradeStands_at_mark (min_le_right _ _) rfl
    · obtain ⟨time, -, uncertainty, settings⟩ := s.stepLt_clock m offset
      obtain ⟨-, -, -, stamping, -⟩ := State.settings_ext settings
      have lt : (s.stepLt m).lt = m.seconds * 1000000000 := by rw [State.lt, time]
      refine State.gradeStands_at_mark ((gradeNs_eq m.grade).trans_le (gradeTable_le _)) ?_
      rw [uncertainty, lt, stamping]

/-! ### Switches, losses and markers -/

theorem State.switchReference_gradeBasis (s : State) : s.switchReference.gradeBasis = s.gradeBasis := by
  rw [s.switchReference_eq.1]
  rfl

theorem State.lossOfSelected_gradeBasis (s : State) : s.lossOfSelected.gradeBasis = s.gradeBasis := by
  rw [State.lossOfSelected_eq]
  rfl

theorem State.becameHealthy_gradeBasis (s : State) (ref : RefLine) :
    (s.becameHealthy ref).gradeBasis = s.gradeBasis := by
  unfold State.becameHealthy
  split
  · split <;> rfl
  · split
    · exact s.switchReference_gradeBasis
    · rfl

theorem State.setMonitor_gradeBasis (s : State) (ref : RefLine) (m : Monitor) :
    (s.setMonitor ref m).gradeBasis = s.gradeBasis :=
  State.gradeBasis_of_eq (by simp) (by simp)

theorem State.refuseMarker_gradeBasis (s : State) (ref : RefLine) (reason : RefusalReason) :
    (s.refuseMarker ref reason).gradeBasis = s.gradeBasis := by
  rw [s.refuseMarker_eq ref reason]
  rfl

/-- An accepted marker judges the grade where it is evaluated, and leaves it standing elsewhere (R10, R36). -/
theorem State.acceptMarker_gradeStands {s : State} {ref : RefLine} {k : Marker} (hs : s.GradeStands)
    (hk : s.Captured k) : (s.acceptMarker ref k).GradeStands := by
  have noted : (s.noteMarker ref k).GradeStands :=
    hs.advance (by rw [s.noteMarker_eq ref k]; rfl) (s.noteMarker_keeps ref k).lt.ge
  have captured : (s.noteMarker ref k).Captured k := by
    unfold State.Captured
    rwa [(s.noteMarker_keeps ref k).lt]
  have handled : ((s.noteMarker ref k).disciplineMarker k).GradeStands := by
    unfold State.disciplineMarker
    split
    · exact State.evaluate_gradeStands _ _ captured
    · exact State.evaluate_gradeStands _ _ captured
    · exact noted
    · exact noted
  have disciplined : (if ref = s.discipline.selected then (s.noteMarker ref k).disciplineMarker k
      else s.noteMarker ref k).GradeStands := by
    split
    · exact handled
    · exact noted
  rw [State.acceptMarker_eq]
  dsimp only
  split
  · exact disciplined.advance (State.becameHealthy_gradeBasis _ _) (State.becameHealthy_keeps _ _).lt.ge
  · exact disciplined

/-- A marker edge keeps the grade as judged, refused or accepted (R5, R6, R36). -/
theorem execMarkerEdge_gradeStands {ref : RefLine} {s t : State} (hs : s.GradeStands)
    (h : execMarkerEdge ref s = .next t) : t.GradeStands := by
  have set (m : Monitor) : (s.setMonitor ref m).GradeStands :=
    hs.advance (s.setMonitor_gradeBasis _ _) (s.setMonitor_keeps _ _).lt.ge
  have refused (u : CaptureUnit) (reason : RefusalReason) : ((s.setUnit ref u).refuseMarker ref reason).GradeStands :=
    (set _).advance (State.refuseMarker_gradeBasis _ _ _) (State.refuseMarker_keeps _ _ _).lt.ge
  cases h
  split
  · exact hs
  · split
    · unfold State.judgeEdge
      dsimp only
      split
      · exact refused _ _
      · split
        · exact refused _ _
        · exact State.acceptMarker_gradeStands (set _) ⟨(State.lt_setMonitor _ _ _).symm, by
            rw [State.setUnit, State.lt_setMonitor]
            rfl⟩
    · exact set _
    · exact set _

end Sys2Proof.Machine
end

section
/-! PROOFS. The requests that judge no grade leave what it rests on alone: the Uncertainty Unit, H and L. -/

namespace Sys2Proof.Machine

/-! ### Table requests -/

theorem serveMatch_gradeBasis (l : LaneId) (p : Bytes) (s : State) :
    (serveMatch l p s).1.gradeBasis = s.gradeBasis := by
  unfold serveMatch
  split
  · rfl
  · split
    · rfl
    · dsimp only
      split
      · rfl
      · split <;> rfl

theorem serveClass_gradeBasis (l : LaneId) (p : Bytes) (s : State) :
    (serveClass l p s).1.gradeBasis = s.gradeBasis := by
  unfold serveClass
  split
  · rfl
  · split
    · rfl
    · split <;> rfl

/-- A STAMPING write that changes neither H nor L and judges nothing leaves what the grade rests on alone. -/
theorem stampingTests_gradeBasis {known : Bool} {judge : State → Answer} {p : Bytes} {s : State}
    (h : (judge s).1.gradeBasis = s.gradeBasis) : (stampingTests known judge p s).1.gradeBasis = s.gradeBasis := by
  unfold stampingTests
  split
  · rfl
  · split
    · rfl
    · split
      · rfl
      · exact h

theorem stampingRange_gradeBasis (low high v : Nat) {w : Stamping} {s : State} (hH : w.h = s.stamping.h)
    (hL : w.l = s.stamping.l) : (stampingRange low high v w id s).1.gradeBasis = s.gradeBasis := by
  unfold stampingRange
  split
  · simp [okWith, acceptStamping, State.offerTable, State.gradeBasis, hH, hL]
  · rfl

theorem serveEntryFrameType_gradeBasis (l : LaneId) (p : Bytes) (s : State) :
    (serveEntryFrameType l p s).1.gradeBasis = s.gradeBasis := by
  refine stampingTests_gradeBasis ?_
  dsimp only
  split
  · rfl
  · exact stampingRange_gradeBasis _ _ _ rfl rfl

theorem serveClockSetting_gradeBasis (l : LaneId) (p : Bytes) (s : State) :
    (serveClockSetting l p s).1.gradeBasis = s.gradeBasis := by
  unfold serveClockSetting
  split
  · rfl
  · split <;> rfl

theorem serveAutoSwitch_gradeBasis (l : LaneId) (p : Bytes) (s : State) :
    (serveAutoSwitch l p s).1.gradeBasis = s.gradeBasis := by
  unfold serveAutoSwitch
  split
  · rfl
  · split <;> rfl

theorem State.afterEnable_gradeBasis (s : State) (ref : RefLine) (on changed : Bool) :
    (s.afterEnable ref on changed).gradeBasis = s.gradeBasis := by
  unfold State.afterEnable
  split
  · rfl
  · split
    · rfl
    · dsimp only
      split
      · exact State.lossOfSelected_gradeBasis _
      · rfl

theorem serveReferenceEnable_gradeBasis (l : LaneId) (p : Bytes) (s : State) :
    (serveReferenceEnable l p s).1.gradeBasis = s.gradeBasis := by
  unfold serveReferenceEnable
  split
  · rfl
  · split
    · rfl
    · exact (State.afterEnable_gradeBasis _ _ _ _).trans (s.setMonitor_gradeBasis _ _)

theorem serveExportLane_gradeBasis (l : LaneId) (p : Bytes) (s : State) :
    (serveExportLane l p s).1.gradeBasis = s.gradeBasis := by
  unfold serveExportLane
  split
  · rfl
  · split
    · rfl
    · split <;> rfl

theorem serveFlushInterval_gradeBasis (l : LaneId) (p : Bytes) (s : State) :
    (serveFlushInterval l p s).1.gradeBasis = s.gradeBasis := by
  unfold serveFlushInterval
  dsimp only
  split
  · rfl
  · split <;> rfl

theorem serveCounter_gradeBasis (l : LaneId) (p : Bytes) (s : State) :
    (serveCounter l p s).1.gradeBasis = s.gradeBasis := by
  unfold serveCounter
  split
  · rfl
  · split <;> rfl

theorem serveSnapshotPeriod_gradeBasis (l : LaneId) (p : Bytes) (s : State) :
    (serveSnapshotPeriod l p s).1.gradeBasis = s.gradeBasis := by
  unfold serveSnapshotPeriod
  split <;> rfl

theorem serveTableRead_gradeBasis (l : LaneId) (p : Bytes) (s : State) :
    (serveTableRead l p s).1.gradeBasis = s.gradeBasis := by
  unfold serveTableRead
  split
  · rfl
  · split <;> rfl

/-! ### Book requests and clock commands -/

theorem State.judgeArm_gradeBasis (s : State) (b : BookId) (p : Bytes) :
    (s.judgeArm b p).1.gradeBasis = s.gradeBasis := by
  unfold State.judgeArm
  dsimp only
  split
  · rfl
  · split
    · rfl
    · split
      · rfl
      · split <;> rfl

theorem serveBookArm_gradeBasis (l : LaneId) (p : Bytes) (s : State) :
    (serveBookArm l p s).1.gradeBasis = s.gradeBasis := by
  unfold serveBookArm
  split
  · rfl
  · split
    case h_6 | h_7 => exact s.judgeArm_gradeBasis _ _
    all_goals rfl

theorem serveBookDisarm_gradeBasis (l : LaneId) (p : Bytes) (s : State) :
    (serveBookDisarm l p s).1.gradeBasis = s.gradeBasis := by
  unfold serveBookDisarm
  split
  · rfl
  · split
    case h_2 => split <;> rfl
    all_goals rfl

theorem serveBookExtend_gradeBasis (l : LaneId) (p : Bytes) (s : State) :
    (serveBookExtend l p s).1.gradeBasis = s.gradeBasis := by
  unfold serveBookExtend
  split
  · rfl
  · split
    · rfl
    · unfold State.judgeExtend
      split <;> rfl

theorem serveAcquire_gradeBasis (l : LaneId) (p : Bytes) (s : State) :
    (serveAcquire l p s).1.gradeBasis = s.gradeBasis := by
  have entered : s.enterAcquire.gradeBasis = s.gradeBasis := by
    unfold State.enterAcquire
    dsimp only
    split
    · exact s.switchReference_gradeBasis
    · rfl
  have commanded : s.commandAcquire.gradeBasis = s.gradeBasis := by
    unfold State.commandAcquire
    split
    · exact entered
    · exact entered
    · rfl
    · rfl
  unfold serveAcquire
  split
  · rfl
  · exact commanded

theorem State.select_gradeBasis (s : State) (ref : RefLine) : (s.select ref).gradeBasis = s.gradeBasis := by
  unfold State.select
  split
  · rfl
  · dsimp only
    split <;> rfl

theorem State.clearMissingOf_gradeBasis (s : State) (ref : RefLine) :
    (s.clearMissingOf ref).gradeBasis = s.gradeBasis := by
  unfold State.clearMissingOf
  dsimp only
  split <;> exact s.setMonitor_gradeBasis _ _

/-! ### Lane commands, journal requests, the datapath reset -/

theorem onCommandedLane_gradeBasis {code : Nat} {p : Bytes} {s : State} {take : LaneId → Answer}
    (h : ∀ l, (take l).1.gradeBasis = s.gradeBasis) : (onCommandedLane code p s take).1.gradeBasis = s.gradeBasis := by
  unfold onCommandedLane
  split
  · rfl
  · split
    · rfl
    · exact h _

theorem serveEnable_gradeBasis (l : LaneId) (p : Bytes) (s : State) :
    (serveEnable l p s).1.gradeBasis = s.gradeBasis := by
  refine onCommandedLane_gradeBasis fun k => ?_
  split <;> rfl

theorem serveDrain_gradeBasis (l : LaneId) (p : Bytes) (s : State) :
    (serveDrain l p s).1.gradeBasis = s.gradeBasis := by
  refine onCommandedLane_gradeBasis fun k => ?_
  split
  case h_2 =>
    unfold State.startDrain
    split <;> rfl
  all_goals rfl

theorem serveDisable_gradeBasis (l : LaneId) (p : Bytes) (s : State) :
    (serveDisable l p s).1.gradeBasis = s.gradeBasis := by
  refine onCommandedLane_gradeBasis fun k => ?_
  split <;> rfl

theorem State.startProbing_gradeBasis (s : State) (l : LaneId) (ret : ReturnState) :
    (s.startProbing l ret).1.gradeBasis = s.gradeBasis := by
  unfold State.startProbing
  split
  · rfl
  · split
    · rfl
    · exact State.gradeBasis_of_fixedPart (State.fixedPart_probeFail _ _)

theorem serveProbe_gradeBasis (l : LaneId) (p : Bytes) (s : State) :
    (serveProbe l p s).1.gradeBasis = s.gradeBasis := by
  refine onCommandedLane_gradeBasis fun k => ?_
  split
  · exact s.startProbing_gradeBasis _ _
  · exact s.startProbing_gradeBasis _ _
  · rfl
  · rfl

theorem serveJournalRelease_gradeBasis (l : LaneId) (p : Bytes) (s : State) :
    (serveJournalRelease l p s).1.gradeBasis = s.gradeBasis := by
  unfold serveJournalRelease
  dsimp only
  split <;> rfl

theorem serveJournalResend_gradeBasis (l : LaneId) (p : Bytes) (s : State) :
    (serveJournalResend l p s).1.gradeBasis = s.gradeBasis := by
  unfold serveJournalResend
  dsimp only
  split <;> rfl

theorem serveDatapathReset_gradeBasis (l : LaneId) (p : Bytes) (s : State) :
    (serveDatapathReset l p s).1.gradeBasis = s.gradeBasis := by
  unfold serveDatapathReset
  split
  · rfl
  · exact State.gradeBasis_of_fixedPart (fixedPart_flushLanes _ _)

end Sys2Proof.Machine
end

section
/-! PROOFS. Every command keeps the clock grade as judged, and what the growth expiry does (R33 to R37). -/

namespace Sys2Proof.Machine

/-! ### The commands that judge no grade -/

/-- The commands that judge the grade, and the reset input. -/
def judgesGrade : Instr → Bool
  | .powerOnReset | .markerEdge _ | .growthExpiry | .tableWriteH | .tableWriteL | .release => true
  | _ => false

/-- A request leaves alone what the grade rests on where its judgement does. -/
theorem gradeBasis_of_request {s t : State} {row : Instr} {serve : LaneId → Bytes → State → Answer}
    (h : (.next (s.takeRequest row serve) : Result) = .next t)
    (hk : ∀ l p u, (serve l p u).1.gradeBasis = u.gradeBasis) : t.gradeBasis = s.gradeBasis := by
  cases h
  exact State.takeRequest_induct (P := fun t => t.gradeBasis = s.gradeBasis) row rfl (fun _ => rfl)
    (fun l p t ht => (hk l p t).trans ht) fun _ _ _ ht => ht

/-- A refusal after a change of the capture unit leaves alone what the grade rests on. -/
theorem State.setUnit_refuse_gradeBasis (s : State) (ref : RefLine) (u : CaptureUnit) (reason : RefusalReason) :
    ((s.setUnit ref u).refuseMarker ref reason).gradeBasis = s.gradeBasis :=
  (State.refuseMarker_gradeBasis _ _ _).trans (s.setMonitor_gradeBasis _ _)

theorem execAnnouncementReceived_gradeBasis {ref : RefLine} {m : Bytes} {s t : State}
    (h : execAnnouncementReceived ref m s = .next t) : t.gradeBasis = s.gradeBasis := by
  cases h
  split
  · rfl
  · split
    · exact s.setMonitor_gradeBasis _ _
    · unfold State.validAnnouncement
      split
      · exact s.setMonitor_gradeBasis _ _
      · exact (State.refuseMarker_gradeBasis _ _ _).trans
          ((State.setMonitor_gradeBasis _ _ _).trans (s.setMonitor_gradeBasis _ _))
      · exact s.setMonitor_gradeBasis _ _

theorem execArmExpiry_gradeBasis {ref : RefLine} {s t : State} (h : execArmExpiry ref s = .next t) :
    t.gradeBasis = s.gradeBasis := by
  cases h
  split
  · split
    · exact s.setUnit_refuse_gradeBasis _ _ _
    · rfl
  · rfl
  · rfl

theorem execAnnouncementExpiry_gradeBasis {ref : RefLine} {s t : State} (h : execAnnouncementExpiry ref s = .next t) :
    t.gradeBasis = s.gradeBasis := by
  cases h
  split
  · split
    · exact s.setUnit_refuse_gradeBasis _ _ _
    · rfl
  all_goals rfl

theorem execGuardExpiry_gradeBasis {ref : RefLine} {s t : State} (h : execGuardExpiry ref s = .next t) :
    t.gradeBasis = s.gradeBasis := by
  cases h
  split
  · split
    · exact s.setMonitor_gradeBasis _ _
    · rfl
  all_goals rfl

/-- A command that judges no grade leaves alone what the grade rests on (R34 to R36). -/
theorem exec_gradeBasis {c : Instr} {s t : State} (hc : judgesGrade c = false) (h : exec c s = .next t) :
    t.gradeBasis = s.gradeBasis := by
  cases hd : isDatapathEvent c with
  | true => exact State.gradeBasis_of_fixedPart (exec_datapathEvent_fixedPart hd h)
  | false =>
  cases c with
  | announcementReceived ref m => exact execAnnouncementReceived_gradeBasis h
  | armExpiry ref => exact execArmExpiry_gradeBasis h
  | announcementExpiry ref => exact execAnnouncementExpiry_gradeBasis h
  | guardExpiry ref => exact execGuardExpiry_gradeBasis h
  | tableWriteMatch => exact gradeBasis_of_request h serveMatch_gradeBasis
  | tableWriteClass => exact gradeBasis_of_request h serveClass_gradeBasis
  | tableWriteLane =>
    exact gradeBasis_of_request h fun l p u => State.gradeBasis_of_fixedPart (serveLaneWrite_fixedPart l p u)
  | tableWriteDayOrigin =>
    exact gradeBasis_of_request h fun _ _ _ => stampingTests_gradeBasis (stampingRange_gradeBasis _ _ _ rfl rfl)
  | tableWriteEntryFrameType => exact gradeBasis_of_request h serveEntryFrameType_gradeBasis
  | tableWriteQ =>
    exact gradeBasis_of_request h fun _ _ _ => stampingTests_gradeBasis (stampingRange_gradeBasis _ _ _ rfl rfl)
  | tableWriteClockSetting => exact gradeBasis_of_request h serveClockSetting_gradeBasis
  | tableWriteAutoSwitch => exact gradeBasis_of_request h serveAutoSwitch_gradeBasis
  | tableWriteReferenceEnable => exact gradeBasis_of_request h serveReferenceEnable_gradeBasis
  | tableWriteExportLane => exact gradeBasis_of_request h serveExportLane_gradeBasis
  | tableWriteFlushInterval => exact gradeBasis_of_request h serveFlushInterval_gradeBasis
  | tableWriteCounter => exact gradeBasis_of_request h serveCounter_gradeBasis
  | tableWriteSnapshotPeriod => exact gradeBasis_of_request h serveSnapshotPeriod_gradeBasis
  | tableRead => exact gradeBasis_of_request h serveTableRead_gradeBasis
  | bookArm => exact gradeBasis_of_request h serveBookArm_gradeBasis
  | bookDisarm => exact gradeBasis_of_request h serveBookDisarm_gradeBasis
  | bookExtend => exact gradeBasis_of_request h serveBookExtend_gradeBasis
  | bookSeed => exact gradeBasis_of_request h fun _ _ _ => rfl
  | acquire => exact gradeBasis_of_request h serveAcquire_gradeBasis
  | selectA => exact gradeBasis_of_request h fun _ _ u => u.select_gradeBasis .a
  | selectB => exact gradeBasis_of_request h fun _ _ u => u.select_gradeBasis .b
  | clearMissing =>
    exact gradeBasis_of_request h fun _ _ u =>
      (State.clearMissingOf_gradeBasis _ .b).trans (u.clearMissingOf_gradeBasis .a)
  | enable => exact gradeBasis_of_request h serveEnable_gradeBasis
  | drain => exact gradeBasis_of_request h serveDrain_gradeBasis
  | disable => exact gradeBasis_of_request h serveDisable_gradeBasis
  | probe => exact gradeBasis_of_request h serveProbe_gradeBasis
  | journalRelease => exact gradeBasis_of_request h serveJournalRelease_gradeBasis
  | journalResend => exact gradeBasis_of_request h serveJournalResend_gradeBasis
  | counterRead => exact gradeBasis_of_request h fun _ _ _ => rfl
  | counterClear => exact gradeBasis_of_request h fun _ _ _ => rfl
  | statusRead => exact gradeBasis_of_request h fun _ _ _ => rfl
  | datapathReset => exact gradeBasis_of_request h serveDatapathReset_gradeBasis
  | unknownRequest => exact gradeBasis_of_request h fun _ _ _ => rfl
  | powerOnReset | markerEdge | growthExpiry | tableWriteH | tableWriteL | release => cases hc
  | _ => cases hd

/-- No command but the reset input and a marker edge moves LT (R1, R26). -/
theorem exec_lt {c : Instr} {s t : State} (hreset : c ≠ .powerOnReset) (hedge : ∀ ref, c ≠ .markerEdge ref)
    (h : exec c s = .next t) : t.lt = s.lt := by
  by_cases hlane : c = .tableWriteLane
  · subst hlane
    rw [State.lt, (execTableWriteLane_rates h).1]
    rfl
  · exact (exec_keeps hreset hedge hlane h).lt

/-! ### The requests that judge the grade -/

/-- A request keeps the grade as judged where its judgement does. -/
theorem gradeStands_of_request {s t : State} {row : Instr} {serve : LaneId → Bytes → State → Answer}
    (hs : s.GradeStands) (h : (.next (s.takeRequest row serve) : Result) = .next t)
    (hk : ∀ l p u, u.GradeStands → (serve l p u).1.GradeStands) : t.GradeStands := by
  cases h
  exact State.takeRequest_induct row hs (fun l => hs.advance (t := s.popRequest l) rfl le_rfl) hk
    fun t l r ht => ht.advance (t := t.placeReply l r) rfl le_rfl

/-- An accepted write of H or L judges the grade with the new value; a refused one leaves it standing (R36, R41). -/
theorem judgedStampingWrite_gradeStands {known : Bool} {low high v : Nat} {w : Stamping} {p : Bytes} {s : State}
    (hs : s.GradeStands) :
    (stampingTests known (stampingRange low high v w State.judgeGrade) p s).1.GradeStands := by
  have written : (acceptStamping w s).judgeGrade.GradeStands :=
    State.judgeGrade_gradeStands ((s.gradeStands_iff.mp hs).2.advance rfl le_rfl)
  unfold stampingTests stampingRange
  split
  · exact hs
  · split
    · exact hs
    · split
      · exact hs
      · split
        · exact written
        · exact hs

/-- RELEASE clears the evaluated flag and stops the growth expiry, and the grade is then UNTRACEABLE (R21, R35, R36). -/
theorem serveRelease_gradeStands (l : LaneId) (p : Bytes) (s : State) (hs : s.GradeStands) :
    (serveRelease l p s).1.GradeStands := by
  have freed : s.enterFree.GradeStands :=
    State.judgeGrade_gradeStands ⟨fun _ => rfl, fun on => absurd on Bool.false_ne_true⟩
  unfold serveRelease
  split
  · exact hs
  all_goals exact freed

/-! ### The growth expiry -/

/-- The state once the growth expiry at `e` is taken, before the judgement: the next one stands a second later (R34). -/
def State.growthTaken (s : State) (e : Nat) : State :=
  { s with uncertainty := { s.uncertainty with growthExpiry := some (e + Config.second) } }

/-- The growth expiry is taken once LT has reached it, and the grade is then judged (R34). -/
theorem exec_growthExpiry {s : State} {e : Nat} (expiry : s.uncertainty.growthExpiry = some e) :
    exec .growthExpiry s = .next (if e ≤ s.lt then (s.growthTaken e).judgeGrade else s) := by
  refine congrArg Host.Outcome.next ?_
  rw [expiry]
  rfl

/-- A growth expiry that is taken leaves one that runs on (R34). -/
theorem State.GrowthRuns.taken {s : State} {e : Nat} (h : s.GrowthRuns) (expiry : s.uncertainty.growthExpiry = some e)
    (due : e ≤ s.lt) : (s.growthTaken e).GrowthRuns := by
  obtain ⟨stopped, running⟩ := h
  refine ⟨fun off => absurd ((stopped off).symm.trans expiry) (by simp), fun on => ?_⟩
  obtain ⟨marked, n, stands, -⟩ := running on
  obtain rfl : e = s.uncertainty.ltMark + n * 1000000000 + 1 := Option.some.inj (expiry.symm.trans stands)
  refine ⟨marked, n + 1, ?_, fun _ => due⟩
  simp only [State.growthTaken, Config.second]
  congr 1
  ring

theorem exec_growthExpiry_gradeStands {s t : State} (hs : s.GradeStands) (h : exec .growthExpiry s = .next t) :
    t.GradeStands := by
  cases expiry : s.uncertainty.growthExpiry with
  | none =>
    have idle : exec .growthExpiry s = .next s := congrArg Host.Outcome.next (by rw [expiry])
    cases idle.symm.trans h
    exact hs
  | some e =>
    cases (exec_growthExpiry expiry).symm.trans h
    split
    · next due => exact State.judgeGrade_gradeStands ((s.gradeStands_iff.mp hs).2.taken expiry due)
    · exact hs

/-- The grade a judgement gives once the growth expiry is taken: U_clock has grown to the next expiry at most (R33,
R34, R36). -/
theorem State.judgedGrade_growthTaken (s : State) (e : Nat) :
    let lt := min s.lt (e + 999999999)
    let grown := min (s.uncertainty.uBase + s.stamping.h * ((lt - s.uncertainty.ltMark + 999999999) / 1000000000))
      1000000000
    (s.growthTaken e).judgedGrade =
      if s.uncertainty.evaluated then (if grown ≤ s.stamping.l then .traceable else .degraded) else .untraceable := by
  intro lt grown
  have growth : (s.growthTaken e).growthLt = lt := by
    rw [State.growthLt_some (e := e + 1000000000) rfl]
    exact congrArg (min s.lt) (by omega)
  have clock : (s.growthTaken e).uClock = if s.uncertainty.evaluated then grown else 1000000000 := by
    rw [State.uClock, growth, State.uClockAt_eq]
    rfl
  unfold State.judgedGrade
  rw [clock]
  by_cases evaluated : s.uncertainty.evaluated = true
  · rw [if_pos evaluated, if_pos (by exact evaluated), if_pos evaluated]
    rfl
  · rw [if_neg (by exact evaluated), if_neg evaluated]

/-! ### The step -/

/-- Every command keeps the grade as judged. -/
theorem exec_gradeStands {c : Instr} {s t : State} (hs : s.GradeStands) (h : exec c s = .next t) :
    t.GradeStands := by
  cases hc : judgesGrade c with
  | false =>
    have moves : t.lt = s.lt := exec_lt (by rintro rfl; cases hc) (by rintro ref rfl; cases hc) h
    exact hs.advance (exec_gradeBasis hc h) moves.ge
  | true =>
  cases c with
  | powerOnReset =>
    cases h
    obtain ⟨-, -, -, -, reset, -⟩ := resetMeetsInvariants
    exact reset.advance rfl le_rfl
  | markerEdge ref => exact execMarkerEdge_gradeStands hs h
  | growthExpiry => exact exec_growthExpiry_gradeStands hs h
  | tableWriteH => exact gradeStands_of_request hs h fun _ _ _ => judgedStampingWrite_gradeStands
  | tableWriteL => exact gradeStands_of_request hs h fun _ _ _ => judgedStampingWrite_gradeStands
  | release => exact gradeStands_of_request hs h serveRelease_gradeStands
  | _ => cases hc

/-- A nanosecond of the oscillator never sets LT back (R1). -/
theorem Timebase.le_advance_lt (t : Timebase) (d : Nat) : t.lt ≤ (t.advance d).lt := Nat.le_add_right _ _

/-- Settles O12: the tick advances LT and judges nothing, which the grade withstands; every command keeps it as judged.
The growth expiry is set on by a second, and the judgement that follows grows U_clock no further. -/
theorem growthExpiryJudgesGrade : Obligations.GrowthExpiryJudgesGrade := by
  constructor
  · intro s t _ hs h
    rcases step_cases h with ⟨-, rfl⟩ | ⟨c, rest, -, run⟩
    · exact hs.advance (t := s.tick) rfl (s.timebase.le_advance_lt 1)
    · exact exec_gradeStands (hs.advance (t := { s with pending := rest }) rfl le_rfl) run
  · intro s e expiry lt grown grade
    rw [exec_growthExpiry expiry]
    have judged : (s.growthTaken e).judgedGrade = grade := s.judgedGrade_growthTaken e
    refine ⟨fun early => by rw [if_neg (not_le.mpr early)], fun due => ?_⟩
    refine ⟨(s.growthTaken e).judgeGrade, by rw [if_pos due], ?_, fun same => ?_, fun differs => ?_,
      (s.growthTaken e).judgeGrade_rest⟩
    · rw [State.judgeGrade_eq, judged]
      rfl
    · rw [State.judgeGrade_of_judged (judged.trans same)]
      exact ⟨rfl, rfl⟩
    · rw [State.judgeGrade_counter, judged, if_neg (by exact differs)]
      rfl

end Sys2Proof.Machine
end

section
/-! PROOFS. The start of a frame (R38, R39, R48, R57). -/

namespace Sys2Proof.Machine

/-- The stamp grade: UNTRACEABLE as the clock grade is, else by U_stamp and L (R39). -/
theorem stampGrade_eq (clockGrade : Grade) (uStamp l : Nat) :
    stampGrade clockGrade uStamp l =
      if clockGrade = .untraceable then .untraceable else if uStamp ≤ l then .traceable else .degraded := by
  cases clockGrade <;> rfl

/-- A port whose link is UP and that receives no frame captures; any other takes nothing (R48). -/
theorem exec_startOfFrame (l : LaneId) (s : State) :
    ((s.lane l).aLink = .down ∨ (s.lane l).rx.isSome → exec (.startOfFrame l) s = .next s) ∧
    ((s.lane l).aLink = .up → (s.lane l).rx = none → exec (.startOfFrame l) s =
      .next (s.setLane l { s.lane l with rx := some (s.capture l) })) := by
  show (_ → execStartOfFrame l s = _) ∧ (_ → _ → execStartOfFrame l s = _)
  unfold execStartOfFrame
  split
  · next up free => exact ⟨fun closed => by simp [up, free] at closed, fun _ _ => rfl⟩
  · next busy => exact ⟨fun _ => rfl, fun _ free => by simp [busy] at free⟩
  · next down => exact ⟨fun _ => rfl, fun up => by simp [down] at up⟩

/-- Settles O14: a free port whose link is UP captures, by the formulas of U_clock and of the stamp grade. -/
theorem startOfFrameFormsStamp : Obligations.StartOfFrameFormsStamp := by
  intro l s u lt uClock uStamp grade
  have clock : s.uClock = uClock := s.uClockAt_eq s.growthLt
  have stamped : stampUncertainty s.uClock u.uLane = uStamp := by rw [clock]; rfl
  have graded : stampGrade s.uncertainty.grade uStamp s.stamping.l = grade := stampGrade_eq _ _ _
  have captured : s.capture l = ⟨s.lt, s.lt - u.cLane, uStamp, grade, s.stamping.dayOrigin⟩ := by
    rw [← graded, ← stamped]
    rfl
  rw [← captured]
  exact exec_startOfFrame l s

end Sys2Proof.Machine
end

section
/-! PROOFS. The writes of the STAMPING group (R36, R41, R60, R90, R92, R189). -/

namespace Sys2Proof.Machine

/-! ### Which row a STAMPING write belongs to, and how it is judged -/

/-- The rows of the STAMPING group. -/
def isStampingRow : Instr → Bool
  | .tableWriteH | .tableWriteL | .tableWriteDayOrigin | .tableWriteEntryFrameType | .tableWriteQ => true
  | _ => false

/-- By setting code: the row of a STAMPING write, and how its value is judged and applied (R41, R60, R90). An unlisted
code stands with H (log 4). -/
def stampingSetting (held : Stamping) (v : Nat) : Nat → Instr × (State → Answer)
  | 1 => (.tableWriteDayOrigin, stampingRange 0 (2 ^ 48 - 1) v { held with dayOrigin := v } id)
  | 3 => (.tableWriteL, stampingRange 1000 10000000 v { held with l := v } State.judgeGrade)
  | 4 => (.tableWriteQ, stampingRange 100 100000 v { held with q := v } id)
  | 5 => (.tableWriteEntryFrameType, fun t =>
      if v = Config.controlType then refuseWith .badValue t
      else stampingRange 0 0xFFFF v { held with entryType := v } id t)
  | _ => (.tableWriteH, stampingRange 1 50000 v { held with h := v } State.judgeGrade)

/-- A request of a STAMPING row has the setting code of that row (R189, R205). -/
theorem requestRow_eq_stampingRow {p : Bytes} (held : Stamping) (v : Nat) (h : isStampingRow (requestRow p) = true) :
    requestRow p = (stampingSetting held v (settingCode p)).1 := by
  have clock : isStampingRow (clockCommandRow p) = false := by
    unfold clockCommandRow
    split <;> rfl
  have lane : isStampingRow (laneCommandRow p) = false := by
    unfold laneCommandRow
    split <;> rfl
  by_cases hk : reqKind p = kindTableWrite
  · have write : requestRow p = writeRow p := if_pos hk
    rw [write] at h ⊢
    unfold writeRow at h ⊢
    split at h
    case h_4 =>
      unfold stampingSetting
      split <;> simp [*]
    case h_5 => split at h <;> cases h
    case h_6 => split at h <;> cases h
    case h_7 => split at h <;> cases h
    all_goals cases h
  · simp only [requestRow, if_neg hk, apply_ite isStampingRow, clock, lane] at h
    simp [isStampingRow] at h

/-- A served STAMPING write goes through the tests of its group to the judgement of its setting (R189). -/
theorem exec_stampingWrite {s : State} {row : Instr} {l : LaneId} {p : Bytes} {t : State} {body : ReplyBody}
    (h : s.Serves row l p) (hrow : isStampingRow row = true)
    (judged : stampingTests (decide (1 ≤ settingCode p ∧ settingCode p ≤ 5))
      (stampingSetting s.stamping (settingValue p) (settingCode p)).2 p (s.popRequest l) = (t, body)) :
    exec row s = .next (t.replied l p body) := by
  obtain rfl : row = (stampingSetting s.stamping (settingValue p) (settingCode p)).1 := by
    rw [← h.2.1] at hrow ⊢
    exact requestRow_eq_stampingRow _ _ hrow
  revert h judged
  unfold stampingSetting
  split
  · next code => rw [code]; exact fun judged h => exec_of_serves rfl h judged
  · next code => rw [code]; exact fun judged h => exec_of_serves rfl h judged
  · next code => rw [code]; exact fun judged h => exec_of_serves rfl h judged
  · next code => rw [code]; exact fun judged h => exec_of_serves rfl h judged
  · next not1 not3 not4 not5 =>
    have known : (settingCode p == 2) = decide (1 ≤ settingCode p ∧ settingCode p ≤ 5) := by
      change _ ≠ _ at not1 not3 not4 not5
      rw [Bool.eq_iff_iff, beq_iff_eq, decide_eq_true_iff]
      omega
    rw [← known]
    exact fun judged h => exec_of_serves rfl h judged

/-! ### The tests in their order -/

/-- The tests of the group come in the order index, setting lock, setting code (R90, R189). -/
theorem stampingTests_cases (known : Bool) (judge : State → Answer) (p : Bytes) (s : State) :
    (reqIndex p ≠ 0 → stampingTests known judge p s = refuseWith .badIndex s) ∧
    (reqIndex p = 0 → (∃ b, s.InAuction b) → stampingTests known judge p s = refuseWith .locked s) ∧
    (reqIndex p = 0 → (∀ b, ¬ s.InAuction b) →
      stampingTests known judge p s = if known then judge s else refuseWith .badValue s) := by
  unfold stampingTests
  refine ⟨fun hi => if_pos hi, fun hi auction => ?_, fun hi quiet => ?_⟩ <;> rw [if_neg (not_not.mpr hi)]
  · exact if_pos (s.auctionActive_iff.mpr auction)
  · have inactive : ¬ s.auctionActive = true := by
      rw [s.auctionActive_iff]
      exact not_exists.mpr quiet
    rw [if_neg inactive]
    cases known <;> rfl

/-- A value is accepted within its range and refused outside it (R41, R60, R90). -/
theorem stampingRange_cases (low high v : Nat) (w : Stamping) (after : State → State) (s : State) :
    (low ≤ v ∧ v ≤ high →
      stampingRange low high v w after s = (after (acceptStamping w s), .completed .ok (stampingReply w))) ∧
    (v < low ∨ high < v → stampingRange low high v w after s = (s, .completed .badValue [])) :=
  ⟨fun inside => if_pos inside, fun outside => if_neg (by omega)⟩

/-- Where the grade stands, the judgement after a write of the value held changes nothing (R36, R41). -/
theorem judgeGrade_acceptStamping_held {s : State} (l : LaneId) (h : s.GradeStands) :
    (acceptStamping s.stamping (s.popRequest l)).judgeGrade = acceptStamping s.stamping (s.popRequest l) :=
  State.judgeGrade_of_judged (s := acceptStamping s.stamping (s.popRequest l)) h.1.symm

/-- Settles O41: the tests of the group by name, then each setting by its range. -/
theorem stampingWriteJudgement : Obligations.StampingWriteJudgement := by
  intro s row l p h hrow code v refusedAs accepted free
  have isRow : isStampingRow row = true := by rcases hrow with rfl | rfl | rfl | rfl | rfl <;> rfl
  obtain ⟨badIndex, locked, tested⟩ := stampingTests_cases (decide (1 ≤ code ∧ code ≤ 5))
    (stampingSetting s.stamping v code).2 p (s.popRequest l)
  have judged {n : Nat} {t : State} {body : ReplyBody} (listed : 1 ≤ n ∧ n ≤ 5)
      (hj : (stampingSetting s.stamping v n).2 (s.popRequest l) = (t, body)) (hf : free) (hc : code = n) :
      exec row s = .next (t.replied l p body) := by
    subst hc
    exact exec_stampingWrite h isRow ((tested hf.1 hf.2).trans ((if_pos (decide_eq_true listed)).trans hj))
  have ranged {n low high : Nat} {w : Stamping} {after : State → State} (listed : 1 ≤ n ∧ n ≤ 5)
      (setting : (stampingSetting s.stamping v n).2 (s.popRequest l) =
        stampingRange low high v w after (s.popRequest l)) (hf : free) (hc : code = n) :
      (low ≤ v ∧ v ≤ high → accepted w after) ∧ (v < low ∨ high < v → refusedAs .badValue) := by
    obtain ⟨inside, outside⟩ := stampingRange_cases low high v w after (s.popRequest l)
    exact ⟨fun hv => judged listed (setting.trans (inside hv)) hf hc,
      fun hv => judged listed (setting.trans (outside hv)) hf hc⟩
  have kept (stands : s.GradeStands) (written : accepted s.stamping State.judgeGrade) : accepted s.stamping id :=
    written.trans (congrArg (fun t : State => Host.Outcome.next (t.replied l p _))
      (judgeGrade_acceptStamping_held l stands))
  have writesH := ranged (n := 2) (by decide) rfl
  have writesL := ranged (n := 3) (by decide) rfl
  refine ⟨fun hi => exec_stampingWrite h isRow (badIndex hi),
    fun hi auction => exec_stampingWrite h isRow (locked hi auction),
    fun hf unlisted => exec_stampingWrite h isRow ((tested hf.1 hf.2).trans (if_neg ?_)),
    fun hf hc => ?dayOrigin, writesH, writesL, fun hf hc held low high stands => kept stands ?heldH,
    fun hf hc held low high stands => kept stands ?heldL, ranged (n := 4) (by decide) rfl, fun hf hc => ?entryType⟩
  · rw [decide_eq_true_iff]
    omega
  case dayOrigin =>
    obtain ⟨inside, outside⟩ := ranged (n := 1) (by decide) rfl hf hc
    exact ⟨fun hv => inside ⟨Nat.zero_le _, Nat.le_sub_one_of_lt hv⟩, fun hv => outside (.inr (by omega))⟩
  case heldH =>
    have same : ({ s.stamping with h := v } : Stamping) = s.stamping := by rw [held]
    rw [← same]
    exact (writesH hf hc).1 ⟨low, high⟩
  case heldL =>
    have same : ({ s.stamping with l := v } : Stamping) = s.stamping := by rw [held]
    rw [← same]
    exact (writesL hf hc).1 ⟨low, high⟩
  case entryType =>
    by_cases control : v = 0x9A4C
    · exact ⟨fun hv => absurd control hv.2, fun _ => judged (n := 5) (by decide) (if_pos control) hf hc⟩
    · obtain ⟨inside, outside⟩ := ranged (n := 5) (by decide) (if_neg control) hf hc
      exact ⟨fun hv => inside ⟨Nat.zero_le _, hv.1⟩, fun hv => outside (.inr (hv.resolve_right control))⟩

end Sys2Proof.Machine
end

section
/-! PROOFS. Frames that end on a port: what is taken and what is not (R48, R71, log 3), the discarded frames (R49, R51,
R71, R183) and the foreign frames (R52). -/

namespace Sys2Proof.Machine

/-! ### The end of a frame -/

/-- A frame in reception that is recognised as the row's sort is handled, and its reception ends (R48). -/
theorem State.frameEnds_of_rx {s : State} {l : LaneId} {f : Bytes} {sort : APortFrame} {rx : Reception}
    (h : (s.lane l).rx = some rx) (recognised : recogniseA s.stamping.entryType f = sort)
    (handle : Reception → State → State) :
    s.frameEnds l f sort handle = ((handle rx s).endReception l).afterReception l := by
  unfold State.frameEnds
  rw [h]
  exact if_pos recognised

/-- Without a frame in reception nothing ends (log 3). -/
theorem State.frameEnds_of_none {s : State} {l : LaneId} (h : (s.lane l).rx = none) (f : Bytes) (sort : APortFrame)
    (handle : Reception → State → State) : s.frameEnds l f sort handle = s := by
  unfold State.frameEnds
  rw [h]

/-- A B port whose link is UP handles a frame of the row's sort (R71). -/
theorem State.bFrameEnds_of_up {s : State} {l : LaneId} {f : Bytes} {sort : BPortFrame} (up : (s.lane l).bLink = .up)
    (recognised : recogniseB f = sort) (handle : State → State) : s.bFrameEnds l f sort handle = handle s := by
  unfold State.bFrameEnds
  rw [up]
  exact if_pos recognised

/-- A B port whose link is DOWN receives nothing (section 3.3). -/
theorem State.bFrameEnds_of_down {s : State} {l : LaneId} (down : (s.lane l).bLink = .down) (f : Bytes)
    (sort : BPortFrame) (handle : State → State) : s.bFrameEnds l f sort handle = s := by
  unfold State.bFrameEnds
  rw [down]

/-! ### Discarded frames -/

/-- A discarded frame on an A port is counted as what it is: oversize, or with a failed check (R49). -/
theorem exec_aFrameDiscarded {s : State} {l : LaneId} {f : Bytes} {rx : Reception} (h : (s.lane l).rx = some rx) :
    (recogniseA s.stamping.entryType f = .oversize → exec (.aFrameDiscarded l f) s =
      .next (((s.countLane l fun c => { c with aOversize := bump32 c.aOversize }).endReception l).afterReception l)) ∧
    (recogniseA s.stamping.entryType f = .failedCheck → exec (.aFrameDiscarded l f) s =
      .next (((s.countLane l fun c => { c with aFcsError := bump32 c.aFcsError }).endReception l).afterReception l)) :=
  ⟨fun r => congrArg _ ((if_pos r).trans (State.frameEnds_of_rx h r _)),
    fun r => congrArg _ ((if_neg (by simp [r])).trans (State.frameEnds_of_rx h r _))⟩

/-- A discarded frame on a B port whose link is UP is counted as what it is (R49, R71). -/
theorem exec_bFrameDiscarded {s : State} {l : LaneId} {f : Bytes} (up : (s.lane l).bLink = .up) :
    (recogniseB f = .oversize → exec (.bFrameDiscarded l f) s =
      .next (s.countLane l fun c => { c with bOversize := bump32 c.bOversize })) ∧
    (recogniseB f = .failedCheck → exec (.bFrameDiscarded l f) s =
      .next (s.countLane l fun c => { c with bFcsError := bump32 c.bFcsError })) :=
  ⟨fun r => congrArg _ ((if_pos r).trans (State.bFrameEnds_of_up up r _)),
    fun r => congrArg _ ((if_neg (by simp [r])).trans (State.bFrameEnds_of_up up r _))⟩

/-- Settles O15: each row by the end of a frame on its port; without a reception, or a link, nothing ends. -/
theorem discardedFramesAreCounted : Obligations.DiscardedFramesAreCounted := by
  intro l f s rx u inc counted ended
  refine ⟨fun free => ⟨congrArg Host.Outcome.next ?_, congrArg _ (State.frameEnds_of_none free _ _ _)⟩,
    fun h r => (exec_aFrameDiscarded h).1 r, fun h r => (exec_aFrameDiscarded h).2 r,
    fun h r => congrArg _ (State.frameEnds_of_rx h r _),
    fun down => ⟨congrArg Host.Outcome.next ?_, congrArg _ (State.bFrameEnds_of_down down _ _ _),
      congrArg _ (State.bFrameEnds_of_down down _ _ _)⟩,
    fun up r => (exec_bFrameDiscarded up).1 r, fun up r => (exec_bFrameDiscarded up).2 r,
    fun up r => congrArg _ (State.bFrameEnds_of_up up r _), fun up r => congrArg _ (State.bFrameEnds_of_up up r _)⟩
  · rw [State.frameEnds_of_none free, State.frameEnds_of_none free, ite_self]
  · rw [State.bFrameEnds_of_down down, State.bFrameEnds_of_down down, ite_self]

/-! ### Foreign frames -/

/-- A foreign frame by lane state and room (R52). -/
theorem State.handleForeign_cases (s : State) (l : LaneId) (f : Bytes) (rx : Reception) :
    let seen := s.raise { kind := .foreign, lane := some l }
    ((s.lane l).state = .disabled → s.handleForeign l f rx =
      (seen.countLane l fun c => { c with disabledDiscarded := bump32 c.disabledDiscarded }).raise
        { kind := .discardedDisabled, lane := some l }) ∧
    ((s.lane l).state ≠ .disabled → frameCount (s.lane l).hold < 64 →
      s.handleForeign l f rx = seen.admitFrame l none none none rx.captured rx.captured f) ∧
    ((s.lane l).state ≠ .disabled → 64 ≤ frameCount (s.lane l).hold → s.handleForeign l f rx =
      (seen.countLane l fun c => { c with foreignOverflow := bump32 c.foreignOverflow }).raise
        { kind := .overflow, lane := some l }) :=
  ⟨fun disabled => if_pos disabled, fun enabled room => (if_neg enabled).trans (if_pos room),
    fun enabled full => (if_neg enabled).trans (if_neg (not_lt.mpr full))⟩

/-- Settles O24: the end of the reception of a foreign frame, handled by lane state and room. -/
theorem foreignFrameByLaneState : Obligations.ForeignFrameByLaneState := by
  intro l f s rx h recognised u seen inc outcome
  have ends : exec (.foreignFrame l f) s = .next (((s.handleForeign l f rx).endReception l).afterReception l) :=
    congrArg _ (State.frameEnds_of_rx h recognised _)
  obtain ⟨disabled, room, full⟩ := s.handleForeign_cases l f rx
  have handled {t : State} (ht : s.handleForeign l f rx = t) : outcome t := by rw [← ht]; exact ends
  exact ⟨fun hs => handled (disabled hs), fun hs hr => handled (room hs hr), fun hs hf => handled (full hs hf)⟩

end Sys2Proof.Machine
end

section
/-! PROOFS. Reports, requests and credits on the B port (R70, R133, R134, R146, R184, R198), and the gateway egress
(R62, R126, R147). -/

namespace Sys2Proof.Machine

/-! ### Credits -/

/-- A grant whose credits all are there already leaves the count; any other sets it and judges the waits (R133,
R134). -/
theorem State.grant_cases (s : State) (l : LaneId) (n : Nat) :
    let u := s.lane l
    let granted := min (u.credits + n) 32
    let noted := if 32 < u.credits + n ∧ n ≠ 0 then s.raise { kind := .creditExcess, lane := some l } else s
    (granted = u.credits → s.grant l n = noted) ∧
    (granted ≠ u.credits → s.grant l n = (noted.setLane l { u with credits := granted }).judgeWaits l) :=
  ⟨fun same => if_pos same, fun changed => if_neg changed⟩

/-- A grant changes the credits of its lane, marks of waits and the evidence, and nothing else (R133, R134). -/
theorem State.grant_frame (s : State) (l : LaneId) (n : Nat) :
    let u := s.lane l
    let t := s.grant l n
    t.lane l = { u with credits := min (u.credits + n) 32, hold := (t.lane l).hold } ∧
      bodies (t.lane l).hold = bodies u.hold ∧ (∀ k, k ≠ l → t.lane k = s.lane k) ∧
      t = { s with lanes := t.lanes, evidence := t.evidence } := by
  intro u t
  obtain ⟨same, changed⟩ := s.grant_cases l n
  obtain ⟨noted, hnoted, events⟩ : ∃ noted, noted = (if 32 < u.credits + n ∧ n ≠ 0 then
      s.raise { kind := .creditExcess, lane := some l } else s) ∧ noted = { s with evidence := noted.evidence } :=
    ⟨_, rfl, by split <;> rfl⟩
  rw [← hnoted] at same changed
  by_cases h : min (u.credits + n) 32 = u.credits
  · rw [show t = noted from same h, events, h]
    exact ⟨rfl, rfl, fun _ _ => rfl, rfl⟩
  · rw [show t = _ from changed h]
    obtain ⟨lane, marked⟩ := noted.judgeWaits_setLane l { u with credits := min (u.credits + n) 32 }
    refine ⟨lane, marked, fun k hk => ?_, ?_⟩
    · rw [State.judgeWaits_lane_other _ hk, State.lane_setLane_of_ne _ _ hk, events]
      rfl
    · rw [events]
      rfl

/-- Settles O26: the end of a frame on the B port, then each queue and count by its limit. -/
theorem reportsRequestsAndCredits : Obligations.ReportsRequestsAndCredits := by
  constructor
  · intro l f s u
    refine ⟨fun down => ?_, fun up report => ?_, fun up request => ?_⟩
    · exact ⟨congrArg _ (State.bFrameEnds_of_down down _ _ _), congrArg _ (State.bFrameEnds_of_down down _ _ _),
        congrArg _ (State.bFrameEnds_of_down down _ _ _)⟩
    · have offered : exec (.reportFrame l f) s = .next (s.offerReport l f) :=
        congrArg _ (State.bFrameEnds_of_up up report _)
      rw [offered]
      exact ⟨fun room => congrArg _ (if_pos room), fun full => congrArg _ (if_neg (not_lt.mpr full))⟩
    · have offered : exec (.controlRequestArrival l f) s = .next (s.offerRequest l f) :=
        congrArg _ (State.bFrameEnds_of_up up request _)
      have permitted (on : u.permission = true) : ¬ (!u.permission) = true := by simp [on]
      rw [offered]
      exact ⟨fun off => congrArg _ (if_pos (by simp [u, off])),
        fun on room => congrArg _ ((if_neg (permitted on)).trans (if_pos room)),
        fun on full => congrArg _ ((if_neg (permitted on)).trans (if_neg (not_lt.mpr full)))⟩
  · intro l f s up credit u p n granted noted
    have taken : exec (.creditGrant l f) s = .next (if p.length < 2 then s.countShort l else s.grant l n) :=
      congrArg _ (State.bFrameEnds_of_up up credit _)
    have granting (long : 2 ≤ p.length) : exec (.creditGrant l f) s = .next (s.grant l n) :=
      taken.trans (congrArg _ (if_neg (not_lt.mpr long)))
    obtain ⟨same, changed⟩ := s.grant_cases l n
    exact ⟨fun short => taken.trans (congrArg _ (if_pos short)),
      fun long h => (granting long).trans (congrArg _ (same h)),
      fun long h => (granting long).trans (congrArg _ (changed h)),
      fun long => ⟨_, granting long, s.grant_frame l n⟩⟩

/-! ### The gateway egress -/

/-- What a free A egress does with each choice (R62, R126, R147). -/
def State.sendChosen (s : State) (l : LaneId) : GatewayChoice → State
  | .nothing => s.setLane l { s.lane l with aTx := none }
  | .probe => s.startProbe l
  | .report f rest =>
    s.setLane l { s.lane l with reports := rest, noticeShare := (s.lane l).shareAfterReport, aTx := some f }
  | .notice n rest =>
    s.setLane l { s.lane l with
      notices := rest, noticeShare := 0, aTx := some (ownFrame (aPort l) n.payload) }

/-- A free A egress whose link is UP sends what its arbiter chooses (R147). -/
theorem exec_gatewayEgressChoice {s : State} {l : LaneId} {c : GatewayChoice} (up : (s.lane l).aLink = .up)
    (h : (s.lane l).gatewayChoice = c) : exec (.gatewayEgressChoice l) s = .next (s.sendChosen l c) := by
  show execGatewayEgressChoice l s = _
  unfold execGatewayEgressChoice
  dsimp only
  split
  · next down => simp [up] at down
  · rw [h]
    cases c <;> rfl

/-- Whether the notice goes ahead of a report (R147). -/
theorem LaneUnit.noticeFirst_iff (u : LaneUnit) :
    u.noticeFirst = true ↔ u.notices ≠ [] ∧ u.noticeShare = 4 ∧ u.reports.length < 24 := by
  simp only [LaneUnit.noticeFirst, Bool.and_eq_true, beq_iff_eq, Bool.not_eq_true', List.isEmpty_eq_false_iff,
    decide_eq_true_iff, and_assoc]
  exact and_left_comm

/-- The order of the gateway egress: a queued probe, a notice that goes first, the report, the notice (R147). -/
theorem LaneUnit.gatewayChoice_cases (u : LaneUnit) :
    (u.probe = .queued → u.gatewayChoice = .probe) ∧
    (u.probe ≠ .queued → u.noticeFirst = true → u.gatewayChoice = u.noticeChoice) ∧
    (u.probe ≠ .queued → u.noticeFirst = false → ∀ f fs, u.reports = f :: fs → u.gatewayChoice = .report f fs) ∧
    (u.probe ≠ .queued → u.reports = [] → u.gatewayChoice = u.noticeChoice) := by
  unfold LaneUnit.gatewayChoice
  refine ⟨fun queued => if_pos queued, fun idle first => (if_neg idle).trans (if_pos first),
    fun idle second f fs reports => ?_, fun idle reports => ?_⟩
  · rw [if_neg idle, if_neg (by simp [second]), reports]
  · rw [if_neg idle, reports]
    exact ite_self _

/-- The notice at the head (R126). -/
theorem LaneUnit.noticeChoice_cons {u : LaneUnit} {n : Notice} {ns : List Notice} (h : u.notices = n :: ns) :
    u.noticeChoice = .notice n ns := by
  unfold LaneUnit.noticeChoice
  rw [h]

/-- Settles O31: the choice of the arbiter by its order, then what it sends. -/
theorem gatewayEgressSendsFirstCandidate : Obligations.GatewayEgressSendsFirstCandidate := by
  intro s l f fs n ns u outcome noticeFirst sendsNotice
  obtain ⟨queued, ahead, report, only⟩ := u.gatewayChoice_cases
  have share : u.notices = n :: ns → u.shareAfterReport = min (u.noticeShare + 1) 4 := fun notices => by
    simp [LaneUnit.shareAfterReport, notices, saturatingSucc, Config.noticeShareMax]
  have shareKept : u.notices = [] → u.shareAfterReport = u.noticeShare := fun notices => by
    simp [LaneUnit.shareAfterReport, notices]
  have behind (h : ¬ (u.notices ≠ [] ∧ noticeFirst)) : u.noticeFirst = false := by
    rw [← Bool.not_eq_true, u.noticeFirst_iff]
    exact h
  refine ⟨fun down => ?_, fun up hq => exec_gatewayEgressChoice up (queued hq), fun up hq reports notices => ?_,
    fun up hq reports notices second => ?_, fun up hq reports notices first => ?_, fun up hq reports notices => ?_,
    fun up hq reports notices => ?_⟩
  · show execGatewayEgressChoice l s = _
    unfold execGatewayEgressChoice
    simp only [show (s.lane l).aLink = .down from down]
  · rw [← shareKept notices]
    exact exec_gatewayEgressChoice up (report hq (behind fun h => h.1 notices) f fs reports)
  · rw [← share notices]
    exact exec_gatewayEgressChoice up (report hq (behind fun h => second h.2) f fs reports)
  · refine exec_gatewayEgressChoice up
      ((ahead hq (u.noticeFirst_iff.mpr ⟨?_, first⟩)).trans (LaneUnit.noticeChoice_cons notices))
    simp [notices]
  · exact exec_gatewayEgressChoice up ((only hq reports).trans (LaneUnit.noticeChoice_cons notices))
  · refine exec_gatewayEgressChoice up (c := .nothing) ((only hq reports).trans ?_)
    unfold LaneUnit.noticeChoice
    rw [notices]

end Sys2Proof.Machine
end

section
/-! PROOFS. How a frame that ended is recognised, and which entry frames are well formed (R49 to R51, R55, R71, R183,
R204). -/

namespace Sys2Proof.Machine

/-! ### Bytes and fields of a frame -/

/-- A one-byte field is that byte (R200). -/
theorem field_one_of_getElem? {bs : Bytes} {i : Nat} {b : Byte} (h : bs[i]? = some b) : field bs i 1 = b.toNat := by
  obtain ⟨bound, rfl⟩ := List.getElem?_eq_some_iff.mp h
  rw [field, List.drop_eq_getElem_cons bound]
  simp only [beNat, List.take_succ_cons, List.take_zero, List.foldl_cons, List.foldl_nil, zero_mul, zero_add]

/-- A two-byte field is its bytes, the most significant first (R200). -/
theorem field_two_of_getElem? {bs : Bytes} {i : Nat} {hi lo : Byte} (h : bs[i]? = some hi) (k : bs[i + 1]? = some lo) :
    field bs i 2 = hi.toNat * 256 + lo.toNat := by
  obtain ⟨bound, rfl⟩ := List.getElem?_eq_some_iff.mp h
  obtain ⟨bound', rfl⟩ := List.getElem?_eq_some_iff.mp k
  rw [field, List.drop_eq_getElem_cons bound, List.drop_eq_getElem_cons bound']
  simp only [beNat, List.take_succ_cons, List.take_zero, List.foldl_cons, List.foldl_nil, zero_mul, zero_add]

/-- Two bytes and the number they spell determine each other. -/
theorem byte_pair_eq_iff (hi lo hi' lo' : Byte) :
    hi.toNat * 256 + lo.toNat = hi'.toNat * 256 + lo'.toNat ↔ hi.toNat = hi'.toNat ∧ lo.toNat = lo'.toNat := by
  have := lo.isLt
  have := lo'.isLt
  omega

/-- What the payload holds stands after the link header and before the frame check (R205). -/
theorem payload_getElem? {f : Bytes} {i : Nat} (h : 18 + i < f.length) : (payload f)[i]? = f[14 + i]? := by
  have inside : 14 + i < f.length - 4 := by omega
  simp [payload, checkedPart, Config.linkHeader, List.getElem?_drop, inside]

theorem payload_length (f : Bytes) : (payload f).length = f.length - 18 := by
  simp [payload, checkedPart, Config.linkHeader]
  omega

/-- The kind of a control frame is the byte after its link header (R183, R204). -/
theorem frameKind_of_long {f : Bytes} (h : 19 ≤ f.length) : frameKind f = (f[14]?).map BitVec.toNat := by
  rw [frameKind, List.head?_eq_getElem?, payload_getElem? (by omega)]

/-- A frame that ends with its link header has no kind (R183). -/
theorem frameKind_of_short {f : Bytes} (h : f.length = 18) : frameKind f = none := by
  have empty : payload f = [] := List.eq_nil_of_length_eq_zero (by rw [payload_length, h])
  rw [frameKind, empty]
  rfl

/-- The type of a control frame is in bytes 12 and 13 (R49, R204). -/
theorem frameType_eq_control_iff {f : Bytes} (h : 14 ≤ f.length) :
    frameType f = Config.controlType ↔
      (f[12]?).map BitVec.toNat = some 0x9A ∧ (f[13]?).map BitVec.toNat = some 0x4C := by
  have first : f[12]? = some f[12] := List.getElem?_eq_getElem _
  have second : f[13]? = some f[13] := List.getElem?_eq_getElem _
  rw [frameType, field_two_of_getElem? first second, first, second, Option.map_some, Option.map_some, Option.some_inj,
    Option.some_inj]
  exact byte_pair_eq_iff f[12] f[13] 0x9A 0x4C

/-! ### Recognition -/

/-- A frame above the longest is oversize on either port (R49, R71). -/
theorem recognise_oversize (entryType : Nat) {f : Bytes} (h : 2048 < f.length) :
    recogniseA entryType f = .oversize ∧ recogniseB f = .oversize := ⟨if_pos h, if_pos h⟩

/-- A short frame, and one whose check fails, fail on either port (R49, R71). -/
theorem recognise_failedCheck (entryType : Nat) {f : Bytes} (fits : f.length ≤ 2048)
    (h : f.length < 18 ∨ checkHolds f = false) :
    recogniseA entryType f = .failedCheck ∧ recogniseB f = .failedCheck := by
  have fails : (f.length < Config.frameMin || !checkHolds f) = true := by
    rw [Bool.or_eq_true, decide_eq_true_iff, Bool.not_eq_true']
    exact h
  exact ⟨(if_neg (not_lt.mpr fits)).trans (if_pos fails), (if_neg (not_lt.mpr fits)).trans (if_pos fails)⟩

/-- A complete frame is recognised by its type, and a control frame by its kind (R49 to R51, R71, R183). -/
theorem recognise_complete (entryType : Nat) {f : Bytes} (long : 18 ≤ f.length) (fits : f.length ≤ 2048)
    (check : checkHolds f = true) :
    (frameType f = Config.controlType →
      (recogniseA entryType f = if frameKind f = some kindProbe then .probe else .control) ∧
      (frameKind f = none → recogniseB f = .noKind) ∧
      ∀ k, frameKind f = some k → recogniseB f =
        if k = kindCreditGrant then .creditGrant
        else if k = kindUncrossDone then .uncrossDone
        else if partSentKind k then .partSent
        else .request) ∧
    (frameType f ≠ Config.controlType →
      recogniseB f = .report ∧ recogniseA entryType f = if frameType f = entryType then .entry else .foreign) := by
  have holds : ¬ (f.length < Config.frameMin || !checkHolds f) = true := by
    rw [Bool.or_eq_true, decide_eq_true_iff, check]
    exact not_or.mpr ⟨not_lt.mpr long, Bool.false_ne_true⟩
  have fits : ¬ Config.frameMax < f.length := not_lt.mpr fits
  refine ⟨fun control => ⟨?_, fun kind => ?_, fun k kind => ?_⟩, fun other => ⟨?_, ?_⟩⟩
  · rw [recogniseA, if_neg fits, if_neg holds, if_pos control]
  · rw [recogniseB, if_neg fits, if_neg holds, if_neg (not_not.mpr control), kind]
  · rw [recogniseB, if_neg fits, if_neg holds, if_neg (not_not.mpr control), kind]
  · rw [recogniseB, if_neg fits, if_neg holds, if_pos other]
  · rw [recogniseA, if_neg fits, if_neg holds, if_neg other]

/-- The kinds the part sends itself (R71, R204). -/
theorem partSentKind_iff (k : Nat) :
    partSentKind k = true ↔ k = 0x30 ∨ k = 0x31 ∨ k = 0x32 ∨ k = 0x33 ∨ k = 0x34 := by
  simp only [partSentKind, Bool.and_eq_true, decide_eq_true_iff]
  omega

/-! ### Well-formed entry frames -/

/-- The conditions on a frame that holds the whole entry header, spelt on its bytes (R55, R56, R202). -/
theorem entryWellFormed_iff_of_long {f : Bytes} (long : 38 ≤ f.length) {version hi lo : Byte}
    (hv : f[14]? = some version) (hhi : f[16]? = some hi) (hlo : f[17]? = some lo) :
    entryWellFormed f = true ↔ f.length ≤ 1518 ∧ version.toNat = 1 ∧
      (hi.toNat * 256 + lo.toNat = f.length - 38 ∨
        (f.length = 64 ∧ hi.toNat * 256 + lo.toNat ≤ f.length - 38)) := by
  have length := payload_length f
  have readVersion : (entryHeader (payload f)).version = version.toNat :=
    (if_pos (by omega)).trans (field_one_of_getElem? ((payload_getElem? (by omega)).trans hv))
  have readDeclared : (entryHeader (payload f)).declared = hi.toNat * 256 + lo.toNat :=
    (if_pos (by omega)).trans (field_two_of_getElem? ((payload_getElem? (by omega)).trans hhi)
      ((payload_getElem? (by omega)).trans hlo))
  simp only [entryWellFormed, readVersion, readDeclared, Bool.and_eq_true, Bool.or_eq_true, decide_eq_true_iff,
    beq_iff_eq, long, and_true, and_assoc]
  exact Iff.rfl

/-- Settles O16: the recognition by length, check, type and kind, then the conditions of R55. -/
theorem frameRecognition : Obligations.FrameRecognition := by
  refine ⟨fun entryType f => ⟨recognise_oversize entryType, fun failed => ?_, fun long fits check => ?_⟩,
    fun f long => ?_⟩
  · have fits : f.length ≤ 2048 := by omega
    exact recognise_failedCheck entryType fits (failed.imp id And.right)
  · intro control kind
    obtain ⟨ofControl, ofOther⟩ := recognise_complete entryType long fits check
    have typed : frameType f = Config.controlType ↔ control := frameType_eq_control_iff (by omega)
    refine ⟨fun hc holds => ?_, fun hc short => ?_, fun hc => ofOther (mt typed.mp hc)⟩
    · obtain ⟨onA, -, onB⟩ := ofControl (typed.mpr hc)
      have kinds : frameKind f = kind := frameKind_of_long holds
      obtain ⟨k, hk⟩ : ∃ k, kind = some k := ⟨_, congrArg (Option.map _) (List.getElem?_eq_getElem (by omega))⟩
      rw [onA, onB k (kinds.trans hk), kinds, hk]
      simp [kindCreditGrant, kindUncrossDone, kindProbe, partSentKind_iff]
    · obtain ⟨onA, onB, -⟩ := ofControl (typed.mpr hc)
      have none := frameKind_of_short short
      exact ⟨onA.trans (if_neg (by simp [none])), onB none⟩
  · by_cases whole : 38 ≤ f.length
    · have byte {i : Nat} (h : i < 38) : ∃ b, f[i]? = some b := ⟨_, List.getElem?_eq_getElem (lt_of_lt_of_le h whole)⟩
      obtain ⟨version, hv⟩ := byte (i := 14) (by decide)
      obtain ⟨hi, hhi⟩ := byte (i := 16) (by decide)
      obtain ⟨lo, hlo⟩ := byte (i := 17) (by decide)
      rw [entryWellFormed_iff_of_long whole hv hhi hlo]
      simp [hv, hhi, hlo, whole]
    · have short : ¬ entryWellFormed f = true := by
        simp [entryWellFormed, whole]
      exact ⟨fun h => absurd h short, fun h => absurd h.2.1 whole⟩

end Sys2Proof.Machine
end

section
/-! PROOFS. Entry frames: how their disposition is reached (R53 to R55, R80, R121, R122), and what a passed or late one
leaves (R61, R123, R128, R129, R149). -/

namespace Sys2Proof.Machine

/-! ### A reservation that is used -/

/-- The Journal once a lane's reservation has taken its record: a number lost at the reservation holds none (R153). -/
def Journal.used (j : Journal) (l : LaneId) (r : Reservation) (lt : Nat) (body : RecordBody) : Journal :=
  if r.lost then j.setReservation l none else (j.setReservation l none).fillBound lt r.number body

theorem State.offerEntry_of_some {s : State} {l : LaneId} {r : Reservation} (h : s.journal.reservation l = some r)
    (e : EntryRecord) : s.offerEntry l e = { s with journal := s.journal.used l r s.lt (.entry e) } := by
  unfold State.offerEntry
  rw [h]
  rfl

theorem State.offerEntry_of_none {s : State} {l : LaneId} (h : s.journal.reservation l = none) (e : EntryRecord) :
    s.offerEntry l e = s.offer (.entry e) := by
  unfold State.offerEntry
  rw [h]

theorem State.voidReservation_of_some {s : State} {l : LaneId} {r : Reservation}
    (h : s.journal.reservation l = some r) :
    s.voidReservation l = { s with journal := s.journal.used l r s.lt .gapVoid } := by
  unfold State.voidReservation
  rw [h]
  rfl

theorem State.voidReservation_of_none {s : State} {l : LaneId} (h : s.journal.reservation l = none) :
    s.voidReservation l = s := by
  unfold State.voidReservation
  rw [h]

@[simp] theorem Journal.reservation_fillBound (j : Journal) (lt n : Nat) (body : RecordBody) (l : LaneId) :
    (j.fillBound lt n body).reservation l = j.reservation l := by
  simp [Journal.reservation, Journal.fillBound]

/-- A used reservation is given up; its record stands in the slot bound to its number (R153). -/
theorem Journal.used_spec (j : Journal) (l : LaneId) (r : Reservation) (lt : Nat) (body : RecordBody) :
    (j.used l r lt body).counter = j.counter ∧ (j.used l r lt body).reservation l = none ∧
      (r.lost = false → ∀ h ∈ j.held, h.number = r.number →
        { h with content := .written lt body } ∈ (j.used l r lt body).held) := by
  have given : (j.setReservation l none).reservation l = none :=
    (Journal.reservation_setReservation _ _ _ _).trans (if_pos rfl)
  unfold Journal.used
  split
  next lost => exact ⟨rfl, given, fun bound => by simp [lost] at bound⟩
  next =>
    refine ⟨Journal.syncFlush_counter .., (Journal.reservation_fillBound ..).trans given, fun _ h hh hn => ?_⟩
    rw [Journal.fillBound, Journal.syncFlush_held]
    exact List.mem_map.mpr ⟨h, hh, if_pos hn⟩

/-- The ENTRY record of a lane takes the counter's number, or that of its reservation (R149, R153, R158). -/
theorem State.offerEntry_journal (s : State) (l : LaneId) (e : EntryRecord) :
    let t := s.offerEntry l e
    (s.journal.reservation l = none → t.journal.counter = s.journal.counter + 1) ∧
    (s.journal.reservation l = none → s.journal.held.length < 4096 →
      t.journal.held = s.journal.held ++ [⟨s.journal.counter, s.journal.lowestFree, .written s.lt (.entry e)⟩]) ∧
    (∀ r, s.journal.reservation l = some r →
      t.journal.counter = s.journal.counter ∧ t.journal.reservation l = none ∧
      (r.lost = false → ∀ h ∈ s.journal.held, h.number = r.number →
        { h with content := .written s.lt (.entry e) } ∈ t.journal.held)) := by
  intro t
  refine ⟨fun unset => ?_, fun unset room => ?_, fun r set => ?_⟩
  · rw [show t = _ from State.offerEntry_of_none unset e, State.offer_counter]
  · rw [show t = _ from State.offerEntry_of_none unset e]
    exact Journal.admitRecord_held_of_free _ _ _ fun full => by
      have := s.journal.freeCount_eq_zero_iff.mp full
      omega
  · rw [show t = _ from State.offerEntry_of_some set e]
    exact s.journal.used_spec l r s.lt _

/-- A RECORD_LOST event is raised where the ring is full and nothing is reserved; nothing but the Journal changes
beside it (R149, R153, R159). -/
theorem State.offerEntry_frame (s : State) (l : LaneId) (e : EntryRecord) :
    let lost := s.journal.reservation l = none ∧ 4096 ≤ s.journal.held.length
    s.offerEntry l e = { s with
      journal := (s.offerEntry l e).journal
      evidence := (if lost then [lostEvent (.entry e)] else []).foldl Evidence.apply s.evidence } := by
  intro lost
  by_cases unset : s.journal.reservation l = none
  · rw [State.offerEntry_of_none unset, State.offer]
    by_cases full : 4096 ≤ s.journal.held.length
    · rw [if_pos (s.journal.freeCount_eq_zero_iff.mpr full), if_pos (show lost from ⟨unset, full⟩)]
      rfl
    · rw [if_neg (mt s.journal.freeCount_eq_zero_iff.mp full), if_neg fun h : lost => full h.2]
      rfl
  · obtain ⟨r, set⟩ := Option.ne_none_iff_exists'.mp unset
    rw [State.offerEntry_of_some set, if_neg fun h : lost => unset h.1]
    rfl

theorem State.entryNumber_eq (s : State) (l : LaneId) :
    s.entryNumber l = ((s.journal.reservation l).map Reservation.number).getD s.journal.counter := by
  unfold State.entryNumber
  cases s.journal.reservation l <;> rfl

/-! ### Forwarded frames -/

/-- Settles O22: the record under the lane's number, the events in their order, then the admission. -/
theorem forwardedEntryIsRecordedAndHeld : Obligations.ForwardedEntryIsRecordedAndHeld := by
  intro l s f rx j n c cls forwarded number late event lostBefore record
  have numbered : s.entryNumber l = number := s.entryNumber_eq l
  have recorded : .entry (entryRecord l rx j none) = record := by
    rw [entryRecord, cls]
  have marked : (j.disposition == .late) = late := rfl
  have raised : dispositionEvents l j = [event (if late then .entryLate else .entryPass)] := by
    unfold dispositionEvents
    rcases forwarded with hd | hd <;> simp [hd, cls, late, event]
  have lost : lostEvent record = event .recordLost := rfl
  have framed := s.offerEntry_frame l (entryRecord l rx j none)
  obtain ⟨count, held, reserved⟩ := s.offerEntry_journal l (entryRecord l rx j none)
  rw [recorded] at framed held reserved
  refine ⟨(s.offerEntry l (entryRecord l rx j none)).raiseAll (dispositionEvents l j), ?_, ?_, count,
    fun unset room => ?_, reserved⟩
  · rw [← numbered, ← marked]
    rfl
  · rw [State.raiseAll, raised, List.foldl_append, ← lost, framed]
  · rw [show number = s.journal.counter from by simp [number, unset]]
    exact held unset room

/-! ### Dispositions -/

/-- What a class and its book's answer make of an entry frame (R121). -/
theorem disposition_cases (g : Gating) (a : Admission) (la : LateAction) :
    (g = .opened ∨ ((g = .call ∨ g = .window) ∧ a = .accept) → disposition g a la = .pass) ∧
    ((g = .freeze ∨ g = .post) ∧ la = .mark → disposition g a la = .late) ∧
    ((g = .call ∨ g = .window) ∧ a = .refuse → disposition g a la = .refused .auctionExcluded) ∧
    ((g = .freeze ∨ g = .post) ∧ la = .refuse → disposition g a la = .refused .lateRefused) := by
  cases g
  case opened => simp [disposition]
  case call | window => cases a <;> simp [disposition]
  case freeze | post => cases la <;> simp [disposition]

/-- The overflow test turns what is passed or late where no frame has room, and keeps a refusal (R122). -/
theorem overflowTest_cases (frames : Nat) (d : Disposition) :
    (frames < 64 → overflowTest frames d = d) ∧
    (d = .pass ∨ d = .late → ¬ frames < 64 → overflowTest frames d = .refused .overflow) ∧
    (∀ r, d = .refused r → overflowTest frames d = .refused r) := by
  cases d with
  | refused r => exact ⟨fun _ => rfl, fun h => by simp at h, fun _ h => h⟩
  | pass => exact ⟨fun room => if_pos room, fun _ full => if_neg full, fun _ h => by simp at h⟩
  | late => exact ⟨fun room => if_pos room, fun _ full => if_neg full, fun _ h => by simp at h⟩

/-- A well-formed frame on an ACTIVE lane, by what its book answers and the disposition that gives (R80, R121, R122). -/
theorem State.handleWellFormed_of {s asked : State} {l : LaneId} {rx : Reception} {h : EntryHeader} {g : Gating}
    {d : Disposition} (f : Bytes)
    (query : s.queryGating l (s.classTable[(s.classify h).val]).book rx.stamp = (asked, g))
    (disposed : overflowTest (frameCount (asked.lane l).hold)
      (disposition g (s.classTable[(s.classify h).val]).admission (s.classTable[(s.classify h).val]).lateAction) = d) :
    let c := s.classTable[(s.classify h).val]
    let j : Judged := ⟨h, some (s.classify h), c.book, g, d⟩
    (∀ r, d = .refused r → s.handleWellFormed l f rx h = asked.refuseEntry l rx j r) ∧
    (d = .pass ∨ d = .late →
      s.handleWellFormed l f rx h = asked.forwardEntry l f rx j (s.classify h) c) := by
  intro c j
  unfold State.handleWellFormed
  simp only [query, disposed]
  cases d with
  | refused r => exact ⟨fun r hr => by cases hr; rfl, fun hd => by simp at hd⟩
  | pass => exact ⟨fun r hr => by simp at hr, fun _ => rfl⟩
  | late => exact ⟨fun r hr => by simp at hr, fun _ => rfl⟩

/-- An entry frame by the state of its lane (R53 to R55). -/
theorem State.handleEntry_cases (s : State) (l : LaneId) (f : Bytes) (rx : Reception) :
    let h := entryHeader (payload f)
    ((s.lane l).state = .disabled → s.handleEntry l f rx =
      (s.countLane l fun c => { c with disabledDiscarded := bump32 c.disabledDiscarded }).raise
        { kind := .discardedDisabled, lane := some l }) ∧
    ((s.lane l).state = .draining →
      s.handleEntry l f rx = s.refuseEntry l rx (unclassified h .laneDraining) .laneDraining) ∧
    (∀ r, (s.lane l).state = .probing r →
      s.handleEntry l f rx = s.refuseEntry l rx (unclassified h .laneProbing) .laneProbing) ∧
    ((s.lane l).state = .active → entryWellFormed f = false →
      s.handleEntry l f rx = s.refuseEntry l rx (unclassified h .malformed) .malformed) ∧
    ((s.lane l).state = .active → entryWellFormed f = true → s.handleEntry l f rx = s.handleWellFormed l f rx h) := by
  unfold State.handleEntry
  cases (s.lane l).state <;> simp +contextual

/-- Settles O18: the end of the reception of an entry frame, handled by the lane's state; a well-formed one on an ACTIVE
lane by its disposition and the overflow test. -/
theorem entryFrameByLaneState : Obligations.EntryFrameByLaneState := by
  intro l f s rx received recognised u h ended refusedAs c asked gating room judged early late outcome
  have ends {t : State} (ht : s.handleEntry l f rx = t) : outcome t := by
    rw [← ht]
    exact congrArg _ (State.frameEnds_of_rx received recognised _)
  obtain ⟨disabled, draining, probing, malformed, wellFormed⟩ := s.handleEntry_cases l f rx
  refine ⟨fun hs => ends (disabled hs), fun hs => ends (draining hs), fun r hs => ends (probing r hs),
    fun hs hf => ends (malformed hs hf), fun hs hf => ?_⟩
  have query : s.queryGating l c.book rx.stamp = (asked, gating) := by
    simp only [asked, gating, State.queryGating]
    cases c.book <;> rfl
  obtain ⟨passes, lates, excluded, lateRefused⟩ := disposition_cases gating c.admission c.lateAction
  obtain ⟨fits, overflows, keeps⟩ := overflowTest_cases (frameCount (asked.lane l).hold)
    (disposition gating c.admission c.lateAction)
  have forwards {d : Disposition} (hd : disposition gating c.admission c.lateAction = d) (hr : room)
      (hf' : d = .pass ∨ d = .late) : outcome (asked.forwardEntry l f rx (judged d) (s.classify h) c) :=
    ends ((wellFormed hs hf).trans ((State.handleWellFormed_of f query ((fits hr).trans hd)).2 hf'))
  have refuses {r : EntryRefusal} (hd : overflowTest (frameCount (asked.lane l).hold)
      (disposition gating c.admission c.lateAction) = .refused r) :
      outcome (asked.refuseEntry l rx (judged (.refused r)) r) :=
    ends ((wellFormed hs hf).trans ((State.handleWellFormed_of f query hd).1 r rfl))
  exact ⟨fun he hr => forwards (passes he) hr (.inl rfl), fun hl hr => forwards (lates hl) hr (.inr rfl),
    fun either full => refuses (overflows (either.imp passes lates) full),
    fun hg ha => refuses (keeps _ (excluded ⟨hg, ha⟩)), fun hg hl => refuses (keeps _ (lateRefused ⟨hg, hl⟩))⟩

end Sys2Proof.Machine
end

section
/-! PROOFS. A waiting compensation (R69), the placement of triggers (R139 to R141) and the end of a reception (R48,
R153). -/

namespace Sys2Proof.Machine

/-! ### A compensation that waits -/

/-- A written compensation waits and nothing is in the way of its installation (R69). -/
def LaneUnit.Settles (u : LaneUnit) : Prop := u.compPending = true ∧ u.rx = none ∧ u.probe = .none

theorem LaneUnit.settles_iff (u : LaneUnit) :
    (u.compPending && u.rx.isNone && u.probe == .none) = true ↔ u.Settles := by
  simp [LaneUnit.Settles, and_assoc]

theorem LaneUnit.compPending_eq_false_iff (u : LaneUnit) :
    u.compPending = false ↔ u.pendingC = none ∧ u.pendingU = none := by
  simp [LaneUnit.compPending]

/-- What an installation leaves of a lane (R69). -/
theorem LaneUnit.settled_of_settles {u : LaneUnit} (h : u.Settles) : u.settled = { u with
    cLane := u.pendingC.getD u.cLane, uLane := u.pendingU.getD u.uLane, pendingC := none, pendingU := none } :=
  if_pos (u.settles_iff.mpr h)

theorem LaneUnit.settled_of_not {u : LaneUnit} (h : ¬ u.Settles) : u.settled = u :=
  if_neg (mt u.settles_iff.mp h)

/-- Nothing of a lane but the compensation is changed by its installation (R69). -/
theorem LaneUnit.settled_eq (u : LaneUnit) : u.settled = { u with
    cLane := u.settled.cLane, uLane := u.settled.uLane
    pendingC := u.settled.pendingC, pendingU := u.settled.pendingU } := by
  unfold LaneUnit.settled
  split <;> rfl

/-- The installation looks at no field but the compensation, the reception and the probe (R69). -/
theorem LaneUnit.Placed.settled {u v : LaneUnit} (h : u.Placed v) : u.settled.Placed v.settled := by
  obtain ⟨added, hv⟩ := h
  have same : v.settled = { u.settled with hold := v.hold, pendingTriggers := v.pendingTriggers } := by
    rw [hv]
    unfold LaneUnit.settled LaneUnit.compPending
    dsimp only
    split <;> rfl
  refine ⟨?_, by rw [same]⟩
  rw [same, u.settled_eq]
  exact added

theorem State.installPending_of_not {s : State} {l : LaneId} (h : ¬ (s.lane l).Settles) : s.installPending l = s :=
  if_neg (mt (s.lane l).settles_iff.mp h)

theorem State.installPending_of_settles {s : State} {l : LaneId} (h : (s.lane l).Settles) :
    s.installPending l = (s.setLane l { s.lane l with pendingC := none, pendingU := none }).install l
      ((s.lane l).pendingC.getD (s.lane l).cLane) ((s.lane l).pendingU.getD (s.lane l).uLane) none :=
  if_pos ((s.lane l).settles_iff.mpr h)

/-- An installation, if there is one, settles its lane, may place triggers there, and leaves the other lanes alone
(R69, R140). -/
theorem State.installPending_settles (s : State) (l : LaneId) :
    (s.lane l).settled.Placed ((s.installPending l).lane l) ∧ ∀ k, k ≠ l → (s.installPending l).lane k = s.lane k := by
  by_cases h : (s.lane l).Settles
  · obtain ⟨placed, others⟩ := s.installPending_lane l h.2.2
    rw [(LaneUnit.installed_spec _).1 h.2.1] at placed
    rw [LaneUnit.settled_of_settles h]
    exact ⟨placed, others⟩
  · rw [State.installPending_of_not h, LaneUnit.settled_of_not h]
    exact ⟨.refl _, fun _ _ => rfl⟩

@[simp] theorem State.install_counter (s : State) (l : LaneId) (c u : Nat) (r : Option Nat) :
    (s.install l c u r).journal.counter = s.journal.counter + 1 := by
  simp [State.install]

/-- An installation gives its one record (R69, R72). -/
theorem State.installPending_counter (s : State) (l : LaneId) :
    ((s.lane l).Settles → (s.installPending l).journal.counter = s.journal.counter + 1) ∧
      (¬ (s.lane l).Settles → (s.installPending l).journal.counter = s.journal.counter) :=
  ⟨fun h => by rw [State.installPending_of_settles h]; simp, fun h => by rw [State.installPending_of_not h]⟩

/-! ### Placements -/

/-- One placed trigger: its entry at the tail, no pending trigger of its book, its book HELD (R141). -/
theorem State.placeTrigger_spec (s : State) (l : LaneId) (p : PendingTrigger) :
    let t := s.placeTrigger l p
    bodies (t.lane l).hold = bodies (s.lane l).hold ++ [(.trigger p.book p.endInstant, s.lt)] ∧
    (t.lane l).pendingTriggers = (s.lane l).pendingTriggers.filter (fun q => q.book != p.book) ∧
    (t.book p.book).trigger l = .held ∧ ∀ b, b ≠ p.book → t.book b = s.book b := by
  intro t
  have judged := ((s.setLane l
    { s.lane l with
      hold := (s.lane l).hold ++ [⟨.trigger p.book p.endInstant, s.lt, false, false⟩]
      pendingTriggers := (s.lane l).pendingTriggers.filter fun q => q.book != p.book }).setBook p.book
        ((s.book p.book).setTrigger l .held)).judgeWaits_lane l
  rw [State.lane_setBook, State.lane_setLane_same] at judged
  refine ⟨judged.2.trans (bodies_append _ _), congrArg LaneUnit.pendingTriggers judged.1, ?_, fun b hb => ?_⟩
  · exact (congrArg (Book.trigger · l) (State.book_setBook_same _ _ _)).trans (Book.trigger_setTrigger_same _ _ _)
  · exact State.book_setBook_of_ne _ _ hb

/-- Triggers placed one after another (R140, R141). -/
theorem State.foldl_placeTrigger (ps : List PendingTrigger) (s : State) (l : LaneId) :
    let t := ps.foldl (fun s p => s.placeTrigger l p) s
    bodies (t.lane l).hold = bodies (s.lane l).hold ++ ps.map (fun p => (.trigger p.book p.endInstant, s.lt)) ∧
    (∀ q, q ∈ (t.lane l).pendingTriggers ↔ q ∈ (s.lane l).pendingTriggers ∧ ∀ p ∈ ps, q.book ≠ p.book) ∧
    (∀ p ∈ ps, (t.book p.book).trigger l = .held) ∧ ∀ b, (∀ p ∈ ps, b ≠ p.book) → t.book b = s.book b := by
  induction ps generalizing s with
  | nil => simp
  | cons p ps ih =>
    obtain ⟨joined, left, held, others⟩ := s.placeTrigger_spec l p
    obtain ⟨bodies', left', held', others'⟩ := ih (s.placeTrigger l p)
    have lt : (s.placeTrigger l p).lt = s.lt := rfl
    refine ⟨?_, fun q => ?_, fun q hq => ?_, fun b hb => ?_⟩
    · rw [List.foldl_cons, bodies', joined, lt]
      simp
    · rw [List.foldl_cons, left', left]
      simp [and_assoc]
    · by_cases later : ∃ r ∈ ps, q.book = r.book
      · obtain ⟨r, hr, same⟩ := later
        rw [List.foldl_cons, same]
        exact held' r hr
      · push Not at later
        have first : q = p := (List.mem_cons.mp hq).resolve_right fun hq => later q hq rfl
        rw [List.foldl_cons, others' q.book later, first]
        exact held
    · rw [List.foldl_cons, others' b fun r hr => hb r (List.mem_cons_of_mem _ hr)]
      exact others b (hb p List.mem_cons_self)

/-- From `s` to `t` lane `l` was only given triggers: no entry left its list, no pending trigger came, and what was HELD
for it is HELD still (R141). -/
structure State.PlacesOn (s t : State) (l : LaneId) : Prop where
  entries : ∀ x ∈ bodies (s.lane l).hold, x ∈ bodies (t.lane l).hold
  triggers : ∀ q ∈ (t.lane l).pendingTriggers, ∃ p ∈ (s.lane l).pendingTriggers, p.book = q.book
  held : ∀ b, (s.book b).trigger l = .held → (t.book b).trigger l = .held

theorem State.PlacesOn.refl (s : State) (l : LaneId) : s.PlacesOn s l :=
  ⟨fun _ h => h, fun q h => ⟨q, h, rfl⟩, fun _ h => h⟩

theorem State.PlacesOn.trans {s t u : State} {l : LaneId} (h : s.PlacesOn t l) (k : t.PlacesOn u l) :
    s.PlacesOn u l where
  entries x hx := k.entries x (h.entries x hx)
  triggers q hq := by
    obtain ⟨p, hp, same⟩ := k.triggers q hq
    obtain ⟨r, hr, same'⟩ := h.triggers p hp
    exact ⟨r, hr, same'.trans same⟩
  held b hb := k.held b (h.held b hb)

theorem State.placementTest_placesOn (s : State) (l : LaneId) : s.PlacesOn (s.placementTest l) l := by
  obtain ⟨joined, left, held, others⟩ :=
    State.foldl_placeTrigger ((s.lane l).pendingTriggers.filter (s.placeable l)) s l
  refine ⟨fun x hx => ?_, fun q hq => ⟨q, ((left q).mp hq).1, rfl⟩, fun b hb => ?_⟩
  · rw [State.placementTest, joined]
    exact List.mem_append_left _ hx
  · by_cases placed : ∃ p ∈ (s.lane l).pendingTriggers.filter (s.placeable l), b = p.book
    · obtain ⟨p, hp, rfl⟩ := placed
      exact held p hp
    · push Not at placed
      rw [State.placementTest, others b placed]
      exact hb

theorem State.install_placesOn (s : State) (l : LaneId) (c u : Nat) (r : Option Nat) :
    s.PlacesOn (s.install l c u r) l := by
  refine .trans ⟨fun x hx => ?_, fun q hq => ?_, ?_⟩ (State.placementTest_placesOn _ l)
  · rw [State.lane_setLane_same]
    exact hx
  · rw [State.lane_setLane_same] at hq
    obtain ⟨p, hp, rfl⟩ := List.mem_map.mp hq
    exact ⟨p, hp, rfl⟩
  · exact fun b hb => hb

theorem State.installPending_placesOn (s : State) (l : LaneId) : s.PlacesOn (s.installPending l) l := by
  by_cases h : (s.lane l).Settles
  · rw [State.installPending_of_settles h]
    refine .trans ⟨fun x hx => ?_, fun q hq => ?_, ?_⟩ (State.install_placesOn _ l _ _ _)
    · rw [State.lane_setLane_same]
      exact hx
    · rw [State.lane_setLane_same] at hq
      exact ⟨q, hq, rfl⟩
    · exact fun b hb => hb
  · rw [State.installPending_of_not h]
    exact .refl s l

/-- With nothing in reception a trigger is placed once LT has reached its end instant and C_lane behind (R140). -/
theorem State.placeable_iff {s : State} {l : LaneId} (h : (s.lane l).rx = none) (p : PendingTrigger) :
    s.placeable l p = true ↔ p.endInstant + (s.lane l).cLane ≤ s.lt := by
  simp [State.placeable, h]

/-- A placement test with nothing in reception: the ripe triggers are placed, the others wait (R140, R141). -/
theorem State.placementTest_spec {s : State} {l : LaneId} (h : (s.lane l).rx = none) :
    let ripe (p : PendingTrigger) := p.endInstant + (s.lane l).cLane ≤ s.lt
    let t := s.placementTest l
    (∀ p ∈ (s.lane l).pendingTriggers, ripe p → (∀ q ∈ (t.lane l).pendingTriggers, q.book ≠ p.book) ∧
      (t.book p.book).trigger l = .held ∧ (.trigger p.book p.endInstant, s.lt) ∈ bodies (t.lane l).hold) ∧
    (∀ p ∈ (s.lane l).pendingTriggers,
      (∀ q ∈ (s.lane l).pendingTriggers, ripe q → p.book ≠ q.book) → p ∈ (t.lane l).pendingTriggers) := by
  intro ripe t
  obtain ⟨joined, left, held, -⟩ :=
    State.foldl_placeTrigger ((s.lane l).pendingTriggers.filter (s.placeable l)) s l
  have chosen (p : PendingTrigger) : p ∈ (s.lane l).pendingTriggers.filter (s.placeable l) ↔
      p ∈ (s.lane l).pendingTriggers ∧ ripe p := by
    rw [List.mem_filter, State.placeable_iff h]
  refine ⟨fun p hp hr => ⟨fun q hq => ?_, ?_, ?_⟩, fun p hp alone => (left p).mpr ⟨hp, fun q hq => ?_⟩⟩
  · exact ((left q).mp hq).2 p ((chosen p).mpr ⟨hp, hr⟩)
  · exact held p ((chosen p).mpr ⟨hp, hr⟩)
  · show _ ∈ bodies ((s.placementTest l).lane l).hold
    rw [State.placementTest, joined]
    exact List.mem_append_right _ (List.mem_map.mpr ⟨p, (chosen p).mpr ⟨hp, hr⟩, rfl⟩)
  · obtain ⟨hq, hr⟩ := (chosen q).mp hq
    exact alone q hq hr

/-- Without a pending trigger a placement test does nothing (R140). -/
theorem State.placementTest_of_nil {s : State} {l : LaneId} (h : (s.lane l).pendingTriggers = []) :
    s.placementTest l = s := by
  simp [State.placementTest, h]

/-! ### The end of a reception -/

@[simp] theorem State.endReception_lane (s : State) (l : LaneId) :
    (s.endReception l).lane l = { s.lane l with rx := none } := by
  have lanes := State.voidReservation_lanes (s.setLane l { s.lane l with rx := none }) l
  rw [State.endReception, State.lane, lanes]
  exact State.lane_setLane_same s l _

@[simp] theorem State.endReception_lane_of_ne (s : State) {l k : LaneId} (h : k ≠ l) :
    (s.endReception l).lane k = s.lane k := by
  have lanes := State.voidReservation_lanes (s.setLane l { s.lane l with rx := none }) l
  rw [State.endReception, State.lane, lanes]
  exact State.lane_setLane_of_ne s _ h

@[simp] theorem State.endReception_lt (s : State) (l : LaneId) : (s.endReception l).lt = s.lt :=
  State.lt_of_fixedPart (State.fixedPart_endReception s l)

/-- What a void reservation leaves alone (R153). -/
theorem State.endReception_books (s : State) (l : LaneId) :
    (s.endReception l).books = s.books ∧ (s.endReception l).bookUnit = s.bookUnit := by
  unfold State.endReception State.voidReservation
  split <;> exact ⟨rfl, rfl⟩

@[simp] theorem State.endReception_book (s : State) (l : LaneId) (b : BookId) :
    (s.endReception l).book b = s.book b := by
  simp [State.book, (s.endReception_books l).1]

/-- A reservation still held becomes VOID (R153). -/
theorem State.endReception_journal (s : State) (l : LaneId) :
    let t := s.endReception l
    t.journal.counter = s.journal.counter ∧ t.journal.reservation l = none ∧
    (s.journal.reservation l = none → t = s.setLane l { s.lane l with rx := none }) ∧
    ∀ r h, s.journal.reservation l = some r → r.lost = false → h ∈ s.journal.held → h.number = r.number →
      { h with content := .written s.lt .gapVoid } ∈ t.journal.held := by
  intro t
  have unset (h : s.journal.reservation l = none) : t = s.setLane l { s.lane l with rx := none } :=
    State.voidReservation_of_none (s := s.setLane l { s.lane l with rx := none }) h
  by_cases h : s.journal.reservation l = none
  · rw [unset h]
    exact ⟨rfl, h, fun _ => rfl, fun r _ set => by simp [h] at set⟩
  · obtain ⟨r, set⟩ := Option.ne_none_iff_exists'.mp h
    obtain ⟨count, given, bound⟩ := s.journal.used_spec l r s.lt .gapVoid
    rw [show t = _ from State.voidReservation_of_some (s := s.setLane l { s.lane l with rx := none }) set]
    refine ⟨count, given, fun unset => absurd unset h, fun q x hq lost held number => ?_⟩
    obtain rfl : r = q := Option.some.inj (set.symm.trans hq)
    exact bound lost x held number

theorem State.endReception_booksKept (s : State) (l : LaneId) : s.BooksKept (s.endReception l) :=
  .of_same (s.endReception_books l).1 (s.endReception_books l).2

/-- What follows a reception settles its lane, may place triggers there, and leaves the other lanes alone (R69,
R140). -/
theorem State.afterReception_lane (s : State) (l : LaneId) :
    (s.lane l).settled.Placed ((s.afterReception l).lane l) ∧ ∀ k, k ≠ l → (s.afterReception l).lane k = s.lane k := by
  obtain ⟨placed, others⟩ := (s.placementTest l).installPending_settles l
  exact ⟨(s.placementTest_placed l l).settled.trans placed,
    fun k hk => (others k hk).trans (s.placementTest_lane_other hk)⟩

theorem State.afterReception_onlyOffers (s : State) (l : LaneId) : s.OnlyOffers (s.afterReception l) :=
  (s.placementTest_onlyOffers l).trans (State.installPending_onlyOffers _ l)

theorem State.afterReception_booksKept (s : State) (l : LaneId) : s.BooksKept (s.afterReception l) :=
  (s.placementTest_booksKept l).trans (State.installPending_booksKept _ l)

/-- After the placement test a lane settles as it would have before it (R69, log 11). -/
theorem LaneUnit.Placed.settles_iff {u v : LaneUnit} (h : u.Placed v) : v.Settles ↔ u.Settles := by
  rw [h.2]
  exact Iff.rfl

/-- Where no compensation waits, or something is in its way, only the placement test follows a reception (R69). -/
theorem State.afterReception_of_not {s : State} {l : LaneId} (h : ¬ (s.lane l).Settles) :
    s.afterReception l = s.placementTest l :=
  State.installPending_of_not (mt (s.placementTest_placed l l).settles_iff.mp h)

/-- What follows a reception gives a record only where it installs a compensation (R69, R72). -/
theorem State.afterReception_counter (s : State) (l : LaneId) :
    ((s.lane l).Settles → (s.afterReception l).journal.counter = s.journal.counter + 1) ∧
      (¬ (s.lane l).Settles → (s.afterReception l).journal.counter = s.journal.counter) := by
  obtain ⟨installs, stays⟩ := (s.placementTest l).installPending_counter l
  rw [State.placementTest_journal, (s.placementTest_placed l l).settles_iff] at installs stays
  exact ⟨installs, stays⟩

/-- Settles O17: the reservation at the end of the reception, then the placement test, then the installation. -/
theorem endOfReceptionRule : Obligations.EndOfReceptionRule := by
  intro l s u t
  have free : ((s.endReception l).lane l).rx = none := by rw [State.endReception_lane]
  have lane : (s.endReception l).lane l = { u with rx := none } := s.endReception_lane l
  obtain ⟨ripe, waiting⟩ := State.placementTest_spec free
  obtain ⟨-, given, plain, void⟩ := s.endReception_journal l
  have offers := (s.endReception l).afterReception_onlyOffers l
  obtain ⟨placed, others⟩ := (s.endReception l).afterReception_lane l
  have later : ((s.endReception l).placementTest l).PlacesOn t l := State.installPending_placesOn _ l
  have books := (s.endReception_booksKept l).trans ((s.endReception l).afterReception_booksKept l)
  have settles : ((s.endReception l).lane l).Settles ↔ u.compPending = true ∧ u.probe = .none := by
    rw [lane]
    exact ⟨fun h => ⟨h.1, h.2.2⟩, fun h => ⟨h.1, rfl, h.2⟩⟩
  rw [lane] at ripe waiting
  rw [State.endReception_lt] at ripe waiting
  refine ⟨?_, (offers.reservation l).trans given, fun r h set kept held number => ?_, fun p hp hr => ?_,
    fun p hp alone quiet unripe => ?_, fun written idle => ?_, fun unset => ?_, fun quiet none unset => ?_,
    fun k hk => ?_, books.book, books.bookUnit, ?_⟩
  · rw [placed.2, LaneUnit.settled_eq]
    exact free
  · exact offers.held _ (void r h set kept held number)
  · obtain ⟨gone, held, joined⟩ := ripe p hp hr
    refine ⟨fun still => ?_, later.held _ held, later.entries _ joined⟩
    obtain ⟨q, hq, same⟩ := later.triggers p still
    exact gone q hq same
  · have stays : t = (s.endReception l).placementTest l :=
      State.afterReception_of_not fun h => Bool.false_ne_true (quiet.symm.trans (settles.mp h).1)
    rw [stays]
    refine waiting p hp fun q hq hr same => ?_
    rw [alone q hq same.symm] at hr
    exact absurd hr (not_le.mpr unripe)
  · rw [placed.2, LaneUnit.settled_of_settles (settles.mpr ⟨written, idle⟩), lane]
    exact ⟨rfl, rfl, rfl, rfl⟩
  · have : ¬ ((s.endReception l).lane l).Settles := fun h => by
      obtain ⟨written, idle⟩ := settles.mp h
      exact unset.elim (fun quiet => Bool.false_ne_true (quiet.symm.trans written)) fun busy => busy idle
    rw [placed.2, LaneUnit.settled_of_not this, lane]
    exact ⟨rfl, rfl, rfl, rfl⟩
  · have stays : t = (s.endReception l).placementTest l :=
      State.afterReception_of_not fun h => Bool.false_ne_true (quiet.symm.trans (settles.mp h).1)
    rw [stays, State.placementTest_of_nil (by rw [lane]; exact none), plain unset]
  · exact (others k hk).trans (s.endReception_lane_of_ne hk)
  · exact ((s.endReception l).fixedPart_afterReception l).trans (s.fixedPart_endReception l)

end Sys2Proof.Machine
end

section
/-! PROOFS. The end of a probe: its return, its failure, its timeout (R62 to R67, R69). -/

namespace Sys2Proof.Machine

/-! ### Compensation and replies -/

/-- On a lane without reception and probe the written fields are installed, whichever were written (R69). -/
theorem LaneUnit.settled_of_free {u : LaneUnit} (rx : u.rx = none) (probe : u.probe = .none) : u.settled = { u with
    cLane := u.pendingC.getD u.cLane, uLane := u.pendingU.getD u.uLane, pendingC := none, pendingU := none } := by
  by_cases h : u.compPending = true
  · exact LaneUnit.settled_of_settles ⟨h, rx, probe⟩
  · obtain ⟨hc, hu⟩ := u.compPending_eq_false_iff.mp (Bool.not_eq_true _ ▸ h)
    rw [LaneUnit.settled_of_not fun settles => h settles.1, hc, hu]
    cases u
    simp_all

/-- The installation does not look at placed triggers, replies and the release expiry (R69). -/
theorem LaneUnit.Shifted.settled {u v : LaneUnit} (h : u.Shifted v) : u.settled.Shifted v.settled := by
  obtain ⟨added, hv⟩ := h
  have same : v.settled = { u.settled with
      hold := v.hold, pendingTriggers := v.pendingTriggers, replies := v.replies
      releaseExpiry := v.releaseExpiry } := by
    rw [hv]
    unfold LaneUnit.settled LaneUnit.compPending
    dsimp only
    split <;> rfl
  refine ⟨?_, by rw [same]⟩
  rw [same, u.settled_eq]
  exact added

/-- A field that placements, replies and the release expiry do not touch. -/
theorem LaneUnit.Shifted.field {α : Type} {u v : LaneUnit} (h : u.Shifted v) (f : LaneUnit → α)
    (untouched : ∀ (w : LaneUnit) (hold : List HoldEntry) (triggers : List PendingTrigger) (replies : List Reply)
      (expiry : Option Nat), f { w with
        hold := hold, pendingTriggers := triggers, replies := replies, releaseExpiry := expiry } = f w := by
      intros; rfl) : f v = f u :=
  (congrArg f h.2).trans (untouched ..)

theorem State.installPending_replies (s : State) (l k : LaneId) :
    ((s.installPending l).lane k).replies = (s.lane k).replies := by
  obtain ⟨placed, others⟩ := s.installPending_settles l
  by_cases hk : k = l
  · subst hk
    rw [placed.2, LaneUnit.settled_eq]
  · rw [others k hk]

theorem State.afterReception_replies (s : State) (l k : LaneId) :
    ((s.afterReception l).lane k).replies = (s.lane k).replies := by
  have placed := s.placementTest_placed l k
  rw [State.afterReception, State.installPending_replies, placed.2]

theorem State.endReception_replies (s : State) (l k : LaneId) :
    ((s.endReception l).lane k).replies = (s.lane k).replies := by
  by_cases hk : k = l
  · subst hk
    rw [State.endReception_lane]
  · rw [State.endReception_lane_of_ne _ hk]

theorem Reply.isDeferredOf_iff (r : Reply) (l : LaneId) (c : LaneCommand) :
    r.isDeferredOf l c = true ↔ r.body = .deferred l c := by
  unfold Reply.isDeferredOf
  split
  next h =>
    simp only [h, Bool.and_eq_true, beq_iff_eq, ReplyBody.deferred.injEq]
    exact and_congr eq_comm eq_comm
  next h => simp [h]

/-- A completed reply keeps its request id and its kind (R185). -/
theorem completeIn_eq (l : LaneId) (c : LaneCommand) (st : Status) (content : Bytes) (q : List Reply) :
    completeIn l c st content q =
      q.map fun r => if r.body = .deferred l c then ⟨r.id, r.kind, .completed st content⟩ else r := by
  refine List.map_congr_left fun r _ => ?_
  by_cases h : r.body = .deferred l c
  · rw [if_pos ((r.isDeferredOf_iff l c).mpr h), if_pos h]
  · rw [if_neg (mt (r.isDeferredOf_iff l c).mp h), if_neg h]

/-- Lanes that are the same but for replies. -/
theorem LaneUnit.withoutReplies_of_eq {u v : LaneUnit} (h : v = { u with replies := v.replies }) :
    v.withoutReplies = u.withoutReplies := by
  rw [h]
  rfl

/-! ### A probe that fails -/

theorem State.probeEnded_replies (s : State) (l k : LaneId) :
    ((s.probeEnded l).lane k).replies =
      completeIn l .probe .ok ((s.lane l).commandContent l .probe (some probeFailedCode) none) (s.lane k).replies := by
  unfold State.probeEnded
  dsimp only
  rw [State.lane_setLane]
  split
  next hk =>
    subst hk
    dsimp only
    rw [State.completeReply_lane]
    rfl
  next =>
    rw [State.completeReply_lane]
    rfl

/-- The deferred reply of a failed probe carries PROBE_FAILED and the values as they were (R67, R194, R205). -/
theorem State.probeFail_replies (s : State) (l k : LaneId) :
    ((s.probeFail l).lane k).replies =
      completeIn l .probe .ok ((s.lane l).commandContent l .probe (some probeFailedCode) none) (s.lane k).replies := by
  rw [State.probeFail_eq, State.installPending_replies, State.probeEnded_replies]

/-- Once a probe has failed its lane settles when a compensation waits and no frame is in reception (R67, R69). -/
theorem State.probeEnded_settles (s : State) (l : LaneId) :
    ((s.probeEnded l).lane l).Settles ↔ (s.lane l).compPending = true ∧ (s.lane l).rx = none := by
  obtain ⟨content, lane, -⟩ := s.probeEnded_lane l
  rw [lane]
  exact ⟨fun h => ⟨h.1, h.2.1⟩, fun h => ⟨h.1, h.2, rfl⟩⟩

/-- A failed probe gives its record, and that of a compensation it installs (R67, R69, R72). -/
theorem State.probeFail_counter (s : State) (l : LaneId) :
    ((s.lane l).compPending = true ∧ (s.lane l).rx = none →
      (s.probeFail l).journal.counter = s.journal.counter + 2) ∧
    (¬ ((s.lane l).compPending = true ∧ (s.lane l).rx = none) →
      (s.probeFail l).journal.counter = s.journal.counter + 1) := by
  have ended : (s.probeEnded l).journal.counter = s.journal.counter + 1 := by simp [State.probeEnded]
  obtain ⟨installs, stays⟩ := (s.probeEnded l).installPending_counter l
  rw [State.probeEnded_settles, ended] at installs stays
  exact ⟨installs, stays⟩

/-- Without a waiting compensation the lane is left as it was, but for the probe, the state and the reply (R67). -/
theorem State.probeFail_of_not {s : State} {l : LaneId} (h : (s.lane l).compPending = false) :
    s.probeFail l = s.probeEnded l := by
  refine State.installPending_of_not (mt (s.probeEnded_settles l).mp fun settles => ?_)
  exact Bool.false_ne_true (h.symm.trans settles.1)

/-! ### A probe that returns -/

/-- A lane whose probe has returned: the values of the round trip, and the state it came from (R65). -/
def LaneUnit.probed (u : LaneUnit) (roundTrip : Nat) : LaneUnit :=
  { u with
    cLane := probeC roundTrip, uLane := probeU roundTrip u.allowance, probe := .none, state := u.state.afterProbe }

/-- The lanes after the return of a probe: the values installed, triggers placed at most, and the deferred reply
completed wherever it stands (R65, R194). -/
theorem State.probeDone_lanes (s : State) (l : LaneId) (roundTrip : Nat) :
    let t := s.probeDone l roundTrip
    ((s.lane l).probed roundTrip).Shifted (t.lane l) ∧
    (∀ k, k ≠ l → t.lane k = { s.lane k with replies := (t.lane k).replies }) ∧
    ∀ k, (t.lane k).replies = completeIn l .probe .ok
      (((s.lane l).probed roundTrip).commandContent l .probe (some probeOkCode) (some roundTrip))
      (s.lane k).replies := by
  intro t
  obtain ⟨placed, others⟩ :=
    s.install_lane l (probeC roundTrip) (probeU roundTrip (s.lane l).allowance) (some roundTrip)
  obtain ⟨installed, hi⟩ : ∃ i, i = s.install l (probeC roundTrip) (probeU roundTrip (s.lane l).allowance)
      (some roundTrip) := ⟨_, rfl⟩
  have ht : t = (installed.setLane l
      { installed.lane l with probe := .none, state := (s.lane l).state.afterProbe }).completeReply l .probe .ok
        (((s.lane l).probed roundTrip).commandContent l .probe (some probeOkCode) (some roundTrip)) := by
    rw [hi]
    show State.completeReply _ _ _ _ (LaneUnit.commandContent _ _ _ _ _) = _
    rw [State.lane_setLane_same]
    dsimp only
    rw [placed.2]
    rfl
  rw [← hi] at placed others
  have same : ({ installed.lane l with probe := .none, state := (s.lane l).state.afterProbe } : LaneUnit) =
      { (s.lane l).probed roundTrip with
        hold := (installed.lane l).hold, pendingTriggers := (installed.lane l).pendingTriggers } := by
    rw [placed.2]
    rfl
  refine ⟨?_, fun k hk => ?_, fun k => ?_⟩
  · rw [ht, State.completeReply_lane, State.lane_setLane_same, same]
    exact ⟨placed.1, rfl⟩
  · rw [ht, State.completeReply_lane, State.lane_setLane_of_ne _ _ hk, others k hk]
  · rw [ht, State.completeReply_lane, State.lane_setLane]
    split
    next hk => rw [hk, same]; rfl
    next hk => rw [others k hk]

theorem State.probeDone_counter (s : State) (l : LaneId) (roundTrip : Nat) :
    (s.probeDone l roundTrip).journal.counter = s.journal.counter + 1 :=
  State.install_counter ..

theorem State.probeDone_booksKept (s : State) (l : LaneId) (roundTrip : Nat) :
    s.BooksKept (s.probeDone l roundTrip) :=
  State.BooksKept.trans (.after (State.placementTest_booksKept _ l)) (.of_same rfl rfl)

/-! ### The rows -/

/-- A frame answers the outstanding probe by its id (R64). -/
theorem LaneUnit.answeredProbe_cases {u : LaneUnit} {p : Bytes} :
    (∀ t1, u.probe = .outstanding t1 → 3 ≤ p.length → field p 1 2 = u.lastProbeId → u.answeredProbe p = some t1) ∧
    (u.probe = .none ∨ u.probe = .queued ∨ p.length < 3 ∨ field p 1 2 ≠ u.lastProbeId → u.answeredProbe p = none) := by
  unfold LaneUnit.answeredProbe
  refine ⟨fun t1 probe long id => ?_, fun stale => ?_⟩
  · rw [probe]
    exact if_pos ⟨long, id⟩
  · split
    next probe =>
      refine if_neg fun h => ?_
      rcases stale with none | queued | short | other
      · simp [none] at probe
      · simp [queued] at probe
      · omega
      · exact other h.2
    next => rfl
    next => rfl

/-- A probe frame that ends the reception: the outstanding probe returns, or the frame is stale (R64, R65). -/
theorem exec_probeReturn {s : State} {l : LaneId} {f : Bytes} {rx : Reception} (h : (s.lane l).rx = some rx)
    (recognised : recogniseA s.stamping.entryType f = .probe) :
    (∀ t1, (s.lane l).answeredProbe (payload f) = some t1 → exec (.probeReturn l f) s =
      .next (((s.endReception l).probeDone l (rx.captured - t1)).afterReception l)) ∧
    ((s.lane l).answeredProbe (payload f) = none → exec (.probeReturn l f) s =
      .next (((s.countLane l fun c =>
        { c with probeStale := bump32 c.probeStale }).endReception l).afterReception l)) := by
  show (∀ t1, _ → execProbeReturn l f s = _) ∧ (_ → execProbeReturn l f s = _)
  unfold execProbeReturn
  rw [h]
  dsimp only
  rw [if_pos recognised]
  exact ⟨fun t1 answered => by rw [answered], fun stale => by rw [stale]⟩

/-- The state after a returned probe whose frame is no longer in reception, and after what follows (R65, R69). -/
theorem State.probeReturned_spec {s : State} {l : LaneId} (free : (s.lane l).rx = none) (roundTrip : Nat) :
    let w := (s.lane l).probed roundTrip
    let t := (s.probeDone l roundTrip).afterReception l
    w.settled.Shifted (t.lane l) ∧
    (∀ k, k ≠ l → t.lane k = { s.lane k with replies := (t.lane k).replies }) ∧
    (∀ k, (t.lane k).replies = completeIn l .probe .ok
      (w.commandContent l .probe (some probeOkCode) (some roundTrip)) (s.lane k).replies) ∧
    ((s.lane l).compPending = true → t.journal.counter = s.journal.counter + 2) ∧
    ((s.lane l).compPending = false → t.journal.counter = s.journal.counter + 1) ∧
    s.BooksKept t ∧ t.fixedPart = s.fixedPart := by
  dsimp only
  obtain ⟨shifted, others, replies⟩ := s.probeDone_lanes l roundTrip
  obtain ⟨placed, others'⟩ := (s.probeDone l roundTrip).afterReception_lane l
  obtain ⟨installs, stays⟩ := (s.probeDone l roundTrip).afterReception_counter l
  rw [State.probeDone_counter] at installs stays
  have settles : ((s.probeDone l roundTrip).lane l).Settles ↔ (s.lane l).compPending = true := by
    unfold LaneUnit.Settles
    rw [shifted.field LaneUnit.compPending, shifted.field LaneUnit.rx, shifted.field LaneUnit.probe]
    exact ⟨fun h => h.1, fun h => ⟨h, free, rfl⟩⟩
  refine ⟨shifted.settled.trans (.of_placed placed), fun k hk => ?_, fun k => ?_, fun h => ?_,
    fun h => stays fun hs => Bool.false_ne_true (h.symm.trans (settles.mp hs)), ?_, ?_⟩
  · rw [others' k hk, others k hk]
  · rw [State.afterReception_replies, replies k]
  · rw [installs (settles.mpr h)]
  · exact (State.probeDone_booksKept s l _).trans (State.afterReception_booksKept _ l)
  · rw [State.fixedPart_afterReception, State.fixedPart_probeDone]

/-- The probe timeout is taken once LT has reached T1 + 10 ms (R62, R67). -/
theorem exec_probeTimeout {s : State} {l : LaneId} {t1 : Nat} (h : (s.lane l).probe = .outstanding t1) :
    (s.lt < t1 + 10000000 → exec (.probeTimeout l) s = .next s) ∧
    (t1 + 10000000 ≤ s.lt → exec (.probeTimeout l) s = .next (s.probeFail l)) := by
  show (_ → execProbeTimeout l s = _) ∧ (_ → execProbeTimeout l s = _)
  unfold execProbeTimeout
  rw [h]
  exact ⟨fun early => congrArg _ (if_neg (not_le.mpr early)), fun due => congrArg _ (if_pos due)⟩

theorem LaneState.afterProbe_eq (st : LaneState) :
    st.afterProbe = match st with
      | .probing .disabled => .disabled
      | .probing .active => .active
      | other => other := by
  unfold LaneState.afterProbe
  split <;> rfl

/-- What a failed probe leaves of its lane (R67, R69). -/
theorem State.probeFail_fields (s : State) (l : LaneId) :
    let u := s.lane l
    let v := (s.probeFail l).lane l
    v.probe = .none ∧ v.state = u.state.afterProbe ∧ v.rx = u.rx ∧
      (u.compPending = false → v.cLane = u.cLane ∧ v.uLane = u.uLane) := by
  intro u v
  obtain ⟨shifted, -, -⟩ := s.probeFail_lanes l
  obtain ⟨installs, stays⟩ := LaneUnit.installed_spec { u with probe := .none, state := u.state.afterProbe }
  rw [shifted.field LaneUnit.probe, shifted.field LaneUnit.state, shifted.field LaneUnit.rx,
    shifted.field LaneUnit.cLane, shifted.field LaneUnit.uLane]
  by_cases free : u.rx = none
  · rw [installs free]
    refine ⟨rfl, rfl, rfl, fun still => ?_⟩
    obtain ⟨hc, hu⟩ := u.compPending_eq_false_iff.mp still
    exact ⟨congrArg (Option.getD · _) hc, congrArg (Option.getD · _) hu⟩
  · rw [stays free]
    exact ⟨rfl, rfl, rfl, fun _ => ⟨rfl, rfl⟩⟩

/-- Settles O25: the return by the state it leaves, the stale frame, and the timeout by the failure of the probe. -/
theorem probeEndsByReturnOrTimeout : Obligations.ProbeEndsByReturnOrTimeout := by
  intro l f s rx t1 u p back quiet answered
  have state : u.state.afterProbe = back := LaneState.afterProbe_eq _
  have lane : (s.endReception l).lane l = { u with rx := none } := s.endReception_lane l
  have free : ((s.endReception l).lane l).rx = none := by rw [lane]
  obtain ⟨shifted, others, replies, two, one, books, fixed⟩ := State.probeReturned_spec free (rx.captured - t1)
  rw [(s.endReception_journal l).1, lane] at two one
  rw [lane] at replies
  rw [LaneUnit.settled_of_free (u := ((s.endReception l).lane l).probed _) free rfl, lane] at shifted
  have returns (received : u.rx = some rx) (recognised : recogniseA s.stamping.entryType f = .probe)
      (outstanding : u.probe = .outstanding t1) (long : 3 ≤ p.length) (id : field p 1 2 = u.lastProbeId) :
      exec (.probeReturn l f) s =
        .next (((s.endReception l).probeDone l (rx.captured - t1)).afterReception l) :=
    (exec_probeReturn received recognised).1 t1 (LaneUnit.answeredProbe_cases.1 t1 outstanding long id)
  have still_iff : quiet ↔ u.compPending = false := u.compPending_eq_false_iff.symm
  refine ⟨fun received recognised outstanding long id still => ?_,
    fun received recognised outstanding long id => ?_, fun received recognised stale => ?_,
    fun outstanding early => (exec_probeTimeout outstanding).1 early, fun outstanding due => ?_⟩
  · refine ⟨_, returns received recognised outstanding long id, (shifted.field LaneUnit.cLane).trans ?_,
      (shifted.field LaneUnit.uLane).trans ?_, shifted.field LaneUnit.probe, (shifted.field LaneUnit.state).trans state,
      shifted.field LaneUnit.rx, shifted.field LaneUnit.counts, shifted.field LaneUnit.credits, fun k hk => ?_,
      fun b => ?_, one (still_iff.mp still), fixed.trans (s.fixedPart_endReception l)⟩
    · exact congrArg (Option.getD · _) still.1
    · exact congrArg (Option.getD · _) still.2
    · exact (LaneUnit.withoutReplies_of_eq (others k hk)).trans (by rw [State.endReception_lane_of_ne _ hk])
    · exact (books.book b).trans (by rw [State.endReception_book])
  · intro roundTrip newC newU
    refine ⟨_, returns received recognised outstanding long id, shifted.field LaneUnit.cLane,
      shifted.field LaneUnit.uLane, shifted.field LaneUnit.pendingC, shifted.field LaneUnit.pendingU,
      shifted.field LaneUnit.probe, (shifted.field LaneUnit.state).trans state, shifted.field LaneUnit.rx, fun k => ?_,
      fun waits => two (Bool.eq_true_of_not_eq_false (mt still_iff.mpr waits))⟩
    rw [replies k, completeIn_eq, State.endReception_replies]
    rfl
  · exact (exec_probeReturn received recognised).2 (LaneUnit.answeredProbe_cases.2 stale)
  · obtain ⟨-, others, -⟩ := s.probeFail_lanes l
    obtain ⟨probe, returned, rx, values⟩ := s.probeFail_fields l
    refine ⟨_, (exec_probeTimeout outstanding).2 due, probe, returned.trans state, rx,
      fun still => values (still_iff.mp still), fun still => (s.probeFail_counter l).2 fun h => ?_, fun k r hr => ?_,
      fun k => (s.probeFail_replies l k).trans (completeIn_eq ..),
      fun k hk => LaneUnit.withoutReplies_of_eq (others k hk),
      (s.probeFail_booksKept l).book, s.fixedPart_probeFail l⟩
    · exact Bool.false_ne_true ((still_iff.mp still).symm.trans h.1)
    · rw [State.probeFail_replies] at hr
      exact completeIn_no_deferred _ _ _ _ _ r hr

end Sys2Proof.Machine
end

section
/-! PROOFS. The link events (R46, R47, R67, R72) and the datapath reset (R74, R147, R197). -/

namespace Sys2Proof.Machine

/-! ### A reception abandoned, a probe ended -/

/-- The frame in reception of a lane abandoned, if there is one (R46). -/
def LaneUnit.abandoned (u : LaneUnit) : LaneUnit :=
  match u.rx with
  | none => u
  | some _ => { u with rx := none, counts := { u.counts with aTruncated := bump32 u.counts.aTruncated } }.settled

/-- The queued or outstanding probe of a lane failed, if there is one (R67). -/
def LaneUnit.probeless (u : LaneUnit) : LaneUnit :=
  if u.probe = .none then u else { u with probe := .none, state := u.state.afterProbe }.installed

theorem State.abandonReception_of_none {s : State} {l : LaneId} (h : (s.lane l).rx = none) :
    s.abandonReception l = s := by
  unfold State.abandonReception
  rw [h]

theorem State.abandonReception_of_some {s : State} {l : LaneId} (h : (s.lane l).rx ≠ none) :
    s.abandonReception l =
      ((s.countLane l fun c => { c with aTruncated := bump32 c.aTruncated }).endReception l).afterReception l := by
  obtain ⟨rx, hrx⟩ := Option.ne_none_iff_exists'.mp h
  unfold State.abandonReception
  rw [hrx]

@[simp] theorem State.countLane_lane (s : State) (l : LaneId) (f : LaneCounts → LaneCounts) :
    (s.countLane l f).lane l = { s.lane l with counts := f (s.lane l).counts } := State.lane_setLane_same ..

@[simp] theorem State.countLane_lane_of_ne (s : State) {l k : LaneId} (h : k ≠ l) (f : LaneCounts → LaneCounts) :
    (s.countLane l f).lane k = s.lane k := State.lane_setLane_of_ne _ _ h

/-- An abandoned reception, as its lane and the other parts see it (R46). -/
theorem State.abandonReception_spec (s : State) (l : LaneId) :
    (s.lane l).abandoned.Placed ((s.abandonReception l).lane l) ∧
    (∀ k, k ≠ l → (s.abandonReception l).lane k = s.lane k) ∧
    s.journal.counter ≤ (s.abandonReception l).journal.counter ∧ s.BooksKept (s.abandonReception l) := by
  by_cases h : (s.lane l).rx = none
  · rw [State.abandonReception_of_none h, LaneUnit.abandoned, h]
    exact ⟨.refl _, fun _ _ => rfl, le_rfl, .refl s⟩
  · obtain ⟨rx, hrx⟩ := Option.ne_none_iff_exists'.mp h
    rw [State.abandonReception_of_some h, LaneUnit.abandoned, hrx]
    generalize hc : (s.countLane l fun c => { c with aTruncated := bump32 c.aTruncated }) = counted
    obtain ⟨placed, others⟩ := (counted.endReception l).afterReception_lane l
    have lane : (counted.endReception l).lane l =
        { s.lane l with rx := none, counts := { (s.lane l).counts with
          aTruncated := bump32 (s.lane l).counts.aTruncated } } := by
      rw [State.endReception_lane, ← hc, State.countLane_lane]
    have counter : counted.journal.counter = s.journal.counter := by rw [← hc]; rfl
    rw [lane] at placed
    refine ⟨placed, fun k hk => ?_, ?_, ?_⟩
    · rw [others k hk, State.endReception_lane_of_ne _ hk, ← hc, State.countLane_lane_of_ne _ hk]
    · rw [← counter, ← (counted.endReception_journal l).1]
      exact ((counted.endReception l).afterReception_onlyOffers l).counter
    · have books := (counted.endReception_booksKept l).trans ((counted.endReception l).afterReception_booksKept l)
      exact books.after (by rw [← hc]; rfl) (by rw [← hc]; rfl)

theorem State.failProbe_of_none {s : State} {l : LaneId} (h : (s.lane l).probe = .none) : s.failProbe l = s := by
  unfold State.failProbe
  rw [h]

theorem State.failProbe_of_some {s : State} {l : LaneId} (h : (s.lane l).probe ≠ .none) :
    s.failProbe l = s.probeFail l := by
  unfold State.failProbe
  split
  next none => exact absurd none h
  next => rfl
  next => rfl

/-- A probe ended by force, as its lane and the other parts see it (R67). -/
theorem State.failProbe_spec (s : State) (l : LaneId) :
    (s.lane l).probeless.Shifted ((s.failProbe l).lane l) ∧
    (∀ k, k ≠ l → (s.failProbe l).lane k = { s.lane k with replies := ((s.failProbe l).lane k).replies }) ∧
    s.journal.counter + (if (s.lane l).probe = .none then 0 else 1) ≤ (s.failProbe l).journal.counter ∧
    s.BooksKept (s.failProbe l) := by
  unfold LaneUnit.probeless
  by_cases h : (s.lane l).probe = .none
  · rw [State.failProbe_of_none h, if_pos h, if_pos h]
    exact ⟨.of_replies _ _, fun _ _ => rfl, le_rfl, .refl s⟩
  · rw [State.failProbe_of_some h, if_neg h, if_neg h]
    obtain ⟨shifted, others, -⟩ := s.probeFail_lanes l
    obtain ⟨two, one⟩ := s.probeFail_counter l
    refine ⟨shifted, others, ?_, s.probeFail_booksKept l⟩
    by_cases settles : (s.lane l).compPending = true ∧ (s.lane l).rx = none
    · rw [two settles]
      exact Nat.le_succ _
    · exact (one settles).ge

/-- The failure of a probe does not look at placed triggers (R67). -/
theorem LaneUnit.Placed.probeless {u v : LaneUnit} (h : u.Placed v) : u.probeless.Shifted v.probeless := by
  obtain ⟨added, hv⟩ := h
  have same : v.probeless = { u.probeless with hold := v.hold, pendingTriggers := v.pendingTriggers } := by
    rw [hv]
    unfold LaneUnit.probeless LaneUnit.installed
    dsimp only
    split
    · rfl
    · split <;> rfl
  have hold : u.probeless.hold = u.hold := by
    unfold LaneUnit.probeless LaneUnit.installed
    split
    · rfl
    · split <;> rfl
  refine ⟨?_, by rw [same]⟩
  rw [same, hold]
  exact added

/-- The reception and the probe of a lane both ended, as a lost A link and a datapath reset end them (R46, R74). -/
def State.cutOff (s : State) (l : LaneId) : State := (s.abandonReception l).failProbe l

/-- A lane without its frame in reception and its probe, and then without a waiting compensation (R46, R67, R69). -/
def LaneUnit.cutOff (u : LaneUnit) : LaneUnit := u.abandoned.probeless

/-- Where nothing is in reception nothing is abandoned. -/
theorem LaneUnit.abandoned_of_none {u : LaneUnit} (h : u.rx = none) : u.abandoned = u := by
  unfold LaneUnit.abandoned
  rw [h]

theorem LaneUnit.abandoned_of_some {u : LaneUnit} (h : u.rx ≠ none) : u.abandoned =
    { u with rx := none, counts := { u.counts with aTruncated := bump32 u.counts.aTruncated } }.settled := by
  obtain ⟨rx, hrx⟩ := Option.ne_none_iff_exists'.mp h
  unfold LaneUnit.abandoned
  rw [hrx]

/-- Of a lane whose reception is abandoned the reception, the count and the compensation change (R46, R69, R73). -/
theorem LaneUnit.abandoned_eq (u : LaneUnit) : u.abandoned = { u with
    rx := none
    counts := if u.rx.isSome then { u.counts with aTruncated := bump32 u.counts.aTruncated } else u.counts
    cLane := u.abandoned.cLane, uLane := u.abandoned.uLane
    pendingC := u.abandoned.pendingC, pendingU := u.abandoned.pendingU } := by
  by_cases h : u.rx = none
  · rw [LaneUnit.abandoned_of_none h]
    cases u
    simp_all
  · rw [LaneUnit.abandoned_of_some h, if_pos (Option.isSome_iff_ne_none.mpr h), LaneUnit.settled_eq]

/-- Of a lane whose probe is ended the probe, the state and the compensation change (R67, R69). -/
theorem LaneUnit.probeless_eq (u : LaneUnit) : u.probeless = { u with
    probe := .none, state := if u.probe = .none then u.state else u.state.afterProbe
    cLane := u.probeless.cLane, uLane := u.probeless.uLane
    pendingC := u.probeless.pendingC, pendingU := u.probeless.pendingU } := by
  unfold LaneUnit.probeless
  by_cases h : u.probe = .none
  · rw [if_pos h, if_pos h]
    cases u
    simp_all
  · rw [if_neg h, if_neg h]
    unfold LaneUnit.installed
    split <;> rfl

/-- A lane cut off, but for its compensation: the reception, the probe, the state a probe came from, and the count
(R46, R67, R73). -/
def LaneUnit.ended (u : LaneUnit) : LaneUnit :=
  { u with
    rx := none, probe := .none, state := if u.probe = .none then u.state else u.state.afterProbe
    counts := if u.rx.isSome then { u.counts with aTruncated := bump32 u.counts.aTruncated } else u.counts }

theorem LaneUnit.cutOff_eq (u : LaneUnit) : u.cutOff = { u.ended with
    cLane := u.cutOff.cLane, uLane := u.cutOff.uLane
    pendingC := u.cutOff.pendingC, pendingU := u.cutOff.pendingU } := by
  unfold LaneUnit.cutOff
  rw [LaneUnit.probeless_eq, LaneUnit.abandoned_eq]
  rfl

/-- A field that is not of the compensation (R69). -/
theorem LaneUnit.cutOff_field {α : Type} (u : LaneUnit) (f : LaneUnit → α)
    (untouched : ∀ (w : LaneUnit) (c v : Nat) (pc pu : Option Nat),
      f { w with cLane := c, uLane := v, pendingC := pc, pendingU := pu } = f w := by intros; rfl) :
    f u.cutOff = f u.ended :=
  (congrArg f u.cutOff_eq).trans (untouched ..)

theorem LaneUnit.settled_compPending {u : LaneUnit} (rx : u.rx = none) (probe : u.probe = .none) :
    u.settled.compPending = false := by
  rw [LaneUnit.settled_of_free rx probe]
  rfl

theorem LaneUnit.installed_compPending {u : LaneUnit} (rx : u.rx = none) : u.installed.compPending = false := by
  rw [u.installed_spec.1 rx]
  rfl

/-- The compensation that waited is installed where a reception or a probe was ended (R69). -/
theorem LaneUnit.cutOff_compPending {u : LaneUnit} (h : u.rx.isSome ∨ u.probe ≠ .none) :
    u.cutOff.compPending = false := by
  have probe : u.abandoned.probe = u.probe := by rw [u.abandoned_eq]
  have free : u.abandoned.rx = none := by rw [u.abandoned_eq]
  unfold LaneUnit.cutOff LaneUnit.probeless
  rw [probe]
  by_cases idle : u.probe = .none
  · have received := h.resolve_right (not_not.mpr idle)
    rw [if_pos idle, LaneUnit.abandoned_of_some (Option.isSome_iff_ne_none.mp received)]
    exact LaneUnit.settled_compPending rfl idle
  · rw [if_neg idle]
    exact LaneUnit.installed_compPending free

/-- A lane cut off, as it and the other parts see it (R46, R67, R74). -/
theorem State.cutOff_spec (s : State) (l : LaneId) :
    (s.lane l).cutOff.Shifted ((s.cutOff l).lane l) ∧
    (∀ k, k ≠ l → (s.cutOff l).lane k = { s.lane k with replies := ((s.cutOff l).lane k).replies }) ∧
    s.journal.counter + (if (s.lane l).probe = .none then 0 else 1) ≤ (s.cutOff l).journal.counter ∧
    s.BooksKept (s.cutOff l) ∧ (s.cutOff l).fixedPart = s.fixedPart := by
  unfold State.cutOff
  obtain ⟨placed, others, counter, books⟩ := s.abandonReception_spec l
  obtain ⟨shifted, others', counter', books'⟩ := (s.abandonReception l).failProbe_spec l
  have probe : ((s.abandonReception l).lane l).probe = (s.lane l).probe := by
    rw [placed.2, LaneUnit.abandoned_eq]
  rw [probe] at counter'
  refine ⟨placed.probeless.trans shifted, fun k hk => ?_, (Nat.add_le_add_right counter _).trans counter',
    books.trans books', by simp⟩
  rw [others' k hk, others k hk]

/-- Where neither a frame is in reception nor a probe is under way, nothing is cut off. -/
theorem State.cutOff_of_idle {s : State} {l : LaneId} (rx : (s.lane l).rx = none) (probe : (s.lane l).probe = .none) :
    s.cutOff l = s := by
  rw [State.cutOff, State.abandonReception_of_none rx, State.failProbe_of_none probe]

/-! ### Link events -/

theorem exec_aLinkLost (s : State) (l : LaneId) :
    ((s.lane l).aLink = .down → exec (.aLinkLost l) s = .next s) ∧
    ((s.lane l).aLink = .up → exec (.aLinkLost l) s =
      .next (((s.setLane l { s.lane l with aLink := .down, aTx := none }).cutOff l).offerLane l .aLinkLost)) := by
  show (_ → execALinkLost l s = _) ∧ (_ → execALinkLost l s = _)
  unfold execALinkLost
  split
  next down => exact ⟨fun _ => rfl, fun up => by simp [down] at up⟩
  next up => exact ⟨fun down => by simp [up] at down, fun _ => rfl⟩

theorem exec_aLinkReturned (s : State) (l : LaneId) :
    ((s.lane l).aLink = .up → exec (.aLinkReturned l) s = .next s) ∧
    ((s.lane l).aLink = .down → exec (.aLinkReturned l) s =
      .next ((s.setLane l { s.lane l with aLink := .up }).offerLane l .aLinkReturned)) := by
  show (_ → execALinkReturned l s = _) ∧ (_ → execALinkReturned l s = _)
  unfold execALinkReturned
  split
  next up => exact ⟨fun _ => rfl, fun down => by simp [up] at down⟩
  next down => exact ⟨fun up => by simp [down] at up, fun _ => rfl⟩

theorem exec_bLinkReturned (s : State) (l : LaneId) :
    ((s.lane l).bLink = .up → exec (.bLinkReturned l) s = .next s) ∧
    ((s.lane l).bLink = .down → exec (.bLinkReturned l) s =
      .next ((s.setLane l { s.lane l with bLink := .up }).offerLane l .bLinkReturned)) := by
  show (_ → execBLinkReturned l s = _) ∧ (_ → execBLinkReturned l s = _)
  unfold execBLinkReturned
  split
  next up => exact ⟨fun _ => rfl, fun down => by simp [up] at down⟩
  next down => exact ⟨fun up => by simp [down] at up, fun _ => rfl⟩

/-- A B link that is lost: the counts of the lane, then its credits, then the record (R47, R72). -/
theorem exec_bLinkLost (s : State) (l : LaneId) (cut : Bool) :
    ((s.lane l).bLink = .down → exec (.bLinkLost l cut) s = .next s) ∧
    ((s.lane l).bLink = .up → ∃ w, w = s.setLane l { s.lane l with
        bLink := .down, bTx := none
        counts := if cut then { (s.lane l).counts with bTruncated := bump32 (s.lane l).counts.bTruncated }
          else (s.lane l).counts } ∧
      exec (.bLinkLost l cut) s = .next ((w.dropCredits l).offerLane l .bLinkLost)) := by
  show (_ → execBLinkLost l cut s = _) ∧ (_ → ∃ w, _ ∧ execBLinkLost l cut s = _)
  unfold execBLinkLost
  split
  next down => exact ⟨fun _ => rfl, fun up => by simp [down] at up⟩
  next up =>
    refine ⟨fun down => by simp [up] at down, fun _ => ⟨_, ?_, rfl⟩⟩
    cases cut
    · rfl
    · simp only [State.countLane, State.lane_setLane_same, State.setLane_setLane_same]
      rfl

/-- The loss of the credits changes its lane and the evidence alone (R47, R133). -/
theorem State.dropCredits_frame (s : State) (l : LaneId) :
    (s.dropCredits l).books = s.books ∧ (s.dropCredits l).bookUnit = s.bookUnit ∧
      (s.dropCredits l).journal = s.journal ∧ ((s.lane l).credits = 0 → s.dropCredits l = s) := by
  unfold State.dropCredits
  split
  next => exact ⟨rfl, rfl, rfl, fun _ => rfl⟩
  next some => exact ⟨rfl, rfl, rfl, fun none => absurd none some⟩

/-- Settles O13: the returns and the losses in the present state, then the lost B link, then the lost A link. -/
theorem linkEventsByLinkState : Obligations.LinkEventsByLinkState := by
  intro l cut s u
  refine ⟨(exec_aLinkReturned s l).1, (exec_aLinkReturned s l).2, (exec_bLinkReturned s l).1,
    (exec_bLinkReturned s l).2, (exec_aLinkLost s l).1, (exec_bLinkLost s l cut).1, fun up => ?bLost,
    fun up free idle => ?_, fun up => ?aLost⟩
  case bLost =>
    obtain ⟨w, hw, taken⟩ := (exec_bLinkLost s l cut).2 up
    obtain ⟨marked, lane⟩ := w.dropCredits_lane l
    obtain ⟨books, bookUnit, journal, none⟩ := w.dropCredits_frame l
    have start : w.lane l = _ := hw ▸ State.lane_setLane_same s l _
    refine ⟨_, taken, lane.trans (by rw [start]; rfl), marked.trans (by rw [start]), fun h => ?_, fun k hk => ?_,
      books.trans (by rw [hw]; rfl), bookUnit.trans (by rw [hw]; rfl), ?_, ?_⟩
    · rw [State.lane_offerLane, none (by rw [start]; exact h), start]
    · rw [State.lane_offerLane, w.dropCredits_lane_other hk, hw, State.lane_setLane_of_ne _ _ hk]
    · rw [State.offerLane_counter, journal, hw]
      rfl
    · rw [State.fixedPart_offerLane, State.fixedPart_dropCredits, hw]
      rfl
  case aLost =>
    have taken := (exec_aLinkLost s l).2 up
    generalize hd : s.setLane l { s.lane l with aLink := .down, aTx := none } = down at taken
    have lane : down.lane l = { u with aLink := .down, aTx := none } := hd ▸ State.lane_setLane_same s l _
    have other {k : LaneId} (hk : k ≠ l) : down.lane k = s.lane k := hd ▸ State.lane_setLane_of_ne s _ hk
    have kept : s.BooksKept down := hd ▸ .of_same rfl rfl
    obtain ⟨shifted, others, counter, books, fixed⟩ := down.cutOff_spec l
    rw [lane] at shifted counter
    have journal : down.journal = s.journal := hd ▸ rfl
    have same : down.fixedPart = s.fixedPart := hd ▸ rfl
    refine ⟨_, taken, (shifted.field LaneUnit.aLink).trans (LaneUnit.cutOff_field _ LaneUnit.aLink),
      (shifted.field LaneUnit.aTx).trans (LaneUnit.cutOff_field _ LaneUnit.aTx),
      (shifted.field LaneUnit.rx).trans (LaneUnit.cutOff_field _ LaneUnit.rx),
      (shifted.field LaneUnit.probe).trans (LaneUnit.cutOff_field _ LaneUnit.probe),
      (shifted.field LaneUnit.counts).trans (LaneUnit.cutOff_field _ LaneUnit.counts), ?_,
      (shifted.field LaneUnit.bLink).trans (LaneUnit.cutOff_field _ LaneUnit.bLink),
      (shifted.field LaneUnit.credits).trans (LaneUnit.cutOff_field _ LaneUnit.credits),
      (shifted.field LaneUnit.notices).trans (LaneUnit.cutOff_field _ LaneUnit.notices),
      (shifted.field LaneUnit.reports).trans (LaneUnit.cutOff_field _ LaneUnit.reports),
      (shifted.field LaneUnit.requests).trans (LaneUnit.cutOff_field _ LaneUnit.requests),
      fun ended => (shifted.field LaneUnit.compPending).trans (LaneUnit.cutOff_compPending ended), fun k hk => ?_,
      (kept.trans books).book, (kept.trans books).bookUnit, ?_, fixed.trans same⟩
    · refine ((shifted.field LaneUnit.state).trans (LaneUnit.cutOff_field _ LaneUnit.state)).trans ?_
      exact congrArg (fun st => if u.probe = .none then u.state else st) (LaneState.afterProbe_eq u.state)
    · rw [State.lane_offerLane, LaneUnit.withoutReplies_of_eq (others k hk), other hk]
    · rw [State.offerLane_counter, ← journal]
      refine le_trans ?_ (Nat.succ_le_succ counter)
      split <;> exact le_rfl
  · have none : (s.setLane l { u with aLink := .down, aTx := none }).cutOff l =
        s.setLane l { u with aLink := .down, aTx := none } := by
      refine State.cutOff_of_idle ?_ ?_ <;> rw [State.lane_setLane_same]
      · exact free
      · exact idle
    have taken := (exec_aLinkLost s l).2 up
    rw [none] at taken
    exact taken

end Sys2Proof.Machine
end

section
/-! PROOFS. The datapath reset (R74, R147, R197). -/

namespace Sys2Proof.Machine

/-! ### One lane -/

/-- What the datapath reset of its lane makes of a lane: emptied but for its triggers, DISABLED, its settings, its links
and its ids kept (R74, R147). -/
def LaneUnit.Flushed (u v : LaneUnit) : Prop :=
  v.state = .disabled ∧ v.rx = none ∧ v.probe = .none ∧ v.notices = [] ∧ v.reports = [] ∧ v.credits = 0 ∧
    v.noticeShare = 0 ∧ (∀ e ∈ v.hold, e.isFrame = false) ∧
    (∀ e ∈ bodies u.hold, (∃ b i, e.1 = .trigger b i) → e ∈ bodies v.hold) ∧
    v.allowance = u.allowance ∧ v.permission = u.permission ∧ v.aLink = u.aLink ∧ v.bLink = u.bLink ∧
    v.lastProbeId = u.lastProbeId ∧ v.engineWait = u.engineWait

/-- A lane once the reset has emptied it: what the judgement of the waits may mark aside (R74, R130). -/
def LaneUnit.emptied (u : LaneUnit) : LaneUnit :=
  let hold := u.hold.filter fun e => !e.isFrame
  { u with
    hold := hold, releaseExpiry := expiryAfterDeparture u.releaseExpiry hold
    notices := [], reports := [], noticeShare := 0, credits := 0 }

/-- Frame entries are gone from an emptied list, whatever marks its entries carry (R74). -/
theorem LaneUnit.emptied_frames {u : LaneUnit} {hold : List HoldEntry} (h : bodies hold = bodies u.emptied.hold) :
    ∀ e ∈ hold, e.isFrame = false := by
  have none : frameCount u.emptied.hold = 0 :=
    List.countP_eq_zero.mpr fun e he => by simpa using (List.mem_filter.mp he).2
  rw [← frameCount_of_bodies h] at none
  exact fun e he => Bool.eq_false_of_not_eq_true (List.countP_eq_zero.mp none e he)

/-- Trigger entries stay in an emptied list (R74). -/
theorem LaneUnit.emptied_triggers {u : LaneUnit} {x : HoldBody × Nat} (hx : x ∈ bodies u.hold)
    (trigger : ∃ b i, x.1 = .trigger b i) : x ∈ bodies u.emptied.hold := by
  obtain ⟨e, he, rfl⟩ := List.mem_map.mp hx
  obtain ⟨b, i, body⟩ := trigger
  have kept : e.isFrame = false := by
    unfold HoldEntry.isFrame
    rw [show e.body = _ from body]
  exact List.mem_map.mpr ⟨e, List.mem_filter.mpr ⟨he, by rw [kept]; rfl⟩, rfl⟩

theorem State.endDrainByReset_lane (s : State) (l k : LaneId) :
    (s.endDrainByReset l).lane k = { s.lane k with replies := ((s.endDrainByReset l).lane k).replies } := by
  unfold State.endDrainByReset State.supersedeDrain
  split
  · rw [State.completeReply_lane]
  · rfl

/-- What the datapath reset of a lane does once its reception, its probe and its drain are ended: the list is emptied,
the credits are gone, the lane is DISABLED, and a record says so (steps 4 to 7 of R74). -/
def State.emptiedAndDisabled (s : State) (l : LaneId) : State :=
  let emptied := (s.emptyLane l).zeroCredits l
  (emptied.setLane l { emptied.lane l with state := .disabled }).offer
    (.lane { lane := l, event := .flushed, flushed := some (frameCount (s.lane l).hold) })

theorem State.emptiedAndDisabled_lane (s : State) (l : LaneId) :
    ∃ hold, bodies hold = bodies (s.lane l).emptied.hold ∧
      (s.emptiedAndDisabled l).lane l = { (s.lane l).emptied with hold := hold, state := .disabled } := by
  have lane : (s.emptyLane l).lane l = { (s.lane l).emptied with credits := (s.lane l).credits } :=
    State.lane_setLane_same ..
  obtain ⟨judged, same⟩ := (s.emptyLane l).judgeWaits_setLane l { (s.emptyLane l).lane l with credits := 0 }
  refine ⟨_, same.trans (by rw [lane]), ?_⟩
  refine (State.lane_setLane_same _ _ _).trans ?_
  rw [State.zeroCredits, judged, lane]
  rfl

theorem State.emptiedAndDisabled_lane_of_ne (s : State) {l k : LaneId} (hk : k ≠ l) :
    (s.emptiedAndDisabled l).lane k = s.lane k := by
  refine (State.lane_setLane_of_ne _ _ hk).trans ?_
  rw [State.zeroCredits, State.judgeWaits_lane_other _ hk, State.lane_setLane_of_ne _ _ hk]
  exact State.lane_setLane_of_ne _ _ hk

theorem State.emptiedAndDisabled_counter (s : State) (l : LaneId) :
    (s.emptiedAndDisabled l).journal.counter = s.journal.counter + 1 := by
  rw [State.emptiedAndDisabled, State.offer_counter]
  rfl

theorem State.emptiedAndDisabled_booksKept (s : State) (l : LaneId) : s.BooksKept (s.emptiedAndDisabled l) := by
  have emptied : s.BooksKept ((s.emptyLane l).zeroCredits l) :=
    .of_same (State.judgeWaits_books _ _) (State.judgeWaits_bookUnit _ _)
  have offered (t : State) (u : LaneUnit) (record : RecordBody) : t.BooksKept ((t.setLane l u).offer record) :=
    .of_same rfl rfl
  exact emptied.trans (offered _ _ _)

theorem State.endDrainByReset_journal (s : State) (l : LaneId) : (s.endDrainByReset l).journal = s.journal := by
  unfold State.endDrainByReset
  split <;> rfl

theorem State.endDrainByReset_booksKept (s : State) (l : LaneId) : s.BooksKept (s.endDrainByReset l) := by
  unfold State.endDrainByReset
  split <;> exact .of_same rfl rfl

theorem State.flushLane_eq (s : State) (l : LaneId) :
    s.flushLane l = ((s.cutOff l).endDrainByReset l).emptiedAndDisabled l := rfl

/-- A lane that is emptied after its reception and its probe were cut off is flushed (R74). -/
theorem LaneUnit.flushed_of_ended {u e : LaneUnit} (ended : u.cutOff.Shifted e) {hold : List HoldEntry}
    (same : bodies hold = bodies e.emptied.hold) : u.Flushed { e.emptied with hold := hold, state := .disabled } := by
  have kept {α : Type} (f : LaneUnit → α) (h : f e = f u.cutOff) (k : f u.cutOff = f u.ended) : f e = f u.ended :=
    h.trans k
  have before : u.cutOff.hold = u.hold := LaneUnit.cutOff_field _ LaneUnit.hold
  obtain ⟨added, joined, -⟩ := ended.1
  have stays : ∀ x ∈ bodies u.hold, (∃ b i, x.1 = .trigger b i) → x ∈ bodies hold := fun x hx trigger => by
    refine same ▸ LaneUnit.emptied_triggers ?_ trigger
    rw [joined, before]
    exact List.mem_append_left _ hx
  exact ⟨rfl, kept LaneUnit.rx (ended.field _) (LaneUnit.cutOff_field _ _),
    kept LaneUnit.probe (ended.field _) (LaneUnit.cutOff_field _ _), rfl, rfl, rfl, rfl,
    LaneUnit.emptied_frames same, stays,
    kept LaneUnit.allowance (ended.field _) (LaneUnit.cutOff_field _ _),
    kept LaneUnit.permission (ended.field _) (LaneUnit.cutOff_field _ _),
    kept LaneUnit.aLink (ended.field _) (LaneUnit.cutOff_field _ _),
    kept LaneUnit.bLink (ended.field _) (LaneUnit.cutOff_field _ _),
    kept LaneUnit.lastProbeId (ended.field _) (LaneUnit.cutOff_field _ _),
    kept LaneUnit.engineWait (ended.field _) (LaneUnit.cutOff_field _ _)⟩

/-- The datapath reset of one lane, as it and the other parts see it (R74). -/
theorem State.flushLane_spec (s : State) (l : LaneId) :
    (s.lane l).Flushed ((s.flushLane l).lane l) ∧
    (∀ k, k ≠ l → (s.flushLane l).lane k = { s.lane k with replies := ((s.flushLane l).lane k).replies }) ∧
    s.journal.counter + 1 ≤ (s.flushLane l).journal.counter ∧ s.BooksKept (s.flushLane l) := by
  obtain ⟨shifted, others, counter, books, -⟩ := s.cutOff_spec l
  have ended : (s.lane l).cutOff.Shifted (((s.cutOff l).endDrainByReset l).lane l) := by
    rw [(s.cutOff l).endDrainByReset_lane l l]
    exact shifted.trans (.of_replies _ _)
  obtain ⟨hold, same, lane⟩ := ((s.cutOff l).endDrainByReset l).emptiedAndDisabled_lane l
  rw [State.flushLane_eq]
  refine ⟨?_, fun k hk => ?_, ?_, ?_⟩
  · rw [lane]
    exact LaneUnit.flushed_of_ended ended same
  · rw [State.emptiedAndDisabled_lane_of_ne _ hk, (s.cutOff l).endDrainByReset_lane l k, others k hk]
  · rw [State.emptiedAndDisabled_counter, State.endDrainByReset_journal]
    omega
  · exact (books.trans ((s.cutOff l).endDrainByReset_booksKept l)).trans (State.emptiedAndDisabled_booksKept _ l)

/-! ### All lanes -/

theorem flushLanes_fst (ls : List LaneId) (s : State) : (flushLanes ls s).1 = ls.foldl State.flushLane s := by
  induction ls generalizing s with
  | nil => rfl
  | cons l ls ih => exact ih (s.flushLane l)

/-- The reset of a lane comes to the list of another lane as it was, so each count is of the list before the reset
(R197). -/
theorem flushLanes_snd (ls : List LaneId) (nodup : ls.Nodup) (s : State) :
    (flushLanes ls s).2 = ls.map fun l => frameCount (s.lane l).hold := by
  induction ls generalizing s with
  | nil => rfl
  | cons l ls ih =>
    obtain ⟨fresh, nodup⟩ := List.nodup_cons.mp nodup
    refine congrArg (frameCount (s.lane l).hold :: ·) ((ih nodup (s.flushLane l)).trans ?_)
    refine List.map_congr_left fun k hk => ?_
    rw [(s.flushLane_spec l).2.1 k fun same => fresh (same ▸ hk)]

theorem flushLanes_counter (ls : List LaneId) (s : State) :
    s.journal.counter + ls.length ≤ (ls.foldl State.flushLane s).journal.counter := by
  induction ls generalizing s with
  | nil => exact le_rfl
  | cons l ls ih =>
    obtain ⟨-, -, counter, -⟩ := s.flushLane_spec l
    have := ih (s.flushLane l)
    rw [List.foldl_cons, List.length_cons]
    omega

/-- Every lane has its turn of the reset (R74). -/
theorem flushLanes_flushed (s : State) (k : LaneId) :
    (s.lane k).Flushed ((allLanes.foldl State.flushLane s).lane k) := by
  refine foldl_turn (P := fun t => t.lane k = { s.lane k with replies := (t.lane k).replies })
    (Q := fun t => (s.lane k).Flushed (t.lane k)) (fun t l hl before => ?_) (fun t before => ?_)
    (fun t l hl flushed => ?_) allLanes (by decide) (mem_allLanes k) s rfl
  · obtain ⟨-, others, -, -⟩ := t.flushLane_spec l
    rw [others k hl.symm, before]
  · have flushed := (t.flushLane_spec k).1
    rw [before] at flushed
    exact flushed
  · obtain ⟨-, others, -, -⟩ := t.flushLane_spec l
    rw [others k hl.symm]
    exact flushed

/-- Settles O53: refused in an auction, and else the turns of the four lanes. -/
theorem datapathResetFlushesLanes : Obligations.DatapathResetFlushesLanes := by
  intro s l p h
  refine ⟨fun auction => exec_of_serves rfl h (if_pos (s.auctionActive_iff.mpr auction)), fun quiet => ?_⟩
  have inactive : ¬ (s.popRequest l).auctionActive = true := fun active => by
    obtain ⟨b, hb⟩ := s.auctionActive_iff.mp active
    exact quiet b hb
  have popped (k : LaneId) : ((s.popRequest l).lane k).hold = (s.lane k).hold := by
    rw [State.popRequest_lane]
    split <;> rfl
  have served : serveDatapathReset l p (s.popRequest l) = (allLanes.foldl State.flushLane (s.popRequest l),
      .completed .ok (uField 1 (frameCount (s.lane 0).hold) ++ uField 1 (frameCount (s.lane 1).hold)
        ++ uField 1 (frameCount (s.lane 2).hold) ++ uField 1 (frameCount (s.lane 3).hold))) := by
    refine (if_neg inactive).trans ?_
    rw [okWith, flushLanes_fst, flushLanes_snd _ (by decide)]
    simp [allLanes, popped]
  have books := State.BooksKept.foldl (fun t k => (t.flushLane_spec k).2.2.2) (s.popRequest l) allLanes
  have fixed : (allLanes.foldl State.flushLane (s.popRequest l)).fixedPart = (s.popRequest l).fixedPart :=
    foldl_preserves State.fixedPart _ State.fixedPart_flushLane _ _
  obtain ⟨timebase, monitorA, monitorB, discipline, uncertainty, clock, stamping, matches', classes, -, -⟩ :=
    State.fixedPart_ext fixed
  refine ⟨_, exec_of_serves rfl h served, fun k => ?_, books.book, books.bookUnit, timebase, discipline, uncertainty,
    monitorA, monitorB, stamping, clock, matches', classes, flushLanes_counter allLanes (s.popRequest l)⟩
  have flushed := flushLanes_flushed (s.popRequest l) k
  rw [State.popRequest_lane] at flushed
  split at flushed <;> exact flushed

end Sys2Proof.Machine
end

section
/-! PROOFS. The lane commands by the state of the lane they name (R43 to R45, R62, R67, R194). -/

namespace Sys2Proof.Machine

/-! ### The lane a command names -/

theorem laneOf_of_le {n : Nat} (h : 4 ≤ n) : laneOf n = none := dif_neg (Nat.not_lt.mpr h)

theorem laneOf_val (k : LaneId) : laneOf k.val = some k := dif_pos k.isLt

/-- What a taken request changes of the lanes is one request queue: a field but for it is as before (R184). -/
theorem State.popRequest_field {α : Type} (s : State) (l k : LaneId) (f : LaneUnit → α)
    (h : ∀ (u : LaneUnit) (q : List Bytes), f { u with requests := q } = f u := by intros; rfl) :
    f ((s.popRequest l).lane k) = f (s.lane k) := by
  rw [State.popRequest_lane]
  split
  · exact h _ _
  · rfl

/-- A lane command is refused for its lane number, then for its command code, and else taken by the lane (R194). -/
theorem exec_onCommandedLane {s : State} {row : Instr} {l : LaneId} {p : Bytes} {code : Nat}
    {serve : LaneId → Bytes → State → Answer} {take : LaneId → Answer} (h : s.Serves row l p)
    (hexec : exec row s = .next (s.takeRequest row serve))
    (hserve : serve l p (s.popRequest l) = onCommandedLane code p (s.popRequest l) take) (k : LaneId) :
    (4 ≤ field p 3 1 → exec row s = .next (s.refused l p .badIndex)) ∧
    (field p 3 1 = k.val → field p 4 1 ≠ code → exec row s = .next (s.refused l p .badValue)) ∧
    (field p 3 1 = k.val → field p 4 1 = code → ∀ {t : State} {body : ReplyBody}, take k = (t, body) →
      exec row s = .next (t.replied l p body)) := by
  have named (at' : field p 3 1 = k.val) : laneOf (field p 3 1) = some k := by rw [at', laneOf_val]
  refine ⟨fun above => ?_, fun at' other => ?_, fun at' same t body taken => ?_⟩
  · refine exec_of_serves hexec h (hserve.trans ?_)
    rw [onCommandedLane, laneOf_of_le above]
    rfl
  · refine exec_of_serves hexec h (hserve.trans ?_)
    rw [onCommandedLane, named at']
    exact if_pos other
  · refine exec_of_serves hexec h (hserve.trans ?_)
    rw [onCommandedLane, named at']
    exact (if_neg (not_not_intro same)).trans taken

/-! ### The answers -/

/-- The reply to a lane command shows the values installed (R205). -/
theorem State.laneAnswer_eq (t : State) (k : LaneId) (c : LaneCommand) {u : LaneUnit}
    (hc : (t.lane k).cLane = u.cLane) (hu : (t.lane k).uLane = u.uLane) :
    t.laneAnswer k c = (t, .completed .ok (uField 1 k.val ++ uField 1 c.code ++ fill 2 ++ fill 5
      ++ uField 2 u.cLane ++ uField 2 u.uLane)) := by
  rw [← hc, ← hu]
  rfl

theorem State.enterState_lane (s : State) (k : LaneId) (st : LaneState) (e : LaneEvent) :
    (s.enterState k st e).lane k = { s.lane k with state := st } := State.lane_setLane_same ..

/-- A lane that entered another state answers with the values it had (R43, R205). -/
theorem State.enterState_laneAnswer {s : State} {k : LaneId} {u : LaneUnit} (hc : (s.lane k).cLane = u.cLane)
    (hu : (s.lane k).uLane = u.uLane) (st : LaneState) (e : LaneEvent) (c : LaneCommand) :
    (s.enterState k st e).laneAnswer k c = (s.enterState k st e, .completed .ok (uField 1 k.val ++ uField 1 c.code
      ++ fill 2 ++ fill 5 ++ uField 2 u.cLane ++ uField 2 u.uLane)) := by
  refine State.laneAnswer_eq _ k c ?_ ?_ <;> rw [State.enterState_lane]
  · exact hc
  · exact hu

/-- So does one whose deferred DRAIN was superseded at the entry (R43). -/
theorem State.supersedeDrain_laneAnswer {s : State} {k : LaneId} {u : LaneUnit} (hc : (s.lane k).cLane = u.cLane)
    (hu : (s.lane k).uLane = u.uLane) (st : LaneState) (e : LaneEvent) (c : LaneCommand) :
    ((s.enterState k st e).supersedeDrain k).laneAnswer k c = ((s.enterState k st e).supersedeDrain k,
      .completed .ok (uField 1 k.val ++ uField 1 c.code ++ fill 2 ++ fill 5 ++ uField 2 u.cLane
        ++ uField 2 u.uLane)) := by
  refine State.laneAnswer_eq _ k c ?_ ?_ <;> rw [State.supersedeDrain, State.completeReply_lane, State.enterState_lane]
  · exact hc
  · exact hu

/-! ### The probe -/

theorem LaneUnit.installed_lastProbeId (u : LaneUnit) : u.installed.lastProbeId = u.lastProbeId := by
  obtain ⟨installs, stays⟩ := u.installed_spec
  by_cases free : u.rx = none
  · rw [installs free]
  · rw [stays free]

theorem State.enterProbing_lane (s : State) (k : LaneId) (ret : ReturnState) :
    (s.enterProbing k ret).lane k = { s.lane k with
      state := .probing ret, lastProbeId := ((s.lane k).lastProbeId + 1) % 65536, probe := .queued } :=
  State.lane_setLane_same ..

theorem State.enterProbing_lane_of_ne (s : State) {k m : LaneId} (hm : m ≠ k) (ret : ReturnState) :
    (s.enterProbing k ret).lane m = s.lane m := State.lane_setLane_of_ne _ _ hm

/-- A probe that fails at its command leaves the lane where it was, but for the id it used (R45, R67). -/
theorem State.probeFailsAtOnce (s : State) (k : LaneId) {ret : ReturnState} {id : Nat}
    (back : LaneState.afterProbe (.probing ret) = (s.lane k).state)
    (next : ((s.lane k).lastProbeId + 1) % 65536 = id) :
    let t := (s.enterProbing k ret).probeFail k
    (t.lane k).state = (s.lane k).state ∧ (t.lane k).probe = .none ∧ (t.lane k).lastProbeId = id ∧
    ((s.lane k).compPending = false →
      (t.lane k).withoutReplies = { (s.lane k).withoutReplies with lastProbeId := id, probe := .none } ∧
        t.journal.counter = s.journal.counter + 2) ∧
    (∀ m, m ≠ k → (t.lane m).withoutReplies = (s.lane m).withoutReplies) ∧ s.BooksKept t ∧
    t.fixedPart = s.fixedPart := by
  dsimp only
  have lane := s.enterProbing_lane k ret
  obtain ⟨probe, state, -, -⟩ := (s.enterProbing k ret).probeFail_fields k
  obtain ⟨shifted, others, -⟩ := (s.enterProbing k ret).probeFail_lanes k
  have counter : (s.enterProbing k ret).journal.counter = s.journal.counter + 1 := State.offerLane_counter ..
  refine ⟨state.trans ?_, probe, ?_, fun still => ⟨?_, ?_⟩, fun m hm => ?_, ?_, State.fixedPart_probeFail _ k⟩
  · rw [lane]
    exact back
  · rw [shifted.field LaneUnit.lastProbeId, LaneUnit.installed_lastProbeId, lane]
    exact next
  · obtain ⟨content, ended, -⟩ := (s.enterProbing k ret).probeEnded_lane k
    rw [State.probeFail_of_not (by rw [lane]; exact still), ended, lane, ← next]
    simp only [LaneUnit.withoutReplies, back]
  · rw [((s.enterProbing k ret).probeFail_counter k).2 fun pending => ?_, counter]
    rw [lane] at pending
    exact Bool.false_ne_true (still.symm.trans pending.1)
  · rw [LaneUnit.withoutReplies_of_eq (others m hm), State.enterProbing_lane_of_ne _ hm]
  · have entered : s.BooksKept (s.enterProbing k ret) := .of_same rfl rfl
    exact entered.trans (State.probeFail_booksKept _ k)

/-- A probe of a lane that no auction covers starts where the A link is UP, and fails where it is DOWN (R45). -/
theorem State.startProbing_of_quiet {s : State} {k : LaneId} (quiet : ¬ s.laneAuction k = true) (ret : ReturnState) :
    ((s.lane k).aLink = .up → s.startProbing k ret = (s.enterProbing k ret, .deferred k .probe)) ∧
    ((s.lane k).aLink = .down → s.startProbing k ret = okWith
      ((s.lane k).commandContent k .probe (some probeFailedCode) none) ((s.enterProbing k ret).probeFail k)) := by
  refine ⟨fun up => (if_neg quiet).trans ?_, fun down => (if_neg quiet).trans ?_⟩
  · rw [up]
  · rw [down]

/-! ### The obligation -/

/-- Settles O48: each command by the state of its lane, the probe with its failure at once. -/
theorem laneCommandsActByState : Obligations.LaneCommandsActByState := by
  refine ⟨?_, ?_⟩
  · intro s l k p row h hrow q u code refusedAs content answered entered
    have state : (q.lane k).state = u.state := s.popRequest_field l k LaneUnit.state
    have hold : (q.lane k).hold = u.hold := s.popRequest_field l k LaneUnit.hold
    have hc : (q.lane k).cLane = u.cLane := s.popRequest_field l k LaneUnit.cLane
    have hu : (q.lane k).uLane = u.uLane := s.popRequest_field l k LaneUnit.uLane
    rcases hrow with rfl | rfl | rfl
    · obtain ⟨index, value, taken⟩ := exec_onCommandedLane (serve := serveEnable) h rfl rfl k
      refine ⟨index, value, fun at' same => ?_⟩
      have by' {st : LaneState} (hst : u.state = st) := state.trans hst
      refine ⟨fun ⟨r, hr⟩ => taken at' same ?_, fun _ hst => taken at' same ?_, fun _ hst => taken at' same ?_,
        fun _ hst => taken at' same ?_, nofun, nofun, nofun, nofun, nofun, nofun, nofun⟩
      · rw [by' hr]; rfl
      · rw [by' hst]; exact State.enterState_laneAnswer hc hu ..
      · rw [by' hst]; exact q.laneAnswer_eq k _ hc hu
      · rw [by' hst]; exact State.supersedeDrain_laneAnswer hc hu ..
    · obtain ⟨index, value, taken⟩ := exec_onCommandedLane (serve := serveDrain) h rfl rfl k
      refine ⟨index, value, fun at' same => ?_⟩
      have by' {st : LaneState} (hst : u.state = st) := state.trans hst
      refine ⟨fun ⟨r, hr⟩ => taken at' same ?_, nofun, nofun, nofun, fun _ hst => taken at' same ?_,
        fun _ hst empty => taken at' same ?_, fun _ hst held => taken at' same ?_, fun _ hst => taken at' same ?_,
        nofun, nofun, nofun⟩
      · rw [by' hr]; rfl
      · rw [by' hst]; exact q.laneAnswer_eq k _ hc hu
      · rw [by' hst]; exact (if_pos (hold.trans empty)).trans (State.enterState_laneAnswer hc hu ..)
      · rw [by' hst]; exact if_neg (hold ▸ held)
      · rw [by' hst]; rfl
    · obtain ⟨index, value, taken⟩ := exec_onCommandedLane (serve := serveDisable) h rfl rfl k
      refine ⟨index, value, fun at' same => ?_⟩
      have by' {st : LaneState} (hst : u.state = st) := state.trans hst
      refine ⟨fun ⟨r, hr⟩ => taken at' same ?_, nofun, nofun, nofun, nofun, nofun, nofun, nofun,
        fun _ hst => taken at' same ?_, fun _ hst => taken at' same ?_, fun _ hst => taken at' same ?_⟩
      · rw [by' hr]; rfl
      · rw [by' hst]; exact q.laneAnswer_eq k _ hc hu
      · rw [by' hst]; exact State.enterState_laneAnswer hc hu ..
      · rw [by' hst]; exact State.supersedeDrain_laneAnswer hc hu ..
  · intro s l k p ret h q u refusedAs inAuction origin id
    obtain ⟨index, value, taken⟩ := exec_onCommandedLane (serve := serveProbe) h rfl rfl k
    refine ⟨index, value, fun at' same => ?_⟩
    have state : (q.lane k).state = u.state := s.popRequest_field l k LaneUnit.state
    have lastId : (q.lane k).lastProbeId = u.lastProbeId := s.popRequest_field l k LaneUnit.lastProbeId
    have link : (q.lane k).aLink = u.aLink := s.popRequest_field l k LaneUnit.aLink
    have pending : (q.lane k).compPending = u.compPending := s.popRequest_field l k LaneUnit.compPending
    have auction : q.laneAuction k = true ↔ inAuction := s.laneAuction_iff k
    have next (room : u.lastProbeId ≤ 65535) : ((q.lane k).lastProbeId + 1) % 65536 = id := by
      rw [lastId]
      simp only [id]
      split <;> omega
    have back (from' : origin) : LaneState.afterProbe (.probing ret) = u.state := by
      rcases from' with ⟨hst, rfl⟩ | ⟨hst, rfl⟩ <;> exact hst.symm
    have starts (from' : origin) {a : Answer} (ha : q.startProbing k ret = a) :
        exec .probe s = .next (a.1.replied l p a.2) := by
      refine taken at' same ?_
      rcases from' with ⟨hst, rfl⟩ | ⟨hst, rfl⟩ <;> rw [state.trans hst] <;> exact ha
    refine ⟨fun busy => taken at' same ?_, fun from' locked => starts from' (if_pos (auction.mpr locked)),
      fun from' quiet room up => ?_, fun from' quiet room down => ?_⟩
    · rcases busy with hst | ⟨r, hst⟩ <;> rw [state.trans hst] <;> rfl
    · refine (starts from' ((State.startProbing_of_quiet (mt auction.mp quiet) ret).1 (link.trans up))).trans ?_
      rw [← next room]
      rfl
    · obtain ⟨state', probe, id', idle, others, books, fixed⟩ :=
        q.probeFailsAtOnce k ((back from').trans state.symm) (next room)
      obtain ⟨timebase, -, -, discipline, -⟩ := State.fixedPart_ext fixed
      have failed := starts from' ((State.startProbing_of_quiet (mt auction.mp quiet) ret).2 (link.trans down))
      refine ⟨_, failed.trans ?_, state'.trans state, probe, id', fun noC noU => ?_, others, books.book, timebase,
        discipline⟩
      · rw [← s.popRequest_field l k LaneUnit.cLane, ← s.popRequest_field l k LaneUnit.uLane]
        rfl
      · exact idle (pending.trans (u.compPending_eq_false_iff.mpr ⟨noC, noU⟩))

end Sys2Proof.Machine
end

section
/-! PROOFS. The judgement and the effect of a LANE write (R68, R69, R191). -/

namespace Sys2Proof.Machine

/-! ### What a LANE write carries -/

theorem optRead_eq_none_iff (p : Bytes) (offset width : Nat) :
    optRead p offset width = none ↔ field p offset 1 ≠ 1 := by
  unfold optRead
  split <;> simpa

theorem optRead_eq_some {p : Bytes} {offset width v : Nat} (h : optRead p offset width = some v) :
    v = field p (offset + 1) width := by
  unfold optRead at h
  split at h
  · exact (Option.some.inj h).symm
  · cases h

/-- Case 2 of R191: a presence byte that is none, or no field present. -/
theorem laneWriteEmpty_iff (p : Bytes) :
    laneWriteEmpty p = true ↔
      (1 < field p 5 1 ∨ 1 < field p 8 1 ∨ 1 < field p 11 1 ∨ 1 < field p 13 1) ∨
      ((laneWriteOf p).c = none ∧ (laneWriteOf p).u = none ∧ (laneWriteOf p).allowance = none ∧
        (laneWriteOf p).permission = none) := by
  simp only [laneWriteOf, optRead_eq_none_iff, laneWriteEmpty, List.any_cons, List.any_nil, List.all_cons, List.all_nil,
    Bool.or_eq_true, Bool.and_eq_true, Bool.or_false, Bool.and_true, decide_eq_true_iff, beq_iff_eq]
  omega

theorem LaneWrite.calibrates_iff (w : LaneWrite) :
    w.calibrates = true ↔ ¬ (w.c = none ∧ w.u = none ∧ w.allowance = none) := by
  simp only [LaneWrite.calibrates, Bool.or_eq_true, Option.isSome_iff_ne_none]
  tauto

/-- A value of two bytes is a compensation in its range (R68). -/
theorem optRead_any_compMax (p : Bytes) (offset : Nat) :
    (optRead p offset 2).any (fun v => Config.compMax < v) = false := by
  cases h : optRead p offset 2 with
  | none => rfl
  | some v =>
    rw [optRead_eq_some h]
    exact decide_eq_false (Nat.not_lt.mpr (Nat.le_of_lt_succ (field_two_lt _ _)))

/-- Case 4 of R191: of the present fields only the allowance and the permission code can be outside their range. -/
theorem laneWriteOf_outOfRange_iff (p : Bytes) :
    (laneWriteOf p).outOfRange = true ↔
      (∃ v, (laneWriteOf p).allowance = some v ∧ 50 < v) ∨ ∃ v, (laneWriteOf p).permission = some v ∧ 1 < v := by
  have c : (laneWriteOf p).c.any (fun v => Config.compMax < v) = false := optRead_any_compMax p 5
  have u : (laneWriteOf p).u.any (fun v => Config.compMax < v) = false := optRead_any_compMax p 8
  rw [LaneWrite.outOfRange, c, u, Bool.false_or, Bool.false_or, Bool.or_eq_true, Option.any_eq_true, Option.any_eq_true]
  simp only [decide_eq_true_iff]
  exact Iff.rfl

/-- Case 5 of R191: no other lane has permission. -/
theorem State.otherPermission_eq_false_iff (s : State) (k : LaneId) :
    (!s.otherPermission k) = true ↔ ∀ m, m ≠ k → (s.lane m).permission = false := by
  simp only [State.otherPermission, Bool.not_eq_true', List.any_eq_false, Bool.and_eq_true, bne_iff_ne, not_and,
    Bool.not_eq_true]
  exact ⟨fun h m => h m (mem_allLanes m), fun h m _ => h m⟩

/-! ### The effect of an accepted write -/

/-- The permission a write leaves (R191). -/
theorem LaneUnit.written_permission (u : LaneUnit) (w : LaneWrite) :
    (u.written w).permission = if w.permission = none then u.permission else decide (w.permission = some 1) := by
  cases h : w.permission with
  | none => simp [LaneUnit.written, h]
  | some v => simp [LaneUnit.written, h, Bool.beq_eq_decide_eq]

/-- A written lane settles at once where nothing is in the way and a compensation is written or waits (R69). -/
theorem LaneUnit.written_settles_iff (u : LaneUnit) (w : LaneWrite) :
    (u.written w).Settles ↔ u.rx = none ∧ u.probe = .none ∧
      (w.c ≠ none ∨ w.u ≠ none ∨ u.pendingC ≠ none ∨ u.pendingU ≠ none) := by
  have waits : (u.written w).compPending = true ↔
      w.c ≠ none ∨ w.u ≠ none ∨ u.pendingC ≠ none ∨ u.pendingU ≠ none := by
    rw [← not_iff_not, Bool.not_eq_true, LaneUnit.compPending_eq_false_iff]
    simp only [LaneUnit.written, Option.or_eq_none_iff]
    tauto
  rw [LaneUnit.Settles, waits]
  exact ⟨fun ⟨pending, rx, probe⟩ => ⟨rx, probe, pending⟩, fun ⟨rx, probe, pending⟩ => ⟨pending, rx, probe⟩⟩

/-- The state after an accepted LANE write, with the record of the table and the installation (R69, R191). -/
def State.laneWritten (s : State) (k : LaneId) (w : LaneWrite) : State :=
  ((s.setLane k ((s.lane k).written w)).offerTable .lane k.val
    ((s.lane k).written w).settled.tableContent).installPending k

theorem State.laneWritten_spec (s : State) (k : LaneId) (w : LaneWrite) :
    let u := (s.lane k).written w
    u.settled.Placed ((s.laneWritten k w).lane k) ∧ (∀ m, m ≠ k → (s.laneWritten k w).lane m = s.lane m) ∧
    (u.Settles → (s.laneWritten k w).journal.counter = s.journal.counter + 2) ∧
    (¬ u.Settles → s.laneWritten k w = (s.setLane k u).offerTable .lane k.val u.settled.tableContent ∧
      (s.laneWritten k w).journal.counter = s.journal.counter + 1) ∧
    s.BooksKept (s.laneWritten k w) ∧ (s.laneWritten k w).fixedPart = s.fixedPart := by
  intro u
  unfold State.laneWritten
  have counter : ((s.setLane k u).offerTable .lane k.val u.settled.tableContent).journal.counter =
      s.journal.counter + 1 := State.offerTable_counter ..
  have lane : ((s.setLane k u).offerTable .lane k.val u.settled.tableContent).lane k = u := State.lane_setLane_same ..
  have others (m : LaneId) (hm : m ≠ k) :
      ((s.setLane k u).offerTable .lane k.val u.settled.tableContent).lane m = s.lane m :=
    State.lane_setLane_of_ne _ _ hm
  have kept : s.BooksKept ((s.setLane k u).offerTable .lane k.val u.settled.tableContent) := .of_same rfl rfl
  have fixed : ((s.setLane k u).offerTable .lane k.val u.settled.tableContent).fixedPart = s.fixedPart := rfl
  generalize (s.setLane k u).offerTable .lane k.val u.settled.tableContent = offered at *
  obtain ⟨placed, rest⟩ := offered.installPending_settles k
  obtain ⟨installs, stays⟩ := offered.installPending_counter k
  rw [lane] at placed installs stays
  refine ⟨placed, fun m hm => (rest m hm).trans (others m hm), fun now => by rw [installs now, counter],
    fun later => ⟨State.installPending_of_not (lane ▸ later), by rw [stays later, counter]⟩,
    kept.trans (offered.installPending_booksKept k), (offered.fixedPart_installPending k).trans fixed⟩

theorem LaneUnit.settled_allowance (u : LaneUnit) : u.settled.allowance = u.allowance := by
  unfold LaneUnit.settled
  split <;> rfl

theorem LaneUnit.settled_permission (u : LaneUnit) : u.settled.permission = u.permission := by
  unfold LaneUnit.settled
  split <;> rfl

/-- What a write leaves of its lane: its settings, and the compensation where it is installed at once (R69, R191). -/
theorem State.laneWritten_fields (s : State) (k : LaneId) (w : LaneWrite) :
    let u := (s.lane k).written w
    let v := (s.laneWritten k w).lane k
    v.allowance = u.allowance ∧ v.permission = u.permission ∧
    (u.Settles → v.cLane = u.pendingC.getD u.cLane ∧ v.uLane = u.pendingU.getD u.uLane ∧ v.pendingC = none ∧
      v.pendingU = none) := by
  intro u v
  have shifted := LaneUnit.Shifted.of_placed (s.laneWritten_spec k w).1
  refine ⟨(shifted.field LaneUnit.allowance).trans u.settled_allowance,
    (shifted.field LaneUnit.permission).trans u.settled_permission, fun now => ?_⟩
  have installed := LaneUnit.settled_of_settles now
  exact ⟨(shifted.field LaneUnit.cLane).trans (congrArg LaneUnit.cLane installed),
    (shifted.field LaneUnit.uLane).trans (congrArg LaneUnit.uLane installed),
    (shifted.field LaneUnit.pendingC).trans (congrArg LaneUnit.pendingC installed),
    (shifted.field LaneUnit.pendingU).trans (congrArg LaneUnit.pendingU installed)⟩

/-- The judgement of a LANE write of an existing lane, case by case (R191). -/
theorem serveLaneWrite_eq {l k : LaneId} {p : Bytes} {s : State} (at' : reqIndex p = k.val) :
    serveLaneWrite l p s =
      if laneWriteEmpty p then refuseWith .badValue s
      else if (laneWriteOf p).calibrates && s.laneAuction k then refuseWith .locked s
      else if (laneWriteOf p).outOfRange then refuseWith .badValue s
      else if (laneWriteOf p).permission = some 0 ∧ !s.otherPermission k then refuseWith .refusedState s
      else okWith (tableReply .lane k.val ((s.lane k).written (laneWriteOf p)).settled.tableContent)
        (s.laneWritten k (laneWriteOf p)) := by
  unfold serveLaneWrite
  rw [at', laneOf_val]
  rfl

/-! ### The obligation -/

/-- The taking of a request leaves the lanes as they were but for a request queue (R184). -/
theorem State.popRequest_lane_eq (s : State) (l k : LaneId) :
    (s.popRequest l).lane k = { s.lane k with requests := ((s.popRequest l).lane k).requests } := by
  rw [State.popRequest_lane]
  split <;> rfl

/-- A write after the taking of its request writes what it would have written before it. -/
theorem State.popRequest_written (s : State) (l k : LaneId) (w : LaneWrite) :
    ((s.popRequest l).lane k).written w =
      { (s.lane k).written w with requests := ((s.popRequest l).lane k).requests } :=
  congrArg (·.written w) (s.popRequest_lane_eq l k)

/-- The item of the LANE table does not show the requests. -/
theorem LaneUnit.settled_tableContent_requests (u : LaneUnit) (q : List Bytes) :
    ({ u with requests := q } : LaneUnit).settled.tableContent = u.settled.tableContent := by
  unfold LaneUnit.settled LaneUnit.compPending
  dsimp only
  split <;> rfl

/-- Settles O40: the cases of R191 in their order, then the effect of the accepted write. -/
theorem laneWriteJudgement : Obligations.LaneWriteJudgement := by
  intro s l k p h refusedAs read c u a perm illPresence empty inAuction locked outside lastOff
  refine ⟨fun above => ?_, fun at' => ?_⟩
  · refine exec_of_serves (serve := serveLaneWrite) rfl h ?_
    rw [serveLaneWrite, reqIndex, laneOf_of_le above]
    rfl
  have judged := serveLaneWrite_eq (l := l) (p := p) (s := s.popRequest l) at'
  have absent : laneWriteEmpty p = true ↔ illPresence ∨ empty := laneWriteEmpty_iff p
  have covered : ((laneWriteOf p).calibrates && (s.popRequest l).laneAuction k) = true ↔ locked := by
    rw [Bool.and_eq_true, LaneWrite.calibrates_iff, State.popRequest_laneAuction, State.laneAuction_iff]
    exact Iff.rfl
  have ranged : (laneWriteOf p).outOfRange = true ↔ outside := laneWriteOf_outOfRange_iff p
  have last : ((laneWriteOf p).permission = some 0 ∧ (!(s.popRequest l).otherPermission k) = true) ↔ lastOff := by
    rw [State.otherPermission_eq_false_iff]
    simp only [s.popRequest_field l _ LaneUnit.permission]
    exact Iff.rfl
  have present (h1 : ¬ illPresence) (h2 : ¬ empty) : ¬ laneWriteEmpty p = true := fun h => (absent.mp h).elim h1 h2
  refine ⟨fun h0 => exec_of_serves rfl h (judged.trans (if_pos (absent.mpr h0))), fun h1 h2 h3 => ?_,
    fun h1 h2 h3 h4 => ?_, fun h1 h2 h3 h4 h5 => ?_, fun h1 h2 h3 h4 h5 => ?_⟩
  · rw [if_neg (present h1 h2), if_pos (covered.mpr h3)] at judged
    exact exec_of_serves rfl h judged
  · rw [if_neg (present h1 h2), if_neg (mt covered.mp h3), if_pos (ranged.mpr h4)] at judged
    exact exec_of_serves rfl h judged
  · rw [if_neg (present h1 h2), if_neg (mt covered.mp h3), if_neg (mt ranged.mp h4), if_pos (last.mpr h5)] at judged
    exact exec_of_serves rfl h judged
  · rw [if_neg (present h1 h2), if_neg (mt covered.mp h3), if_neg (mt ranged.mp h4), if_neg (mt last.mp h5)] at judged
    intro before now written
    have same : written = before.written (laneWriteOf p) :=
      congrArg (fun b => { before.written (laneWriteOf p) with permission := b })
        (before.written_permission (laneWriteOf p)).symm
    have taken := s.popRequest_written l k (laneWriteOf p)
    obtain ⟨-, others, two, one, books, fixed⟩ := (s.popRequest l).laneWritten_spec k (laneWriteOf p)
    obtain ⟨allowance, permission, installed⟩ := (s.popRequest l).laneWritten_fields k (laneWriteOf p)
    obtain ⟨timebase, -, -, discipline, -, -, stamping, -⟩ := State.fixedPart_ext fixed
    have alone : (before.written (laneWriteOf p)).Settles ↔ now := before.written_settles_iff _
    have settles : (((s.popRequest l).lane k).written (laneWriteOf p)).Settles ↔ now := by
      rw [taken]
      exact alone
    have shows : (((s.popRequest l).lane k).written (laneWriteOf p)).settled.tableContent =
        (before.written (laneWriteOf p)).settled.tableContent := by
      rw [taken, LaneUnit.settled_tableContent_requests]
    clear_value written
    subst same
    refine ⟨_, _, exec_of_serves rfl h judged, allowance.trans ?_, permission.trans ?_, fun hnow => ?_,
      fun later => ?_, fun m hk hl => (others m hk).trans ?_, timebase, discipline, stamping, books.book⟩
    · rw [taken]
    · rw [taken]
    · obtain ⟨cLane, uLane, pendingC, pendingU⟩ := installed (settles.mpr hnow)
      refine ⟨cLane.trans ?_, uLane.trans ?_, pendingC, pendingU, two (settles.mpr hnow), shows.trans ?_⟩
      · rw [taken]
        rfl
      · rw [taken]
        rfl
      · rw [LaneUnit.settled_of_settles (alone.mpr hnow)]
        rfl
    · obtain ⟨written, counter⟩ := one (mt settles.mp later)
      refine ⟨?_, shows.trans ?_, counter⟩
      · have unit : ((s.popRequest l).lane k).written (laneWriteOf p) = { (s.popRequest l).lane k with
            allowance := (before.written (laneWriteOf p)).allowance
            permission := (before.written (laneWriteOf p)).permission
            pendingC := (before.written (laneWriteOf p)).pendingC
            pendingU := (before.written (laneWriteOf p)).pendingU } := by
          rw [taken, s.popRequest_lane_eq l k]
          rfl
        rw [written, unit]
        rfl
      · rw [LaneUnit.settled_of_not (mt alone.mp later)]
    · rw [State.popRequest_lane, if_neg hl]

end Sys2Proof.Machine
end

section
/-! PROOFS. What a free B egress sends, and what leaves with it (R130, R133, R135 to R138, R144, R145). -/

namespace Sys2Proof.Machine

/-! ### The candidates -/

/-- A completed reply stands at the head of the reply queue (R185). -/
theorem LaneUnit.replyCandidate_isSome_iff (u : LaneUnit) :
    u.replyCandidate.isSome = true ↔ ∃ r w, u.replies = r :: w ∧ ∃ x y, r.body = .completed x y := by
  unfold LaneUnit.replyCandidate
  split
  · next empty => simp [empty]
  · next r w queue =>
    split
    · next x y body => exact ⟨fun _ => ⟨r, w, queue, x, y, body⟩, fun _ => rfl⟩
    · next k c body =>
      refine ⟨nofun, fun ⟨r', w', queue', x, y, completed⟩ => ?_⟩
      obtain ⟨rfl, -⟩ := List.cons.inj (queue.symm.trans queue')
      cases body.symm.trans completed

theorem LaneUnit.replyCandidate_of_completed {u : LaneUnit} {id kind : Nat} {st : Status} {content : Bytes}
    {rest : List Reply} (h : u.replies = ⟨id, kind, .completed st content⟩ :: rest) :
    u.replyCandidate = some (id, kind, st, content) := by
  unfold LaneUnit.replyCandidate
  rw [h]

theorem State.exportCandidate_iff (s : State) (l : LaneId) :
    s.exportCandidate l = true ↔ s.journal.exportLane = l ∧ s.journal.exportReady = true := by
  rw [State.exportCandidate, Bool.and_eq_true, beq_iff_eq]

theorem State.othersPresent_iff (s : State) (l : LaneId) :
    s.othersPresent l = true ↔ (∃ r w, (s.lane l).replies = r :: w ∧ ∃ x y, r.body = .completed x y) ∨
      (s.journal.exportLane = l ∧ s.journal.exportReady = true) := by
  rw [State.othersPresent, Bool.or_eq_true, LaneUnit.replyCandidate_isSome_iff, State.exportCandidate_iff]

/-! ### The choice -/

/-- What a free B egress does with each choice (R144). -/
def State.sendEngineChoice (s : State) (l : LaneId) : EngineChoice → State
  | .nothing => s.setLane l { s.lane l with bTx := none }
  | .release earlier e later => s.releaseEntry l earlier e later
  | .reply bytes => s.sendReply l bytes
  | .exportFrame => s.sendExport l

/-- A free B egress whose link is UP sends what its arbiter chooses (R144). -/
theorem exec_engineEgressChoice {s : State} {l : LaneId} {c : EngineChoice} (up : (s.lane l).bLink = .up)
    (h : s.engineChoice l = c) : exec (.engineEgressChoice l) s = .next (s.sendEngineChoice l c) := by
  show execEngineEgressChoice l s = _
  unfold execEngineEgressChoice
  rw [up, h]
  cases c <;> rfl

/-- A release is chosen unless eight have gone ahead of another that waits (R144, R145). -/
theorem State.engineChoice_of_release {s : State} {l : LaneId} {before behind : List HoldEntry} {e : HoldEntry}
    (h : s.releaseCandidate l = some (before, e, behind))
    (ahead : ¬ ((s.lane l).engineWait = 8 ∧ s.othersPresent l = true)) :
    s.engineChoice l = .release before e behind := by
  unfold State.engineChoice
  rw [h]
  exact if_neg ahead

theorem State.engineChoice_of_yield {s : State} {l : LaneId}
    (h : s.releaseCandidate l = none ∨ ((s.lane l).engineWait = 8 ∧ s.othersPresent l = true)) :
    s.engineChoice l = s.secondChoice l := by
  unfold State.engineChoice
  split
  · rfl
  · next candidate =>
    exact if_pos (h.resolve_left fun none => by cases candidate.symm.trans none)

/-- Without a completed reply the frame of records goes, if it is ready (R144). -/
theorem State.secondChoice_of_no_reply {s : State} {l : LaneId} (h : ¬ (s.lane l).replyCandidate.isSome = true) :
    s.secondChoice l = if s.exportCandidate l then .exportFrame else .nothing := by
  unfold State.secondChoice
  rw [Option.not_isSome_iff_eq_none.mp h]

theorem State.secondChoice_of_reply {s : State} {l : LaneId} {id kind : Nat} {st : Status} {content : Bytes}
    {rest : List Reply} (h : (s.lane l).replies = ⟨id, kind, .completed st content⟩ :: rest) :
    s.secondChoice l = .reply (Reply.bytes id kind st content) := by
  unfold State.secondChoice
  rw [LaneUnit.replyCandidate_of_completed h]

/-! ### What a release leaves -/

/-- The release expiry moves to the earliest release time that is left at or after it (R130). -/
theorem expiryAfterDeparture_spec (expiry : Option Nat) (hold : List HoldEntry) :
    (expiry = none → expiryAfterDeparture expiry hold = none) ∧
    ∀ y, expiry = some y →
      (∀ z, expiryAfterDeparture expiry hold = some z → y ≤ z ∧ (∃ f ∈ hold, f.release = z) ∧
        ∀ f ∈ hold, y ≤ f.release → z ≤ f.release) ∧
      (expiryAfterDeparture expiry hold = none → ∀ f ∈ hold, f.release < y) := by
  refine ⟨fun unset => by rw [unset]; rfl, fun y set => ?_⟩
  subst set
  exact earliestFrom_spec y hold

/-- A release counts against the others that wait, up to eight (R145). -/
theorem State.waitAfterRelease_spec (s : State) (l : LaneId) :
    (s.othersPresent l = true → s.waitAfterRelease l = min ((s.lane l).engineWait + 1) 8) ∧
    (¬ s.othersPresent l = true → s.waitAfterRelease l = (s.lane l).engineWait) :=
  ⟨fun h => if_pos h, fun h => if_neg h⟩

/-- A lane that an entry has left, before its drain may end (R137, R138). -/
structure State.Left (s w : State) (l : LaneId) (hold : List HoldEntry) (credits : Nat) (sent : Sending) : Prop where
  lane : w.lane l = { s.lane l with
    hold := (w.lane l).hold, releaseExpiry := expiryAfterDeparture (s.lane l).releaseExpiry hold
    engineWait := s.waitAfterRelease l, credits := credits, bTx := some sent }
  same : bodies (w.lane l).hold = bodies hold
  others : ∀ k, k ≠ l → w.lane k = s.lane k
  books : s.BooksKept w
  fixed : w.fixedPart = s.fixedPart

/-- The judgement of the waits after a departure marks entries at most (R133). -/
theorem State.judgeWaits_left {s d : State} {l : LaneId} {hold : List HoldEntry} {credits : Nat} {sent : Sending}
    (lane : d.lane l = { s.lane l with
      hold := hold, releaseExpiry := expiryAfterDeparture (s.lane l).releaseExpiry hold
      engineWait := s.waitAfterRelease l, credits := credits, bTx := some sent })
    (others : ∀ k, k ≠ l → d.lane k = s.lane k) (books : s.BooksKept d) (fixed : d.fixedPart = s.fixedPart) :
    s.Left (d.judgeWaits l) l hold credits sent := by
  obtain ⟨judged, same⟩ := d.judgeWaits_lane l
  refine ⟨?_, same.trans (by rw [lane]), fun k hk => (State.judgeWaits_lane_other _ hk).trans (others k hk),
    books.trans (.of_same rfl rfl), fixed⟩
  rw [judged, lane]

theorem State.releaseFrame_left (s : State) (l : LaneId) (before behind : List HoldEntry) (f : HeldFrame) :
    s.Left (s.releaseFrame l before f behind) l (before ++ behind) ((s.lane l).credits - 1)
      ⟨f.frame, some f.slot⟩ :=
  State.judgeWaits_left (State.lane_setLane_same ..) (fun _ hk => State.lane_setLane_of_ne _ _ hk) (.of_same rfl rfl)
    rfl

theorem State.releaseTrigger_left (s : State) (l : LaneId) (before behind : List HoldEntry) (b : BookId) (i : Nat) :
    s.Left (s.releaseTrigger l before b i behind) l (before ++ behind) (s.lane l).credits
      ⟨ownFrame (bPort l) (triggerPayload b i l), none⟩ := by
  have kept (d : State) (record : RecordBody) (hb : d.books = s.books) (hu : d.bookUnit = s.bookUnit) :
      s.BooksKept ((d.setBook b ((s.book b).setTrigger l .released)).offer record) := by
    refine ⟨fun c => ?_, hu⟩
    have book (m : BookId) : d.book m = s.book m := by simp [State.book, hb]
    refine (congrArg Book.withoutTriggers (State.book_setBook d b c _)).trans ?_
    split
    · next same =>
      rw [same]
      exact Book.withoutTriggers_setTrigger ..
    · rw [book]
  exact State.judgeWaits_left (State.lane_setLane_same ..) (fun _ hk => State.lane_setLane_of_ne _ _ hk)
    (kept _ _ rfl rfl) rfl

/-! ### The end of a drain -/

/-- The lane DISABLED at the end of its drain, the record of it, and the deferred reply completed (R44). -/
def State.drainEnded (s : State) (l : LaneId) : State :=
  ((s.setLane l { s.lane l with state := .disabled }).offer (.lane { lane := l, event := .disabled })).completeReply l
    .drain .ok (uField 1 l.val ++ uField 1 2 ++ fill 2 ++ fill 5 ++ uField 2 (s.lane l).cLane
      ++ uField 2 (s.lane l).uLane)

theorem State.endDrain_of_drained {s : State} {l : LaneId} (h : (s.lane l).state = .draining ∧ (s.lane l).hold = []) :
    s.endDrain l = s.drainEnded l := if_pos h

theorem State.endDrain_of_not {s : State} {l : LaneId} (h : ¬ ((s.lane l).state = .draining ∧ (s.lane l).hold = [])) :
    s.endDrain l = s := if_neg h

theorem State.drainEnded_lane (s : State) (l : LaneId) : (s.drainEnded l).lane l = { s.lane l with
    state := .disabled, replies := ((s.drainEnded l).lane l).replies } := by
  have entered (record : RecordBody) : ((s.setLane l { s.lane l with state := .disabled }).offer record).lane l =
      { s.lane l with state := .disabled } := State.lane_setLane_same ..
  rw [State.drainEnded, State.completeReply_lane, entered]

theorem State.drainEnded_lane_of_ne (s : State) {l k : LaneId} (hk : k ≠ l) :
    (s.drainEnded l).lane k = { s.lane k with replies := ((s.drainEnded l).lane k).replies } := by
  have entered (record : RecordBody) : ((s.setLane l { s.lane l with state := .disabled }).offer record).lane k =
      s.lane k := State.lane_setLane_of_ne _ _ hk
  rw [State.drainEnded, State.completeReply_lane, entered]

theorem State.endDrain_lane (s : State) (l : LaneId) : (s.endDrain l).lane l = { s.lane l with
    state := if (s.lane l).state = .draining ∧ (s.lane l).hold = [] then .disabled else (s.lane l).state
    replies := ((s.endDrain l).lane l).replies } := by
  by_cases h : (s.lane l).state = .draining ∧ (s.lane l).hold = []
  · rw [if_pos h, State.endDrain_of_drained h]
    exact s.drainEnded_lane l
  · rw [if_neg h, State.endDrain_of_not h]

theorem State.endDrain_lane_of_ne (s : State) {l k : LaneId} (hk : k ≠ l) :
    (s.endDrain l).lane k = { s.lane k with replies := ((s.endDrain l).lane k).replies } := by
  by_cases h : (s.lane l).state = .draining ∧ (s.lane l).hold = []
  · rw [State.endDrain_of_drained h]
    exact s.drainEnded_lane_of_ne hk
  · rw [State.endDrain_of_not h]

theorem State.endDrain_books (s : State) (l : LaneId) :
    (s.endDrain l).books = s.books ∧ (s.endDrain l).bookUnit = s.bookUnit := by
  unfold State.endDrain
  split <;> exact ⟨rfl, rfl⟩

/-- A field that a departure does not touch. -/
theorem State.Left.kept {α : Type} {s w : State} {l : LaneId} {hold : List HoldEntry} {credits : Nat} {sent : Sending}
    (h : s.Left w l hold credits sent) (f : LaneUnit → α)
    (untouched : ∀ (u : LaneUnit) (hold : List HoldEntry) (x : Option Nat) (n c : Nat) (tx : Option Sending),
      f { u with hold := hold, releaseExpiry := x, engineWait := n, credits := c, bTx := tx } = f u := by
      intros; rfl) : f (w.lane l) = f (s.lane l) :=
  (congrArg f h.lane).trans (untouched ..)

/-- A field that neither a departure nor the end of a drain touches. -/
theorem State.Left.field {α : Type} {s w : State} {l : LaneId} {hold : List HoldEntry} {credits : Nat} {sent : Sending}
    (h : s.Left w l hold credits sent) (f : LaneUnit → α)
    (untouched : ∀ (u : LaneUnit) (hold : List HoldEntry) (x : Option Nat) (n c : Nat) (tx : Option Sending)
      (st : LaneState) (q : List Reply), f { u with
        hold := hold, releaseExpiry := x, engineWait := n, credits := c, bTx := tx, state := st
        replies := q } = f u := by
      intros; rfl) : f ((w.endDrain l).lane l) = f (s.lane l) := by
  have drained : f ((w.endDrain l).lane l) = f (w.lane l) :=
    (congrArg f (w.endDrain_lane l)).trans (untouched (w.lane l) _ _ _ _ _ _ _)
  exact drained.trans (h.kept f fun u hold x n c tx => untouched u hold x n c tx u.state u.replies)

/-- The drain ends with the departure exactly where nothing is left of the list (R44). -/
theorem State.Left.drained_iff {s w : State} {l : LaneId} {hold : List HoldEntry} {credits : Nat} {sent : Sending}
    (h : s.Left w l hold credits sent) :
    (w.lane l).state = .draining ∧ (w.lane l).hold = [] ↔ (s.lane l).state = .draining ∧ hold = [] := by
  have state : (w.lane l).state = (s.lane l).state := h.kept LaneUnit.state
  have empty : (w.lane l).hold = [] ↔ hold = [] := by
    rw [← List.map_eq_nil_iff (l := (w.lane l).hold) (f := fun e => (e.body, e.release)), ← bodies, h.same, bodies,
      List.map_eq_nil_iff]
  rw [state, empty]

/-- What a departure is followed by (R44). -/
theorem State.Left.endDrain_eq {s w : State} {l : LaneId} {hold : List HoldEntry} {credits : Nat} {sent : Sending}
    (h : s.Left w l hold credits sent) :
    w.endDrain l = if (s.lane l).state = .draining ∧ hold = [] then
      ((w.setLane l { w.lane l with state := .disabled }).offer
        (.lane { lane := l, event := .disabled })).completeReply l .drain .ok (uField 1 l.val ++ uField 1 2
          ++ fill 2 ++ fill 5 ++ uField 2 (s.lane l).cLane ++ uField 2 (s.lane l).uLane)
      else w := by
  have cLane : (w.lane l).cLane = (s.lane l).cLane := h.kept LaneUnit.cLane
  have uLane : (w.lane l).uLane = (s.lane l).uLane := h.kept LaneUnit.uLane
  split
  · next drained =>
    rw [State.endDrain_of_drained (h.drained_iff.mpr drained), State.drainEnded, cLane, uLane]
  · next stays => exact State.endDrain_of_not (mt h.drained_iff.mp stays)

/-- The lane once an entry has left it and its drain has ended, if it does (R44, R137, R138, R145). -/
theorem State.Left.lane_endDrain {s w : State} {l : LaneId} {hold : List HoldEntry} {credits : Nat} {sent : Sending}
    (h : s.Left w l hold credits sent) :
    let v := (w.endDrain l).lane l
    bodies v.hold = bodies hold ∧ v.engineWait = s.waitAfterRelease l ∧ v.credits = credits ∧ v.bTx = some sent ∧
    v.state = if (s.lane l).state = .draining ∧ hold = [] then .disabled else (s.lane l).state := by
  have lane := w.endDrain_lane l
  dsimp only
  refine ⟨?_, ?_, ?_, ?_, ?_⟩
  · rw [lane]
    exact h.same
  · rw [lane, h.lane]
  · rw [lane, h.lane]
  · rw [lane, h.lane]
  · rw [lane]
    exact if_congr h.drained_iff rfl (h.kept LaneUnit.state)

/-- Nothing but the lane, the triggers and the Journal is touched, the replies aside (R44, R137, R138). -/
theorem State.Left.frame {s w : State} {l : LaneId} {hold : List HoldEntry} {credits : Nat} {sent : Sending}
    (h : s.Left w l hold credits sent) :
    (∀ k, k ≠ l → ((w.endDrain l).lane k).withoutReplies = (s.lane k).withoutReplies) ∧
    s.BooksKept (w.endDrain l) ∧ (w.endDrain l).fixedPart = s.fixedPart := by
  obtain ⟨books, bookUnit⟩ := w.endDrain_books l
  refine ⟨fun k hk => ?_, h.books.trans (.of_same books bookUnit), (State.fixedPart_endDrain w l).trans h.fixed⟩
  rw [LaneUnit.withoutReplies_of_eq (w.endDrain_lane_of_ne hk), h.others k hk]

/-! ### The obligation -/

theorem residenceOf_eq (lt : Nat) (f : HeldFrame) :
    residenceOf lt f = if f.cls = none then none else some (lt - f.captured) := by
  unfold residenceOf
  split
  · next none => rw [none]; rfl
  · next some =>
    obtain ⟨c, hc⟩ := Option.ne_none_iff_exists'.mp some
    rw [hc]
    rfl

theorem State.releaseEntry_frame (s : State) (l : LaneId) (before behind : List HoldEntry) {e : HoldEntry}
    {f : HeldFrame} (body : e.body = .frame f) :
    s.releaseEntry l before e behind = (s.releaseFrame l before f behind).endDrain l := by
  unfold State.releaseEntry
  rw [body]

theorem State.releaseEntry_trigger (s : State) (l : LaneId) (before behind : List HoldEntry) {e : HoldEntry}
    {b : BookId} {i : Nat} (body : e.body = .trigger b i) :
    s.releaseEntry l before e behind = (s.releaseTrigger l before b i behind).endDrain l := by
  unfold State.releaseEntry
  rw [body]

/-- The trigger of the book is RELEASED on this lane, and no other trigger moves (R115, R138). -/
theorem State.releaseTrigger_triggers (s : State) (l : LaneId) (before behind : List HoldEntry) (b : BookId) (i : Nat) :
    let t := (s.releaseTrigger l before b i behind).endDrain l
    (t.book b).trigger l = .released ∧
    ∀ c k, (c, k) ≠ (b, l) → (t.book c).trigger k = (s.book c).trigger k := by
  dsimp only
  have book (c : BookId) : ((s.releaseTrigger l before b i behind).endDrain l).book c =
      (s.setBook b ((s.book b).setTrigger l .released)).book c :=
    congrArg (·[c.val]) ((State.endDrain_books _ l).1.trans (State.judgeWaits_books _ l))
  refine ⟨?_, fun c k other => ?_⟩
  · rw [book, State.book_setBook_same, Book.trigger_setTrigger_same]
  · rw [book, State.book_setBook]
    split
    · next same =>
      subst same
      exact Book.trigger_setTrigger_of_ne _ _ fun lane => other (by rw [lane])
    · rfl

/-- Settles O29: the choice of the arbiter by its order, then what it sends and what leaves with it. -/
theorem engineEgressSendsFirstCandidate : Obligations.EngineEgressSendsFirstCandidate := by
  intro s l before behind e id kind status content rest u replyPresent exportPresent others releases yields waited left
    removed triggerSent ended departed
  have present : s.othersPresent l = true ↔ others := s.othersPresent_iff l
  have reply : u.replyCandidate.isSome = true ↔ replyPresent := u.replyCandidate_isSome_iff
  have exporting : s.exportCandidate l = true ↔ exportPresent := s.exportCandidate_iff l
  have first (h : releases) : s.engineChoice l = .release before e behind :=
    State.engineChoice_of_release h.1 fun ⟨wait, other⟩ => h.2 ⟨wait, present.mp other⟩
  have second (h : yields) : s.engineChoice l = s.secondChoice l :=
    State.engineChoice_of_yield (h.imp_right fun ⟨wait, other⟩ => ⟨wait, present.mpr other⟩)
  have counted : waited (s.waitAfterRelease l) :=
    ⟨fun h => (s.waitAfterRelease_spec l).1 (present.mpr h), fun h => (s.waitAfterRelease_spec l).2 (mt present.mp h)⟩
  have moved : left (expiryAfterDeparture u.releaseExpiry (before ++ behind)) :=
    expiryAfterDeparture_spec u.releaseExpiry (before ++ behind)
  have departs {w : State} {credits : Nat} {sent : Sending} (up : u.bLink = .up) (h : releases)
      (gone : s.Left w l (before ++ behind) credits sent) (released : s.releaseEntry l before e behind = w.endDrain l) :
      departed (w.endDrain l) := by
    obtain ⟨list, wait, -, -, state⟩ := gone.lane_endDrain
    obtain ⟨lanes, books, fixed⟩ := gone.frame
    exact ⟨(exec_engineEgressChoice up (first h)).trans (congrArg _ released), list, wait.symm ▸ counted, state,
      gone.field LaneUnit.notices, gone.field LaneUnit.reports, gone.field LaneUnit.requests,
      gone.field LaneUnit.pendingTriggers, gone.field LaneUnit.rx, lanes, books.book, books.bookUnit, fixed⟩
  refine ⟨fun down => ?_, fun up h g body => ?_, fun up h b i body => ?_, fun up h replies => ?_,
    fun up h noReply ready => ?_, fun up none alone => ?_⟩
  · show execEngineEgressChoice l s = _
    unfold execEngineEgressChoice
    rw [show (s.lane l).bLink = .down from down]
  · have gone := s.releaseFrame_left l before behind g
    obtain ⟨-, -, credits, sent, -⟩ := gone.lane_endDrain
    refine ⟨_, departs up h gone (s.releaseEntry_frame l before behind body), ⟨_, _, moved, counted, ?_⟩, credits, sent,
      (State.endDrain_books _ l).1, fun busy => ?_⟩
    · rw [← residenceOf_eq]
      exact gone.endDrain_eq
    · rw [gone.endDrain_eq, if_neg fun drained => busy drained.1]
      rfl
  · have gone := s.releaseTrigger_left l before behind b i
    obtain ⟨-, -, credits, sent, -⟩ := gone.lane_endDrain
    exact ⟨_, departs up h gone (s.releaseEntry_trigger l before behind body),
      ⟨_, _, moved, counted, gone.endDrain_eq⟩, credits, sent, s.releaseTrigger_triggers l before behind b i⟩
  · refine (exec_engineEgressChoice up ((second h).trans (State.secondChoice_of_reply replies))).trans ?_
    rw [State.sendEngineChoice, State.sendReply, replies]
    rfl
  · refine exec_engineEgressChoice up (c := .exportFrame) ((second h).trans ?_)
    rw [State.secondChoice_of_no_reply (mt reply.mp noReply), if_pos (exporting.mpr ready)]
  · refine exec_engineEgressChoice up (c := .nothing) ((second (.inl none)).trans ?_)
    rw [State.secondChoice_of_no_reply (mt reply.mp fun h => alone (.inl h)),
      if_neg (mt exporting.mp fun h => alone (.inr h))]

end Sys2Proof.Machine
end

section
/-! PROOFS. The requests that act on lanes, books, the Journal and the Evidence Unit leave the fixed part alone: the time
path, the settings and the classification tables. -/

namespace Sys2Proof.Machine

/-! ### Table requests -/

theorem serveExportLane_fixedPart (l : LaneId) (p : Bytes) (s : State) :
    (serveExportLane l p s).1.fixedPart = s.fixedPart := by
  unfold serveExportLane
  split
  · rfl
  · split
    · rfl
    · split <;> rfl

theorem serveFlushInterval_fixedPart (l : LaneId) (p : Bytes) (s : State) :
    (serveFlushInterval l p s).1.fixedPart = s.fixedPart := by
  unfold serveFlushInterval
  dsimp only
  split
  · rfl
  · split <;> rfl

theorem serveCounter_fixedPart (l : LaneId) (p : Bytes) (s : State) :
    (serveCounter l p s).1.fixedPart = s.fixedPart := by
  unfold serveCounter
  split
  · rfl
  · split <;> rfl

theorem serveSnapshotPeriod_fixedPart (l : LaneId) (p : Bytes) (s : State) :
    (serveSnapshotPeriod l p s).1.fixedPart = s.fixedPart := by
  unfold serveSnapshotPeriod
  split <;> rfl

/-- A read changes nothing at all (R93). -/
theorem serveTableRead_state (l : LaneId) (p : Bytes) (s : State) : (serveTableRead l p s).1 = s := by
  unfold serveTableRead
  split
  · rfl
  · split <;> rfl

/-! ### Book requests -/

theorem State.judgeArm_fixedPart (s : State) (b : BookId) (p : Bytes) :
    (s.judgeArm b p).1.fixedPart = s.fixedPart := by
  unfold State.judgeArm
  dsimp only
  split
  · rfl
  · split
    · rfl
    · split
      · rfl
      · split <;> rfl

theorem serveBookArm_fixedPart (l : LaneId) (p : Bytes) (s : State) :
    (serveBookArm l p s).1.fixedPart = s.fixedPart := by
  unfold serveBookArm
  split
  · rfl
  · split
    case h_6 | h_7 => exact s.judgeArm_fixedPart _ _
    all_goals rfl

theorem serveBookDisarm_fixedPart (l : LaneId) (p : Bytes) (s : State) :
    (serveBookDisarm l p s).1.fixedPart = s.fixedPart := by
  unfold serveBookDisarm
  split
  · rfl
  · split
    case h_2 => split <;> rfl
    all_goals rfl

theorem serveBookExtend_fixedPart (l : LaneId) (p : Bytes) (s : State) :
    (serveBookExtend l p s).1.fixedPart = s.fixedPart := by
  unfold serveBookExtend
  split
  · rfl
  · split
    · rfl
    · unfold State.judgeExtend
      split <;> rfl

/-! ### Lane commands -/

/-- A lane command leaves the fixed part alone where the lane that takes it does. -/
theorem onCommandedLane_fixedPart {code : Nat} {p : Bytes} {s : State} {take : LaneId → Answer}
    (h : ∀ k, (take k).1.fixedPart = s.fixedPart) : (onCommandedLane code p s take).1.fixedPart = s.fixedPart := by
  unfold onCommandedLane
  split
  · rfl
  · split
    · rfl
    · exact h _

theorem serveEnable_fixedPart (l : LaneId) (p : Bytes) (s : State) :
    (serveEnable l p s).1.fixedPart = s.fixedPart :=
  onCommandedLane_fixedPart fun _ => by split <;> rfl

theorem serveDrain_fixedPart (l : LaneId) (p : Bytes) (s : State) :
    (serveDrain l p s).1.fixedPart = s.fixedPart := by
  refine onCommandedLane_fixedPart fun k => ?_
  split
  case h_2 =>
    unfold State.startDrain
    split <;> rfl
  all_goals rfl

theorem serveDisable_fixedPart (l : LaneId) (p : Bytes) (s : State) :
    (serveDisable l p s).1.fixedPart = s.fixedPart :=
  onCommandedLane_fixedPart fun _ => by split <;> rfl

theorem State.startProbing_fixedPart (s : State) (l : LaneId) (ret : ReturnState) :
    (s.startProbing l ret).1.fixedPart = s.fixedPart := by
  unfold State.startProbing
  split
  · rfl
  · split
    · rfl
    · exact State.fixedPart_probeFail _ _

theorem serveProbe_fixedPart (l : LaneId) (p : Bytes) (s : State) :
    (serveProbe l p s).1.fixedPart = s.fixedPart := by
  refine onCommandedLane_fixedPart fun k => ?_
  split
  · exact s.startProbing_fixedPart _ _
  · exact s.startProbing_fixedPart _ _
  · rfl
  · rfl

/-! ### Journal requests and the datapath reset -/

theorem serveJournalRelease_fixedPart (l : LaneId) (p : Bytes) (s : State) :
    (serveJournalRelease l p s).1.fixedPart = s.fixedPart := by
  unfold serveJournalRelease
  dsimp only
  split <;> rfl

theorem serveJournalResend_fixedPart (l : LaneId) (p : Bytes) (s : State) :
    (serveJournalResend l p s).1.fixedPart = s.fixedPart := by
  unfold serveJournalResend
  dsimp only
  split <;> rfl

theorem serveDatapathReset_fixedPart (l : LaneId) (p : Bytes) (s : State) :
    (serveDatapathReset l p s).1.fixedPart = s.fixedPart := by
  unfold serveDatapathReset
  split
  · rfl
  · exact fixedPart_flushLanes _ _

end Sys2Proof.Machine
end

section
/-! PROOFS. The commands that leave the stamping settings and the classification tables alone: all but the reset input
and the writes of those tables. -/

namespace Sys2Proof.Machine

/-- What the classifier and the stamping rest on: the stamping settings and the two classification tables (R75, R90). -/
def State.tables (s : State) : Stamping × Vector MatchEntry 32 × Vector ClassRecord 16 :=
  (s.stamping, s.matchTable, s.classTable)

theorem State.tables_ext {s t : State} (h : t.tables = s.tables) :
    t.stamping = s.stamping ∧ t.matchTable = s.matchTable ∧ t.classTable = s.classTable := by
  simpa [State.tables] using h

theorem State.tables_of_fixedPart {s t : State} (h : t.fixedPart = s.fixedPart) : t.tables = s.tables := by
  obtain ⟨-, -, -, -, -, -, stamping, entries, classes, -⟩ := State.fixedPart_ext h
  simp [State.tables, stamping, entries, classes]

theorem State.tables_of_settings {s t : State} (h : t.settings = s.settings) : t.tables = s.tables := by
  obtain ⟨-, -, -, stamping, entries, classes, -⟩ := State.settings_ext h
  simp [State.tables, stamping, entries, classes]

/-! ### The time path -/

theorem State.setMonitor_tables (s : State) (ref : RefLine) (m : Monitor) : (s.setMonitor ref m).tables = s.tables := by
  simp [State.tables]

theorem State.judgeGrade_tables (s : State) : s.judgeGrade.tables = s.tables := by
  rw [State.judgeGrade_eq]
  rfl

theorem State.switchReference_tables (s : State) : s.switchReference.tables = s.tables := by
  rw [s.switchReference_eq.1]
  rfl

theorem State.lossOfSelected_tables (s : State) : s.lossOfSelected.tables = s.tables := by
  rw [State.lossOfSelected_eq]
  rfl

theorem State.becameHealthy_tables (s : State) (ref : RefLine) : (s.becameHealthy ref).tables = s.tables := by
  unfold State.becameHealthy
  split
  · split <;> rfl
  · split
    · exact s.switchReference_tables
    · rfl

/-- A refusal after a change of the capture unit leaves the tables alone (R5 to R8, R12). -/
theorem State.setUnit_refuse_tables (s : State) (ref : RefLine) (u : CaptureUnit) (reason : RefusalReason) :
    ((s.setUnit ref u).refuseMarker ref reason).tables = s.tables := by
  rw [State.refuseMarker_eq]
  exact s.setMonitor_tables ref _

theorem State.acceptMarker_tables {s : State} {ref : RefLine} {k : Marker} (hk : s.Captured k) :
    (s.acceptMarker ref k).tables = s.tables := by
  have noted : (s.noteMarker ref k).tables = s.tables := by
    rw [s.noteMarker_eq ref k]
    rfl
  have captured : (s.noteMarker ref k).Captured k := by
    unfold State.Captured
    rwa [(s.noteMarker_keeps ref k).lt]
  have evaluated := State.tables_of_settings (State.evaluate_settings _ k captured)
  have handled : ((s.noteMarker ref k).disciplineMarker k).tables = s.tables := by
    unfold State.disciplineMarker
    split
    · exact evaluated.trans noted
    · exact evaluated.trans noted
    · exact noted
    · exact noted
  have disciplined : (if ref = s.discipline.selected then (s.noteMarker ref k).disciplineMarker k
      else s.noteMarker ref k).tables = s.tables := by
    split
    · exact handled
    · exact noted
  rw [State.acceptMarker_eq]
  dsimp only
  split
  · exact (State.becameHealthy_tables _ _).trans disciplined
  · exact disciplined

theorem execAnnouncementReceived_tables {ref : RefLine} {m : Bytes} {s t : State}
    (h : execAnnouncementReceived ref m s = .next t) : t.tables = s.tables := by
  cases h
  split
  · rfl
  · split
    · exact s.setMonitor_tables ref _
    · unfold State.validAnnouncement
      split
      · exact s.setMonitor_tables ref _
      · rw [State.refuseMarker_eq]
        exact (State.setMonitor_tables _ ref _).trans (s.setMonitor_tables ref _)
      · exact s.setMonitor_tables ref _

theorem execMarkerEdge_tables {ref : RefLine} {s t : State} (h : execMarkerEdge ref s = .next t) :
    t.tables = s.tables := by
  cases h
  split
  · rfl
  · split
    · unfold State.judgeEdge
      dsimp only
      split
      · exact s.setUnit_refuse_tables ref _ _
      · split
        · exact s.setUnit_refuse_tables ref _ _
        · refine (State.acceptMarker_tables ?_).trans (s.setMonitor_tables ref _)
          exact ⟨(s.lt_setMonitor ref _).symm, by rw [State.setUnit, State.lt_setMonitor]; rfl⟩
    · exact s.setMonitor_tables ref _
    · exact s.setMonitor_tables ref _

theorem execArmExpiry_tables {ref : RefLine} {s t : State} (h : execArmExpiry ref s = .next t) :
    t.tables = s.tables := by
  cases h
  split
  · split
    · exact s.setUnit_refuse_tables ref _ _
    · rfl
  all_goals rfl

theorem execAnnouncementExpiry_tables {ref : RefLine} {s t : State} (h : execAnnouncementExpiry ref s = .next t) :
    t.tables = s.tables := by
  cases h
  split
  · split
    · exact s.setUnit_refuse_tables ref _ _
    · rfl
  all_goals rfl

theorem execGuardExpiry_tables {ref : RefLine} {s t : State} (h : execGuardExpiry ref s = .next t) :
    t.tables = s.tables := by
  cases h
  split
  · split
    · exact s.setMonitor_tables ref _
    · rfl
  all_goals rfl

theorem execGrowthExpiry_tables {s t : State} (h : execGrowthExpiry s = .next t) : t.tables = s.tables := by
  cases h
  split
  · rfl
  · split
    · exact State.judgeGrade_tables _
    · rfl

/-! ### CLOCK writes and clock commands -/

theorem serveClockSetting_tables (l : LaneId) (p : Bytes) (s : State) : (serveClockSetting l p s).1.tables = s.tables := by
  unfold serveClockSetting
  split
  · rfl
  · split <;> rfl

theorem serveAutoSwitch_tables (l : LaneId) (p : Bytes) (s : State) : (serveAutoSwitch l p s).1.tables = s.tables := by
  unfold serveAutoSwitch
  split
  · rfl
  · split <;> rfl

theorem State.afterEnable_tables (s : State) (ref : RefLine) (on changed : Bool) :
    (s.afterEnable ref on changed).tables = s.tables := by
  unfold State.afterEnable
  split
  · rfl
  · split
    · rfl
    · dsimp only
      split
      · exact State.lossOfSelected_tables _
      · rfl

theorem serveReferenceEnable_tables (l : LaneId) (p : Bytes) (s : State) :
    (serveReferenceEnable l p s).1.tables = s.tables := by
  unfold serveReferenceEnable
  split
  · rfl
  · split
    · rfl
    · exact (State.afterEnable_tables _ _ _ _).trans (s.setMonitor_tables _ _)

theorem State.commandAcquire_tables (s : State) : s.commandAcquire.tables = s.tables := by
  have entered : s.enterAcquire.tables = s.tables := by
    unfold State.enterAcquire
    dsimp only
    split
    · exact s.switchReference_tables
    · rfl
  unfold State.commandAcquire
  split
  · exact entered
  · exact entered
  · rfl
  · rfl

theorem serveAcquire_tables (l : LaneId) (p : Bytes) (s : State) : (serveAcquire l p s).1.tables = s.tables := by
  unfold serveAcquire
  split
  · rfl
  · exact s.commandAcquire_tables

theorem serveRelease_tables (l : LaneId) (p : Bytes) (s : State) : (serveRelease l p s).1.tables = s.tables := by
  unfold serveRelease
  split
  · rfl
  all_goals exact State.judgeGrade_tables _

theorem State.select_tables (s : State) (ref : RefLine) : (s.select ref).tables = s.tables := by
  unfold State.select
  split
  · rfl
  · dsimp only
    split <;> rfl

theorem State.clearMissingOf_tables (s : State) (ref : RefLine) : (s.clearMissingOf ref).tables = s.tables := by
  unfold State.clearMissingOf
  dsimp only
  split <;> exact s.setMonitor_tables ref _

/-! ### Every command -/

/-- The commands that write the stamping settings or a classification table: the reset input and the writes of the
MATCH, CLASS and STAMPING tables (R85, R88, R90). -/
def writesTables : Instr → Bool
  | .powerOnReset | .tableWriteMatch | .tableWriteClass => true
  | c => isStampingRow c

/-- A request leaves the tables alone where its judgement does. -/
theorem tables_of_request {s t : State} {row : Instr} {serve : LaneId → Bytes → State → Answer}
    (h : (.next (s.takeRequest row serve) : Result) = .next t)
    (hk : ∀ l p u, (serve l p u).1.tables = u.tables) : t.tables = s.tables := by
  cases h
  exact State.takeRequest_induct (P := fun t => t.tables = s.tables) row rfl (fun _ => rfl)
    (fun l p t ht => (hk l p t).trans ht) fun _ _ _ ht => ht

/-- The same where its judgement leaves the whole fixed part alone. -/
theorem tables_of_fixed_request {s t : State} {row : Instr} {serve : LaneId → Bytes → State → Answer}
    (h : (.next (s.takeRequest row serve) : Result) = .next t)
    (hk : ∀ l p u, (serve l p u).1.fixedPart = u.fixedPart) : t.tables = s.tables :=
  tables_of_request h fun l p u => State.tables_of_fixedPart (hk l p u)

/-- A command that writes none of the tables leaves them alone. -/
theorem exec_tables {c : Instr} {s t : State} (hc : writesTables c = false) (h : exec c s = .next t) :
    t.tables = s.tables := by
  cases hd : isDatapathEvent c with
  | true => exact State.tables_of_fixedPart (exec_datapathEvent_fixedPart hd h)
  | false =>
  cases c with
  | announcementReceived ref m => exact execAnnouncementReceived_tables h
  | markerEdge ref => exact execMarkerEdge_tables h
  | armExpiry ref => exact execArmExpiry_tables h
  | announcementExpiry ref => exact execAnnouncementExpiry_tables h
  | guardExpiry ref => exact execGuardExpiry_tables h
  | growthExpiry => exact execGrowthExpiry_tables h
  | tableWriteClockSetting => exact tables_of_request h serveClockSetting_tables
  | tableWriteAutoSwitch => exact tables_of_request h serveAutoSwitch_tables
  | tableWriteReferenceEnable => exact tables_of_request h serveReferenceEnable_tables
  | acquire => exact tables_of_request h serveAcquire_tables
  | release => exact tables_of_request h serveRelease_tables
  | selectA => exact tables_of_request h fun _ _ u => u.select_tables .a
  | selectB => exact tables_of_request h fun _ _ u => u.select_tables .b
  | clearMissing =>
    exact tables_of_request h fun _ _ u => (State.clearMissingOf_tables _ .b).trans (u.clearMissingOf_tables .a)
  | tableWriteLane => exact tables_of_fixed_request h serveLaneWrite_fixedPart
  | tableWriteExportLane => exact tables_of_fixed_request h serveExportLane_fixedPart
  | tableWriteFlushInterval => exact tables_of_fixed_request h serveFlushInterval_fixedPart
  | tableWriteCounter => exact tables_of_fixed_request h serveCounter_fixedPart
  | tableWriteSnapshotPeriod => exact tables_of_fixed_request h serveSnapshotPeriod_fixedPart
  | tableRead => exact tables_of_request h fun l p u => congrArg State.tables (serveTableRead_state l p u)
  | bookArm => exact tables_of_fixed_request h serveBookArm_fixedPart
  | bookDisarm => exact tables_of_fixed_request h serveBookDisarm_fixedPart
  | bookExtend => exact tables_of_fixed_request h serveBookExtend_fixedPart
  | enable => exact tables_of_fixed_request h serveEnable_fixedPart
  | drain => exact tables_of_fixed_request h serveDrain_fixedPart
  | disable => exact tables_of_fixed_request h serveDisable_fixedPart
  | probe => exact tables_of_fixed_request h serveProbe_fixedPart
  | journalRelease => exact tables_of_fixed_request h serveJournalRelease_fixedPart
  | journalResend => exact tables_of_fixed_request h serveJournalResend_fixedPart
  | datapathReset => exact tables_of_fixed_request h serveDatapathReset_fixedPart
  | bookSeed | counterRead | counterClear | statusRead | unknownRequest => exact tables_of_request h fun _ _ _ => rfl
  | powerOnReset | tableWriteMatch | tableWriteClass | tableWriteH | tableWriteL | tableWriteDayOrigin
  | tableWriteEntryFrameType | tableWriteQ => cases hc
  | _ => cases hd

end Sys2Proof.Machine
end

section
/-! PROOFS. What a table request carries: the codes and numbers it names, and the row its fields put it in (R189, R203,
R205, R207). -/

namespace Sys2Proof.Machine

/-! ### Numbers -/

theorem entryOf_of_le {n : Nat} (h : 32 ≤ n) : entryOf n = none := dif_neg (Nat.not_lt.mpr h)

theorem entryOf_val (n : EntryId) : entryOf n.val = some n := dif_pos n.isLt

theorem classOf_of_le {n : Nat} (h : 16 ≤ n) : classOf n = none := dif_neg (Nat.not_lt.mpr h)

theorem classOf_val (c : ClassId) : classOf c.val = some c := dif_pos c.isLt

theorem bookOf_of_le {n : Nat} (h : 8 ≤ n) : bookOf n = none := dif_neg (Nat.not_lt.mpr h)

theorem bookOf_val (b : BookId) : bookOf b.val = some b := dif_pos b.isLt

/-! ### Codes -/

theorem selectorOf_eq_some_iff (n : Nat) (sel : Selector) : selectorOf n = some sel ↔ n = sel.code := by
  unfold selectorOf
  split <;> cases sel <;> simp_all [Selector.code]

theorem selectorOf_of_lt {n : Nat} (h : 3 < n) : selectorOf n = none := by
  unfold selectorOf
  split
  case h_5 => rfl
  all_goals omega

theorem onOffOf_eq_some_iff (n : Nat) (on : Bool) : onOffOf n = some on ↔ n = if on then 1 else 0 := by
  unfold onOffOf
  split <;> cases on <;> simp_all

theorem onOffOf_of_lt {n : Nat} (h : 1 < n) : onOffOf n = none := by
  unfold onOffOf
  split
  case h_3 => rfl
  all_goals omega

/-- The three two-valued codes of a class record (R78, R203). -/
theorem classCodes_of_le {n : Nat} (h : n ≤ 1) :
    stampFormatOf n = some (if n = 0 then .full else .compact) ∧
    admissionOf n = some (if n = 0 then .accept else .refuse) ∧
    lateActionOf n = some (if n = 0 then .mark else .refuse) := by
  interval_cases n <;> exact ⟨rfl, rfl, rfl⟩

theorem classCodes_of_lt {n : Nat} (h : 1 < n) :
    stampFormatOf n = none ∧ admissionOf n = none ∧ lateActionOf n = none := by
  unfold stampFormatOf admissionOf lateActionOf
  obtain ⟨m, rfl⟩ : ∃ m, n = m + 2 := ⟨n - 2, by omega⟩
  exact ⟨rfl, rfl, rfl⟩

theorem tableOf_code (t : TableId) : tableOf t.code = some t := by
  cases t <;> rfl

theorem tableOf_eq_none {n : Nat} (h : n < 1 ∨ 7 < n) : tableOf n = none := by
  unfold tableOf
  split
  case h_8 => rfl
  all_goals omega

/-! ### Rows -/

/-- The rows of the TABLE_WRITE requests whose row hides what their fields name: MATCH, which an unlisted table stands
with too, and the snapshot period, an item of the COUNTER table (R189, R207, log 4). -/
def isItemWriteRow : Instr → Bool
  | .tableWriteMatch | .tableWriteSnapshotPeriod => true
  | _ => false

/-- A request of such a row is a TABLE_WRITE. -/
theorem requestRow_eq_itemWriteRow {p : Bytes} (h : isItemWriteRow (requestRow p) = true) :
    requestRow p = writeRow p := by
  have clock : isItemWriteRow (clockCommandRow p) = false := by
    unfold clockCommandRow
    split <;> rfl
  have lane : isItemWriteRow (laneCommandRow p) = false := by
    unfold laneCommandRow
    split <;> rfl
  by_cases hk : reqKind p = kindTableWrite
  · exact if_pos hk
  · simp only [requestRow, if_neg hk, apply_ite isItemWriteRow, clock, lane] at h
    simp [isItemWriteRow] at h

/-- A MATCH write names the MATCH table or no table, a write of the snapshot period item 10 (R189, R207, log 4). -/
theorem itemWriteRow_fields (p : Bytes) :
    (writeRow p = .tableWriteMatch → ∀ t, reqTable p = some t → t = .matchTable) ∧
      (writeRow p = .tableWriteSnapshotPeriod → reqIndex p = 10) := by
  unfold writeRow
  split
  case h_4 | h_5 => split <;> simp
  case h_6 => split <;> simp
  case h_7 =>
    split
    · next item => exact ⟨nofun, fun _ => item⟩
    · exact ⟨nofun, nofun⟩
  all_goals simp_all

end Sys2Proof.Machine
end

section
/-! PROOFS. The writes of the MATCH and CLASS tables: their locks, what they carry, what an accepted one replaces (R85 to
R89). -/

namespace Sys2Proof.Machine

/-! ### The locks of MATCH (R86, R87) -/

/-- The locks of a MATCH write together: the pattern of an enabled entry, the enabled field in an auction. -/
def State.entryLocked (s : State) (n : EntryId) (p : Bytes) : Bool :=
  s.matchTable[n.val].patternLocked p || (s.matchTable[n.val].enabledChanges p && s.entryInAuction n)

theorem MatchEntry.patternLocked_iff (e : MatchEntry) (p : Bytes) :
    e.patternLocked p = true ↔ e.enabled = true ∧
      (field p 5 1 ≠ e.selector.code ∨ field p 6 4 ≠ e.value.toNat ∨ field p 10 4 ≠ e.mask.toNat) := by
  simp [MatchEntry.patternLocked, or_assoc]

/-- A written enabled code is a change where it is the other one of the two (R87). -/
theorem MatchEntry.enabledChanges_of_code {e : MatchEntry} {p : Bytes} {on : Bool}
    (h : field p 14 1 = if on then 1 else 0) : e.enabledChanges p = (on != e.enabled) := by
  unfold MatchEntry.enabledChanges
  rw [(onOffOf_eq_some_iff _ _).mpr h]

theorem MatchEntry.enabledChanges_iff (e : MatchEntry) (p : Bytes) :
    e.enabledChanges p = true ↔
      (field p 14 1 = 0 ∧ e.enabled = true) ∨ (field p 14 1 = 1 ∧ e.enabled = false) := by
  by_cases off : field p 14 1 = 0
  · rw [MatchEntry.enabledChanges_of_code (on := false) off]
    simp [off]
  by_cases on : field p 14 1 = 1
  · rw [MatchEntry.enabledChanges_of_code (on := true) on]
    simp [on]
  · have unlisted : onOffOf (field p 14 1) = none := onOffOf_of_lt (by omega)
    simp [MatchEntry.enabledChanges, unlisted, off, on]

/-- An entry is locked by a class whose book is auction-active and one of whose sets names it (R87). -/
theorem State.entryInAuction_iff (s : State) (n : EntryId) :
    s.entryInAuction n = true ↔ ∃ c : ClassId, ∃ b, s.classTable[c.val].book = some b ∧ s.InAuction b ∧
      (s.classTable[c.val].anyOf.has n = true ∨ s.classTable[c.val].allOf.has n = true) := by
  simp only [State.entryInAuction, allClasses, List.any_eq_true, List.mem_finRange, true_and, Bool.and_eq_true,
    Bool.or_eq_true, State.bookAuction_iff]
  refine exists_congr fun c => ⟨fun ⟨named, b, hb, active⟩ => ⟨b, hb, active, named⟩,
    fun ⟨b, hb, active, named⟩ => ⟨named, b, hb, active⟩⟩

/-! ### What a MATCH write carries -/

/-- With listed codes a MATCH write carries an entry where its value and its mask fit the selector's width (R85). -/
theorem matchContent_of_codes {p : Bytes} {sel : Selector} {on : Bool} (hsel : field p 5 1 = sel.code)
    (hon : field p 14 1 = if on then 1 else 0) :
    matchContent p = if field p 6 4 < 2 ^ sel.width ∧ field p 10 4 < 2 ^ sel.width then
      some ⟨sel, BitVec.ofNat 32 (field p 6 4), BitVec.ofNat 32 (field p 10 4), on⟩ else none := by
  unfold matchContent
  rw [(selectorOf_eq_some_iff _ _).mpr hsel, (onOffOf_eq_some_iff _ _).mpr hon]

/-- Without, it carries none (R85, log 16). -/
theorem matchContent_of_unlisted {p : Bytes} (h : 3 < field p 5 1 ∨ 1 < field p 14 1) : matchContent p = none := by
  unfold matchContent
  split
  · next hsel hon =>
    rcases h with h | h
    · cases (selectorOf_of_lt h).symm.trans hsel
    · cases (onOffOf_of_lt h).symm.trans hon
  · rfl

/-- The entry a MATCH write carries is spelt by its fields (R85, R207). -/
theorem fields_of_matchContent {p : Bytes} {w : MatchEntry} (h : matchContent p = some w) :
    field p 5 1 = w.selector.code ∧ field p 14 1 = (if w.enabled then 1 else 0) ∧
      w.value = BitVec.ofNat 32 (field p 6 4) ∧ w.mask = BitVec.ofNat 32 (field p 10 4) := by
  unfold matchContent at h
  split at h
  · next hsel hon =>
    split at h
    · cases h
      exact ⟨(selectorOf_eq_some_iff _ _).mp hsel, (onOffOf_eq_some_iff _ _).mp hon, rfl, rfl⟩
    · cases h
  · cases h

/-! ### The judgement of a MATCH write -/

/-- What an accepted MATCH write comes to: the whole entry replaced, and the TABLE record with it (R85, R92). -/
def State.writeEntry (s : State) (n : EntryId) (w : MatchEntry) : State :=
  { s with matchTable := s.matchTable.set n.val w }.offerTable .matchTable n.val w.content

/-- The tests of a MATCH write in their order: table code, entry number, locks, values (R85, R189). -/
theorem serveMatch_cases (l : LaneId) (p : Bytes) (s : State) :
    (reqTable p = none → serveMatch l p s = refuseWith .badValue s) ∧
    (reqTable p ≠ none → entryOf (reqIndex p) = none → serveMatch l p s = refuseWith .badIndex s) ∧
    (reqTable p ≠ none → ∀ n, entryOf (reqIndex p) = some n →
      (s.entryLocked n p = true → serveMatch l p s = refuseWith .locked s) ∧
      (¬ s.entryLocked n p = true → matchContent p = none → serveMatch l p s = refuseWith .badValue s) ∧
      (¬ s.entryLocked n p = true → ∀ w, matchContent p = some w →
        serveMatch l p s = okWith (tableReply .matchTable n.val w.content) (s.writeEntry n w))) := by
  unfold serveMatch
  refine ⟨fun unlisted => if_pos (by rw [unlisted]; rfl), fun listed above => ?_, fun listed n at' => ?_⟩ <;>
    rw [if_neg (by rwa [Option.isNone_iff_eq_none])]
  · rw [above]
  · rw [at']
    refine ⟨fun locked => if_pos locked, fun free absent => ?_, fun free w carried => ?_⟩
    · exact (if_neg free).trans (by rw [absent])
    · exact (if_neg free).trans (by rw [carried]; rfl)

/-- Everything a MATCH write can do: nothing, or the replacement of an entry that is not locked. -/
theorem serveMatch_state (l : LaneId) (p : Bytes) (s : State) :
    (serveMatch l p s).1 = s ∨ ∃ n w, s.entryLocked n p = false ∧ matchContent p = some w ∧
      (serveMatch l p s).1 = s.writeEntry n w := by
  obtain ⟨unlisted, above, found⟩ := serveMatch_cases l p s
  by_cases ht : reqTable p = none
  · exact .inl (by rw [unlisted ht]; rfl)
  cases hn : entryOf (reqIndex p) with
  | none => exact .inl (by rw [above ht hn]; rfl)
  | some n =>
    obtain ⟨locked, empty, written⟩ := found ht n hn
    by_cases hl : s.entryLocked n p = true
    · exact .inl (by rw [locked hl]; rfl)
    cases hw : matchContent p with
    | none => exact .inl (by rw [empty hl hw]; rfl)
    | some w => exact .inr ⟨n, w, Bool.eq_false_iff.mpr hl, rfl, by rw [written hl w hw]; rfl⟩

/-! ### The judgement of a CLASS write -/

/-- What an accepted CLASS write comes to: the whole record replaced, and the TABLE record with it (R88, R92). -/
def State.writeClass (s : State) (c : ClassId) (w : ClassRecord) : State :=
  { s with classTable := s.classTable.set c.val w }.offerTable .classTable c.val w.content

/-- The lock of R89: the record in force, or the record written, names a book that is auction-active. -/
def State.classLocked (s : State) (c : ClassId) (p : Bytes) : Bool :=
  s.bookAuction s.classTable[c.val].book || s.bookAuction ((classBook p).getD none)

/-- The tests of a CLASS write in their order: record number, lock, codes (R88, R89). -/
theorem serveClass_cases (l : LaneId) (p : Bytes) (s : State) :
    (classOf (reqIndex p) = none → serveClass l p s = refuseWith .badIndex s) ∧
    (∀ c, classOf (reqIndex p) = some c →
      (s.classLocked c p = true → serveClass l p s = refuseWith .locked s) ∧
      (¬ s.classLocked c p = true → classContent p = none → serveClass l p s = refuseWith .badValue s) ∧
      (¬ s.classLocked c p = true → ∀ w, classContent p = some w →
        serveClass l p s = okWith (tableReply .classTable c.val w.content) (s.writeClass c w))) := by
  unfold serveClass
  refine ⟨fun above => by rw [above], fun c at' => ?_⟩
  rw [at']
  refine ⟨fun locked => if_pos locked, fun free absent => ?_, fun free w carried => ?_⟩
  · exact (if_neg free).trans (by rw [absent])
  · exact (if_neg free).trans (by rw [carried]; rfl)

/-- Everything a CLASS write can do: nothing, or the replacement of a record that is not locked. -/
theorem serveClass_state (l : LaneId) (p : Bytes) (s : State) :
    (serveClass l p s).1 = s ∨ ∃ c w, s.classLocked c p = false ∧ (serveClass l p s).1 = s.writeClass c w := by
  obtain ⟨above, found⟩ := serveClass_cases l p s
  cases hc : classOf (reqIndex p) with
  | none => exact .inl (by rw [above hc]; rfl)
  | some c =>
    obtain ⟨locked, empty, written⟩ := found c hc
    by_cases hl : s.classLocked c p = true
    · exact .inl (by rw [locked hl]; rfl)
    cases hw : classContent p with
    | none => exact .inl (by rw [empty hl hw]; rfl)
    | some w => exact .inr ⟨c, w, Bool.eq_false_iff.mpr hl, by rw [written hl w hw]; rfl⟩

end Sys2Proof.Machine
end

section
/-! PROOFS. The tables are locked while a book is auction-active (R86, R87, R89, R90). -/

namespace Sys2Proof.Machine

/-- What an auction of book `b` holds of the tables from `s` to `t`: the stamping settings, the class records that name
the book, the enabled fields of the entries these name, and the entries themselves where they are enabled. -/
structure State.HoldsTables (s t : State) (b : BookId) : Prop where
  stamping : t.stamping = s.stamping
  record : ∀ c : ClassId, s.classTable[c.val].book = some b → t.classTable[c.val] = s.classTable[c.val]
  entry : ∀ (c : ClassId) (n : EntryId), s.classTable[c.val].book = some b →
    (s.classTable[c.val].anyOf.has n = true ∨ s.classTable[c.val].allOf.has n = true) →
    t.matchTable[n.val].enabled = s.matchTable[n.val].enabled ∧
      (s.matchTable[n.val].enabled = true → t.matchTable[n.val] = s.matchTable[n.val])

theorem State.HoldsTables.of_tables {s t : State} (h : t.tables = s.tables) (b : BookId) : s.HoldsTables t b := by
  obtain ⟨stamping, entries, classes⟩ := State.tables_ext h
  exact ⟨stamping, fun _ _ => by rw [classes], fun _ _ _ _ => by rw [entries]; exact ⟨rfl, fun _ => rfl⟩⟩

/-- A request holds the tables where its judgement does, for the taking and the reply leave them alone (R186, R187). -/
theorem State.HoldsTables.of_request {s t : State} {b : BookId} {row : Instr} {serve : LaneId → Bytes → State → Answer}
    (hb : s.InAuction b) (h : (.next (s.takeRequest row serve) : Result) = .next t)
    (hk : ∀ l p u, State.InAuction u b → State.HoldsTables u (serve l p u).1 b) : s.HoldsTables t b := by
  cases h
  unfold State.takeRequest
  split
  · exact .of_tables rfl b
  · next l frame _ =>
    dsimp only
    split
    · split
      · refine .of_tables ?_ b
        rfl
      · obtain ⟨stamping, record, entry⟩ := hk l (payload frame) (s.popRequest l) hb
        exact ⟨stamping, record, entry⟩
    · exact .of_tables rfl b

/-- The locks of R86 and R87: an entry that is named in an auction keeps its enabled field, and all of itself where it
is enabled. -/
theorem MatchEntry.held_of_unlocked {s : State} {n : EntryId} {p : Bytes} {w : MatchEntry}
    (unlocked : s.entryLocked n p = false) (hw : matchContent p = some w) (auction : s.entryInAuction n = true) :
    w.enabled = s.matchTable[n.val].enabled ∧ (s.matchTable[n.val].enabled = true → w = s.matchTable[n.val]) := by
  obtain ⟨selector, enabled, value, mask⟩ := fields_of_matchContent hw
  obtain ⟨pattern, changes⟩ := Bool.or_eq_false_iff.mp unlocked
  rw [auction, Bool.and_true, MatchEntry.enabledChanges_of_code enabled, bne_eq_false_iff_eq] at changes
  refine ⟨changes, fun on => ?_⟩
  have same := mt (MatchEntry.patternLocked_iff _ p).mpr (Bool.eq_false_iff.mp pattern)
  push Not at same
  obtain ⟨sameSelector, sameValue, sameMask⟩ := same on
  generalize s.matchTable[n.val] = e at *
  obtain ⟨sel, v, m, o⟩ := w
  obtain ⟨sel', v', m', o'⟩ := e
  have code : sel = sel' := Option.some.inj
    (((selectorOf_eq_some_iff _ _).mpr selector).symm.trans ((selectorOf_eq_some_iff _ _).mpr sameSelector))
  dsimp only at *
  subst code value mask changes
  simp [sameValue, sameMask]

theorem serveMatch_holdsTables {b : BookId} (l : LaneId) (p : Bytes) (s : State) (hb : s.InAuction b) :
    s.HoldsTables (serveMatch l p s).1 b := by
  rcases serveMatch_state l p s with same | ⟨n, w, unlocked, hw, written⟩
  · rw [same]
    exact .of_tables rfl b
  rw [written]
  refine ⟨rfl, fun _ _ => rfl, fun c m hc named => ?_⟩
  by_cases hm : n.val = m.val
  · obtain rfl : n = m := Fin.ext hm
    have kept := MatchEntry.held_of_unlocked unlocked hw ((s.entryInAuction_iff n).mpr ⟨c, b, hc, hb, named⟩)
    simpa [State.writeEntry, State.offerTable] using kept
  · simp [State.writeEntry, State.offerTable, hm]

/-- The lock of R89: a record that names the book is not replaced. -/
theorem serveClass_holdsTables {b : BookId} (l : LaneId) (p : Bytes) (s : State) (hb : s.InAuction b) :
    s.HoldsTables (serveClass l p s).1 b := by
  rcases serveClass_state l p s with same | ⟨c, w, unlocked, written⟩
  · rw [same]
    exact .of_tables rfl b
  rw [written]
  refine ⟨rfl, fun d hd => ?_, fun _ _ _ _ => ⟨rfl, fun _ => rfl⟩⟩
  have other : c.val ≠ d.val := by
    intro hcd
    obtain rfl : c = d := Fin.ext hcd
    have inForce := (Bool.or_eq_false_iff.mp unlocked).1
    exact Bool.eq_false_iff.mp inForce ((s.bookAuction_iff _).mpr ⟨b, hd, hb⟩)
  simp [State.writeClass, State.offerTable, other]

/-- The setting lock of R90: in an auction no STAMPING write is applied. -/
theorem stampingTests_holdsTables {b : BookId} {known : Bool} {judge : State → Answer} {p : Bytes} {s : State}
    (hb : s.InAuction b) : s.HoldsTables (stampingTests known judge p s).1 b := by
  obtain ⟨badIndex, locked, -⟩ := stampingTests_cases known judge p s
  by_cases hi : reqIndex p = 0
  · rw [locked hi ⟨b, hb⟩]
    exact .of_tables rfl b
  · rw [badIndex hi]
    exact .of_tables rfl b

/-- In an auction of a book every command but the reset input holds the tables. -/
theorem exec_holdsTables {s t : State} {b : BookId} {c : Instr} (hb : s.InAuction b) (hreset : c ≠ .powerOnReset)
    (h : exec c s = .next t) : s.HoldsTables t b := by
  cases hc : writesTables c with
  | false => exact .of_tables (exec_tables hc h) b
  | true =>
  cases c with
  | powerOnReset => exact absurd rfl hreset
  | tableWriteMatch => exact .of_request hb h serveMatch_holdsTables
  | tableWriteClass => exact .of_request hb h serveClass_holdsTables
  | tableWriteH | tableWriteL | tableWriteDayOrigin | tableWriteEntryFrameType | tableWriteQ =>
    exact .of_request hb h fun _ _ _ => stampingTests_holdsTables
  | _ => cases hc

/-- Settles O59: the writes of the tables are locked, and no other command writes one. -/
theorem tablesLockedInAuction : Obligations.TablesLockedInAuction := by
  intro s t b c n m hb hreset h
  obtain ⟨stamping, record, entry⟩ := exec_holdsTables hb hreset h
  exact ⟨stamping, record n, entry n m⟩

end Sys2Proof.Machine
end

section
/-! PROOFS. The classification of a header (R77, R79, R80). -/

namespace Sys2Proof.Machine

/-! ### Entries -/

/-- A number has no bit below `w` exactly when it is a multiple of 2^w. -/
theorem mod_two_pow_eq_zero_iff (x w : Nat) : x % 2 ^ w = 0 ↔ ∀ i, i < w → x.testBit i = false := by
  constructor
  · intro h i hi
    have bit := Nat.testBit_mod_two_pow x w i
    rw [h, Nat.zero_testBit, decide_eq_true hi, Bool.true_and] at bit
    exact bit.symm
  · intro h
    refine Nat.eq_of_testBit_eq fun i => ?_
    rw [Nat.testBit_mod_two_pow, Nat.zero_testBit, Bool.and_eq_false_iff]
    by_cases hi : i < w
    · exact .inr (h i hi)
    · exact .inl (decide_eq_false hi)

theorem Selector.width_le (sel : Selector) : sel.width ≤ 32 := by
  cases sel <;> decide

/-- An enabled entry matches where its value and the header agree outside the mask, within the selector's width (R77). -/
theorem MatchEntry.hits_iff (e : MatchEntry) (h : EntryHeader) :
    e.hits h = true ↔ e.enabled = true ∧ ∀ i : Nat, i < e.selector.width →
      e.mask.getLsbD i = true ∨ (selectedField h e.selector).testBit i = e.value.getLsbD i := by
  unfold MatchEntry.hits
  rw [Bool.and_eq_true, beq_iff_eq, mod_two_pow_eq_zero_iff]
  refine and_congr_right fun _ => forall₂_congr fun i hi => ?_
  have hi32 : i < 32 := hi.trans_le e.selector.width_le
  rw [BitVec.testBit_toNat]
  simp only [BitVec.getLsbD_and, BitVec.getLsbD_xor, BitVec.getLsbD_not, BitVec.getLsbD_ofNat, hi32, decide_true,
    Bool.true_and]
  cases e.mask.getLsbD i <;> simp

/-! ### Classes -/

/-- A class record matches by its two sets, of which one at least is not empty (R79). -/
theorem ClassRecord.hits_iff (c : ClassRecord) (table : Vector MatchEntry 32) (h : EntryHeader) :
    c.hits table h = true ↔ (c.anyOf ≠ 0 ∨ c.allOf ≠ 0) ∧
      (c.anyOf = 0 ∨ ∃ n : EntryId, c.anyOf.getLsbD n.val = true ∧ table[n.val].hits h = true) ∧
      ∀ n : EntryId, c.allOf.getLsbD n.val = true → table[n.val].hits h = true := by
  simp only [ClassRecord.hits, allEntries, EntrySet.has, Bool.and_eq_true, Bool.or_eq_true, bne_iff_ne, beq_iff_eq,
    List.any_eq_true, List.all_eq_true, List.mem_finRange, true_and, forall_const, Bool.not_eq_true', and_assoc]
  refine and_congr_right fun _ => and_congr_right fun _ => forall_congr' fun n => ?_
  cases c.allOf.getLsbD n.val <;> simp

/-- The classes that a header is tried against, in their order (R80). -/
def triedClasses : List ClassId := (List.finRange 15).map (Fin.castLE (by decide))

theorem mem_triedClasses (c : ClassId) : c ∈ triedClasses ↔ c.val < 15 := by
  revert c
  decide

theorem val_getElem_triedClasses (i : Nat) (h : i < triedClasses.length) : triedClasses[i].val = i := by
  simp [triedClasses]

theorem State.classify_eq (s : State) (h : EntryHeader) :
    s.classify h = (triedClasses.find? fun c => s.classTable[c.val].hits s.matchTable h).getD 15 := rfl

/-- The class found is the first of classes 0 to 14 that is sought. -/
theorem find?_triedClasses_eq_some_iff (p : ClassId → Bool) (c : ClassId) :
    triedClasses.find? p = some c ↔ c.val < 15 ∧ p c = true ∧ ∀ d : ClassId, d.val < c.val → p d = false := by
  have at' (d : ClassId) (hd : d.val < triedClasses.length) : triedClasses[d.val] = d :=
    Fin.ext (val_getElem_triedClasses d.val hd)
  rw [List.find?_eq_some_iff_getElem]
  constructor
  · rintro ⟨hp, i, hi, rfl, first⟩
    rw [val_getElem_triedClasses i hi]
    refine ⟨hi, hp, fun d hd => ?_⟩
    have skipped := first d.val hd
    rwa [at' d (hd.trans hi), Bool.not_eq_true'] at skipped
  · rintro ⟨hc, hp, first⟩
    refine ⟨hp, c.val, hc, at' c hc, fun j hj => ?_⟩
    rw [Bool.not_eq_true']
    exact first _ ((val_getElem_triedClasses j (hj.trans hc)).trans_lt hj)

/-- The class of a header is the first of classes 0 to 14 that matches, or 15 (R80). -/
theorem State.classify_iff (s : State) (h : EntryHeader) :
    (∀ c : ClassId, c.val < 15 → (s.classify h = c ↔ s.classTable[c.val].hits s.matchTable h = true ∧
      ∀ d : ClassId, d.val < c.val → ¬ s.classTable[d.val].hits s.matchTable h = true)) ∧
    (s.classify h = 15 ↔ ∀ c : ClassId, c.val < 15 → ¬ s.classTable[c.val].hits s.matchTable h = true) := by
  rw [s.classify_eq h]
  set found := triedClasses.find? fun c => s.classTable[c.val].hits s.matchTable h with hf
  have isFirst (c : ClassId) := find?_triedClasses_eq_some_iff (fun c => s.classTable[c.val].hits s.matchTable h) c
  have none_iff : found = none ↔ ∀ c : ClassId, c.val < 15 → ¬ s.classTable[c.val].hits s.matchTable h = true := by
    simp only [hf, List.find?_eq_none, mem_triedClasses]
  have default_iff : found.getD 15 = 15 ↔ found = none := by
    refine ⟨fun is15 => ?_, fun unfound => by rw [unfound]; rfl⟩
    cases hc : found with
    | none => rfl
    | some c =>
      obtain ⟨below, -⟩ := (isFirst c).mp hc
      rw [hc] at is15
      rw [show c = 15 from is15] at below
      exact absurd below (by decide)
  refine ⟨fun c hc => ?_, default_iff.trans none_iff⟩
  have some_iff : found.getD 15 = c ↔ found = some c := by
    refine ⟨fun is => ?_, fun isFound => by rw [isFound]; rfl⟩
    cases hd : found with
    | none =>
      rw [hd] at is
      exact absurd hc (by rw [← is]; decide)
    | some d => rw [hd] at is; exact congrArg some is
  rw [some_iff, hf, isFirst, and_iff_right hc]
  simp only [Bool.not_eq_true]

/-- Settles O19: the match of an entry bit by bit, of a record by its sets, and the first record that matches. -/
theorem classificationRule : Obligations.ClassificationRule := by
  intro s h width read hits matching
  have widths (sel : Selector) : width sel = sel.width := by cases sel <;> rfl
  have reads (sel : Selector) : read sel = selectedField h sel := by cases sel <;> rfl
  have entry (n : EntryId) : s.matchTable[n.val].hits h = true ↔ hits n := by
    rw [MatchEntry.hits_iff]
    simp only [hits, widths, reads]
  have record (c : ClassId) : s.classTable[c.val].hits s.matchTable h = true ↔ matching c := by
    rw [ClassRecord.hits_iff]
    simp only [entry, matching]
  simpa only [record] using s.classify_iff h

end Sys2Proof.Machine
end

section
/-! PROOFS. How the writes of the MATCH and CLASS tables are judged and applied (R85 to R89, R92, R189). -/

namespace Sys2Proof.Machine

/-! ### What a CLASS write carries (R88, R89) -/

/-- The book of a CLASS write: none at presence 0, the one named at presence 1 (R88, R200). -/
theorem classBook_of_carried {p : Bytes} {book : Option BookId}
    (h : (book = none ∧ field p 13 1 = 0) ∨ ∃ b, book = some b ∧ field p 13 1 = 1 ∧ field p 14 1 = b.val) :
    classBook p = some book := by
  unfold classBook
  rcases h with ⟨rfl, absent⟩ | ⟨b, rfl, present, number⟩
  · exact if_pos absent
  · rw [if_neg (by omega), if_pos present, number, bookOf_val]
    rfl

/-- A number above 7, or another presence byte, gives no book at all (R88, log 39). -/
theorem classBook_eq_none {p : Bytes} (h : 1 < field p 13 1 ∨ (field p 13 1 = 1 ∧ 7 < field p 14 1)) :
    classBook p = none := by
  unfold classBook
  rcases h with unlisted | ⟨present, above⟩
  · rw [if_neg (by omega), if_neg (by omega)]
  · rw [if_neg (by omega), if_pos present, bookOf_of_le above]
    rfl

/-- The record of a CLASS write whose codes are all listed (R88). -/
theorem classContent_of_codes {p : Bytes} {book : Option BookId} (carried : classBook p = some book)
    (format : field p 15 1 ≤ 1) (delay : field p 16 1 ≤ 7) (admission : field p 17 1 ≤ 1) (late : field p 18 1 ≤ 1) :
    classContent p = some
      { anyOf := BitVec.ofNat 32 (field p 5 4), allOf := BitVec.ofNat 32 (field p 9 4), book := book
        format := if field p 15 1 = 0 then .full else .compact, delayUnits := field p 16 1
        admission := if field p 17 1 = 0 then .accept else .refuse
        lateAction := if field p 18 1 = 0 then .mark else .refuse } := by
  obtain ⟨formatCode, -, -⟩ := classCodes_of_le format
  obtain ⟨-, admissionCode, -⟩ := classCodes_of_le admission
  obtain ⟨-, -, lateCode⟩ := classCodes_of_le late
  unfold classContent
  rw [carried, formatCode, admissionCode, lateCode]
  exact if_pos delay

/-- A CLASS write carries a record only with a book and listed codes (R88). -/
theorem codes_of_classContent {p : Bytes} {w : ClassRecord} (h : classContent p = some w) :
    classBook p ≠ none ∧ field p 15 1 ≤ 1 ∧ field p 16 1 ≤ 7 ∧ field p 17 1 ≤ 1 ∧ field p 18 1 ≤ 1 := by
  unfold classContent at h
  split at h
  · next book format admission late =>
    split at h
    · next delay =>
      refine ⟨by simp [book], not_lt.mp fun above => ?_, delay, not_lt.mp fun above => ?_,
        not_lt.mp fun above => ?_⟩ <;> obtain ⟨noFormat, noAdmission, noLate⟩ := classCodes_of_lt above
      · cases noFormat.symm.trans format
      · cases noAdmission.symm.trans admission
      · cases noLate.symm.trans late
    · cases h
  · cases h

theorem classContent_eq_none {p : Bytes} (h : classBook p = none ∨ 1 < field p 15 1 ∨ 7 < field p 16 1 ∨
    1 < field p 17 1 ∨ 1 < field p 18 1) : classContent p = none := by
  refine Option.eq_none_iff_forall_ne_some.mpr fun w hw => ?_
  obtain ⟨book, format, delay, admission, late⟩ := codes_of_classContent hw
  exact h.elim book (by omega)

/-- The lock of R89 as the statements say it, for a write that carries `book`. -/
theorem State.classLocked_iff (s : State) (c : ClassId) (p : Bytes) :
    s.classLocked c p = true ↔ (∃ b, s.classTable[c.val].book = some b ∧ s.InAuction b) ∨
      ∃ b, (classBook p).getD none = some b ∧ s.InAuction b := by
  rw [State.classLocked, Bool.or_eq_true, State.bookAuction_iff, State.bookAuction_iff]

/-! ### The obligation -/

/-- The locks of a MATCH write as R86 and R87 say them. -/
theorem State.entryLocked_iff (s : State) (n : EntryId) (p : Bytes) :
    let e := s.matchTable[n.val]
    s.entryLocked n p = true ↔
      (e.enabled = true ∧
        (field p 5 1 ≠ e.selector.code ∨ field p 6 4 ≠ e.value.toNat ∨ field p 10 4 ≠ e.mask.toNat)) ∨
      (((field p 14 1 = 0 ∧ e.enabled = true) ∨ (field p 14 1 = 1 ∧ e.enabled = false)) ∧
        ∃ c : ClassId, ∃ b, s.classTable[c.val].book = some b ∧ s.InAuction b ∧
          (s.classTable[c.val].anyOf.has n = true ∨ s.classTable[c.val].allOf.has n = true)) := by
  intro e
  rw [State.entryLocked, Bool.or_eq_true, Bool.and_eq_true, MatchEntry.patternLocked_iff,
    MatchEntry.enabledChanges_iff, State.entryInAuction_iff]

/-- A request of the MATCH row names the MATCH table or no table (R189, log 4). -/
theorem State.Serves.table_of_match {s : State} {l : LaneId} {p : Bytes} (h : s.Serves .tableWriteMatch l p) :
    reqTable p = none ↔ field p 3 1 ≠ 1 := by
  have isRow : writeRow p = .tableWriteMatch :=
    (requestRow_eq_itemWriteRow (by rw [h.2.1]; rfl)).symm.trans h.2.1
  constructor
  · rintro unlisted code
    rw [reqTable, code] at unlisted
    cases unlisted
  · intro code
    refine Option.eq_none_iff_forall_ne_some.mpr fun t ht => code ?_
    obtain rfl := (itemWriteRow_fields p).1 isRow t ht
    unfold reqTable tableOf at ht
    split at ht
    · assumption
    all_goals cases ht

/-- A MATCH write, test by test (R85 to R87). -/
theorem matchWriteJudgement {s : State} {l : LaneId} {p : Bytes} (h : s.Serves .tableWriteMatch l p) :
    (field p 3 1 ≠ 1 → exec .tableWriteMatch s = .next (s.refused l p .badValue)) ∧
    (field p 3 1 = 1 → 32 ≤ field p 4 1 → exec .tableWriteMatch s = .next (s.refused l p .badIndex)) ∧
    ∀ n : EntryId, field p 3 1 = 1 → field p 4 1 = n.val →
      (s.entryLocked n p = true → exec .tableWriteMatch s = .next (s.refused l p .locked)) ∧
      (¬ s.entryLocked n p = true → matchContent p = none →
        exec .tableWriteMatch s = .next (s.refused l p .badValue)) ∧
      (¬ s.entryLocked n p = true → ∀ w, matchContent p = some w → exec .tableWriteMatch s =
        .next (((s.popRequest l).writeEntry n w).replied l p
          (.completed .ok (uField 1 1 ++ uField 1 n.val ++ w.content)))) := by
  obtain ⟨unlisted, above, found⟩ := serveMatch_cases l p (s.popRequest l)
  have listed (code : field p 3 1 = 1) : reqTable p ≠ none :=
    fun unlisted => h.table_of_match.mp unlisted code
  refine ⟨fun code => exec_of_serves rfl h (unlisted (h.table_of_match.mpr code)),
    fun code high => exec_of_serves rfl h (above (listed code) (entryOf_of_le high)), fun n code at' => ?_⟩
  obtain ⟨locked, empty, written⟩ := found (listed code) n (by rw [reqIndex, at', entryOf_val])
  exact ⟨fun hl => exec_of_serves rfl h (locked hl), fun hl absent => exec_of_serves rfl h (empty hl absent),
    fun hl w hw => exec_of_serves rfl h (written hl w hw)⟩

/-- Settles O39: MATCH by table code, entry number, locks and values; CLASS by record number, lock and codes. -/
theorem classificationTableWrites : Obligations.ClassificationTableWrites := by
  constructor
  · intro s l p n h e refusedAs changes turns inAuction locked
    obtain ⟨badValue, badIndex, judged⟩ := matchWriteJudgement h
    have isLocked : s.entryLocked n p = true ↔ locked := s.entryLocked_iff n p
    refine ⟨badValue, badIndex, fun code at' => ?_⟩
    obtain ⟨refusedLocked, empty, written⟩ := judged n code at'
    refine ⟨fun hl => refusedLocked (isLocked.mpr hl),
      fun hl unlisted => empty (mt isLocked.mp hl) (matchContent_of_unlisted unlisted), fun sel on hsel hon hl => ?_⟩
    have content := matchContent_of_codes hsel hon
    intro w
    refine ⟨fun value mask => ?_, fun wide => ?_⟩
    · rw [if_pos ⟨value, mask⟩] at content
      exact written (mt isLocked.mp hl) w content
    · rw [if_neg (by omega)] at content
      exact empty (mt isLocked.mp hl) content
  · intro s l p n book h refusedAs carries noBook heldLocked badCode
    obtain ⟨above, found⟩ := serveClass_cases l p (s.popRequest l)
    have judged (at' : field p 4 1 = n.val) := found n (by rw [reqIndex, at', classOf_val])
    have isLocked : (s.popRequest l).classLocked n p = true ↔ _ := s.classLocked_iff n p
    refine ⟨fun high => exec_of_serves rfl h (above (classOf_of_le high)),
      fun at' held => exec_of_serves rfl h ((judged at').1 (isLocked.mpr (.inl held))),
      fun at' free unnamed => ?noBook, fun at' free carried => ?carries⟩
    case noBook =>
      have noneCarried := classBook_eq_none unnamed
      refine exec_of_serves rfl h ((judged at').2.1 (fun hl => ?_) (classContent_eq_none (.inl noneCarried)))
      rcases isLocked.mp hl with held | ⟨b, hb, -⟩
      · exact free held
      · rw [noneCarried] at hb
        cases hb
    case carries =>
      have bookCarried := classBook_of_carried carried
      rw [bookCarried] at isLocked
      obtain ⟨locked, empty, written⟩ := judged at'
      have unlocked (quiet : ∀ b, book = some b → ¬ s.InAuction b) : ¬ (s.popRequest l).classLocked n p = true :=
        fun hl => (isLocked.mp hl).elim free fun ⟨b, hb, active⟩ => quiet b hb active
      refine ⟨fun active => exec_of_serves rfl h (locked (isLocked.mpr (.inr active))),
        fun quiet bad => exec_of_serves rfl h (empty (unlocked quiet) (classContent_eq_none (.inr bad))),
        fun quiet listed => ?_⟩
      have content := classContent_of_codes bookCarried (by omega) (by omega) (by omega) (by omega)
      exact exec_of_serves rfl h (written (unlocked quiet) _ content)

end Sys2Proof.Machine
end

section
/-! PROOFS. TABLE_READ (R93, R189, R192). -/

namespace Sys2Proof.Machine

/-- The tests of a TABLE_READ in their order: table code, index (R189, R192). -/
theorem exec_tableRead {s : State} {l : LaneId} {p : Bytes} (h : s.Serves .tableRead l p) :
    (reqTable p = none → exec .tableRead s = .next (s.refused l p .badValue)) ∧
    ∀ t : TableId, field p 3 1 = t.code →
      ((s.popRequest l).tableItem t (field p 4 1) = none → exec .tableRead s = .next (s.refused l p .badIndex)) ∧
      ∀ content, (s.popRequest l).tableItem t (field p 4 1) = some content → exec .tableRead s =
        .next ((s.popRequest l).replied l p
          (.completed .ok (uField 1 (field p 3 1) ++ uField 1 (field p 4 1) ++ content))) := by
  refine ⟨fun unlisted => exec_of_serves (serve := serveTableRead) rfl h ?_, fun t code => ?_⟩
  · rw [serveTableRead, unlisted]
    rfl
  have listed : reqTable p = some t := by rw [reqTable, code, tableOf_code]
  refine ⟨fun absent => exec_of_serves (serve := serveTableRead) rfl h ?_,
    fun content item => exec_of_serves (serve := serveTableRead) rfl h ?_⟩ <;>
    rw [serveTableRead, listed]
  · dsimp only
    rw [reqIndex, absent]
    rfl
  · dsimp only
    rw [reqIndex, item, code]
    rfl

/-- The items of the numbered tables, within their range and above it (R192). -/
theorem State.tableItem_entry (s : State) :
    (∀ i, 32 ≤ i → s.tableItem .matchTable i = none) ∧
      ∀ n : EntryId, s.tableItem .matchTable n.val = some s.matchTable[n.val].content :=
  ⟨fun i above => by rw [State.tableItem, entryOf_of_le above]; rfl,
    fun n => by rw [State.tableItem, entryOf_val]; rfl⟩

theorem State.tableItem_class (s : State) :
    (∀ i, 16 ≤ i → s.tableItem .classTable i = none) ∧
      ∀ c : ClassId, s.tableItem .classTable c.val = some s.classTable[c.val].content :=
  ⟨fun i above => by rw [State.tableItem, classOf_of_le above]; rfl,
    fun c => by rw [State.tableItem, classOf_val]; rfl⟩

theorem State.tableItem_lane (s : State) :
    (∀ i, 4 ≤ i → s.tableItem .lane i = none) ∧
      ∀ k : LaneId, s.tableItem .lane k.val = some (s.lane k).tableContent :=
  ⟨fun i above => by rw [State.tableItem, laneOf_of_le above]; rfl,
    fun k => by rw [State.tableItem, laneOf_val]; rfl⟩

/-- Settles O44: table by table, the item where the index is within the table's range. -/
theorem tableReadReturnsItem : Obligations.TableReadReturnsItem := by
  intro s l p h table index answered refusedAs
  obtain ⟨unlisted, listed⟩ := exec_tableRead h
  refine ⟨fun code => unlisted (tableOf_eq_none code), fun code => ?entries, fun code => ?classes, fun code => ?lanes,
    fun code => ?stamping, fun code => ?clock, fun code => ?journal, fun code => ?counters⟩
  case entries =>
    obtain ⟨badIndex, item⟩ := listed .matchTable code
    obtain ⟨absent, found⟩ := (s.popRequest l).tableItem_entry
    exact ⟨fun above => badIndex (absent _ above), fun n at' => item _ ((congrArg _ at').trans (found n))⟩
  case classes =>
    obtain ⟨badIndex, item⟩ := listed .classTable code
    obtain ⟨absent, found⟩ := (s.popRequest l).tableItem_class
    exact ⟨fun above => badIndex (absent _ above), fun n at' => item _ ((congrArg _ at').trans (found n))⟩
  case lanes =>
    obtain ⟨badIndex, item⟩ := listed .lane code
    obtain ⟨absent, found⟩ := (s.popRequest l).tableItem_lane
    exact ⟨fun above => badIndex (absent _ above), fun k at' => item _ ((congrArg _ at').trans (found k))⟩
  case stamping =>
    obtain ⟨badIndex, item⟩ := listed .stamping code
    exact ⟨fun above => badIndex (if_neg above.ne'), fun only => item _ (if_pos only)⟩
  case clock =>
    obtain ⟨badIndex, item⟩ := listed .clock code
    exact ⟨fun above => badIndex (if_neg above.ne'), fun only => item _ (if_pos only)⟩
  case journal =>
    obtain ⟨badIndex, item⟩ := listed .journal code
    exact ⟨fun above => badIndex (if_neg above.ne'), fun only => item _ (if_pos only)⟩
  case counters =>
    obtain ⟨badIndex, item⟩ := listed .counter code
    exact ⟨fun above => badIndex (if_neg (not_le.mpr above)), fun within => item _ (if_pos within)⟩

end Sys2Proof.Machine
end

section
/-! PROOFS. How the JOURNAL settings and the COUNTER items are written (R92, R162, R164, R178, R179, R189). -/

namespace Sys2Proof.Machine

/-! ### JOURNAL (R164) -/

/-- A write of the lane that exports: the index, the setting code, the lane number (R164, R189). -/
theorem serveExportLane_cases (l : LaneId) (p : Bytes) (s : State) :
    (reqIndex p ≠ 0 → serveExportLane l p s = refuseWith .badIndex s) ∧
    (reqIndex p = 0 → settingCode p ≠ 1 ∨ 3 < settingValue p → serveExportLane l p s = refuseWith .badValue s) ∧
    (∀ k : LaneId, reqIndex p = 0 → settingCode p = 1 → settingValue p = k.val →
      serveExportLane l p s = acceptJournal { s.journal with exportLane := k } s) := by
  unfold serveExportLane
  refine ⟨fun other => if_pos other, fun only bad => ?_, fun k only code value => ?_⟩ <;>
    rw [if_neg (not_not_intro only)]
  · by_cases code : settingCode p = 1
    · rw [if_neg (not_not_intro code), laneOf_of_le (by omega)]
    · exact if_pos code
  · rw [if_neg (not_not_intro code), value, laneOf_val]

/-- A write of the flush interval: the index, then the range (R164, R189). -/
theorem serveFlushInterval_cases (l : LaneId) (p : Bytes) (s : State) :
    let v := settingValue p
    (reqIndex p ≠ 0 → serveFlushInterval l p s = refuseWith .badIndex s) ∧
    (reqIndex p = 0 → v < 1 ∨ 1000 < v → serveFlushInterval l p s = refuseWith .badValue s) ∧
    (reqIndex p = 0 → 1 ≤ v → v ≤ 1000 →
      serveFlushInterval l p s = acceptJournal ({ s.journal with flushInterval := v }.setFlush s.lt) s) := by
  intro v
  unfold serveFlushInterval
  refine ⟨fun other => if_pos other, fun only outside => ?_, fun only low high => ?_⟩ <;> dsimp only <;>
    rw [if_neg (not_not_intro only)]
  · exact if_neg (by omega)
  · exact if_pos ⟨low, high⟩

/-! ### What a COUNTER write carries (R178, R207) -/

theorem laneFilterOf_of_byte {b : Nat} {x : Option LaneSet}
    (h : (x = none ∧ b = 255) ∨ ∃ m, x = some m ∧ m ≠ 0 ∧ b = m.toNat) : laneFilterOf b = some x := by
  unfold laneFilterOf
  rcases h with ⟨rfl, any⟩ | ⟨m, rfl, nonempty, rfl⟩
  · exact if_pos any
  · have below : m.toNat < 16 := m.isLt
    have positive : m.toNat ≠ 0 := fun zero => nonempty (BitVec.eq_of_toNat_eq zero)
    rw [if_neg (by omega), if_pos (by omega), BitVec.ofNat_toNat, BitVec.setWidth_eq]

theorem laneFilterOf_eq_none {b : Nat} (h : b = 0 ∨ (15 < b ∧ b < 255)) : laneFilterOf b = none := by
  unfold laneFilterOf
  rw [if_neg (by omega), if_neg (by omega)]

theorem classFilterOf_of_byte {b : Nat} {x : Option ClassId}
    (h : (x = none ∧ b = 255) ∨ ∃ c, x = some c ∧ b = c.val) : classFilterOf b = some x := by
  unfold classFilterOf
  rcases h with ⟨rfl, any⟩ | ⟨c, rfl, rfl⟩
  · exact if_pos any
  · rw [if_neg (by omega), classOf_val]
    rfl

theorem classFilterOf_eq_none {b : Nat} (h : 15 < b ∧ b < 255) : classFilterOf b = none := by
  unfold classFilterOf
  rw [if_neg (by omega), classOf_of_le (by omega)]
  rfl

theorem bookFilterOf_of_byte {b : Nat} {x : Option BookId}
    (h : (x = none ∧ b = 255) ∨ ∃ k, x = some k ∧ b = k.val) : bookFilterOf b = some x := by
  unfold bookFilterOf
  rcases h with ⟨rfl, any⟩ | ⟨k, rfl, rfl⟩
  · exact if_pos any
  · rw [if_neg (by omega), bookOf_val]
    rfl

theorem bookFilterOf_eq_none {b : Nat} (h : 7 < b ∧ b < 255) : bookFilterOf b = none := by
  unfold bookFilterOf
  rw [if_neg (by omega), bookOf_of_le (by omega)]
  rfl

theorem evidenceKindOf_code (k : EvidenceKind) : evidenceKindOf k.code = some k := by
  cases k <;> rfl

theorem evidenceKindOf_eq_none {n : Nat} (h : n < 1 ∨ 16 < n) : evidenceKindOf n = none := by
  unfold evidenceKindOf
  split
  case h_17 => rfl
  all_goals omega

/-- A counter's setting with listed codes, from value 0 (R178). -/
theorem counterOf_of_fields {p : Bytes} {kind : EvidenceKind} {lanes : Option LaneSet} {cls : Option ClassId}
    {book : Option BookId} (hk : field p 5 1 = kind.code) (hl : laneFilterOf (field p 6 1) = some lanes)
    (hc : classFilterOf (field p 7 1) = some cls) (hb : bookFilterOf (field p 8 1) = some book) :
    counterOf p = some ⟨0, kind, lanes, cls, book⟩ := by
  unfold counterOf
  rw [hk, evidenceKindOf_code, hl, hc, hb]

theorem counterOf_eq_none {p : Bytes} (h : evidenceKindOf (field p 5 1) = none ∨ laneFilterOf (field p 6 1) = none ∨
    classFilterOf (field p 7 1) = none ∨ bookFilterOf (field p 8 1) = none) : counterOf p = none := by
  unfold counterOf
  split
  · simp_all
  · rfl

/-- A monitor's setting with listed codes, from values 0 (R178). -/
theorem residenceMonitorOf_of_fields {p : Bytes} {lanes : Option LaneSet} {cls : Option ClassId}
    (hl : laneFilterOf (field p 6 1) = some lanes) (hc : classFilterOf (field p 7 1) = some cls) :
    residenceMonitorOf p = some ⟨lanes, cls, ⟨0, 0, 0⟩⟩ := by
  unfold residenceMonitorOf
  rw [hl, hc]

theorem residenceMonitorOf_eq_none {p : Bytes}
    (h : laneFilterOf (field p 6 1) = none ∨ classFilterOf (field p 7 1) = none) : residenceMonitorOf p = none := by
  unfold residenceMonitorOf
  split
  · simp_all
  · rfl

/-! ### COUNTER (R178, R179) -/

/-- Within its bounds a vector is set as `set` does it. -/
theorem vector_setIfInBounds_of_lt {α : Type} {n i : Nat} (v : Vector α n) (x : α) (h : i < n) :
    v.setIfInBounds i x = v.set i x h :=
  Vector.ext fun j hj => by rw [Vector.getElem_setIfInBounds, Vector.getElem_set]

/-- The write of a counter: its whole setting, or nothing (R178). -/
theorem Evidence.writeItem_counter (u : Evidence) {p : Bytes} {n : Fin 8} (at' : reqIndex p = n.val) :
    u.writeItem p = (counterOf p).map fun c => { u with counters := u.counters.set n.val c } := by
  unfold Evidence.writeItem
  rw [if_pos (by omega)]
  refine congrArg (Option.map · (counterOf p)) (funext fun c => ?_)
  rw [at', vector_setIfInBounds_of_lt _ _ n.isLt]

/-- The write of a residence monitor: its whole setting, or nothing (R178). -/
theorem Evidence.writeItem_monitor (u : Evidence) {p : Bytes} {n : Fin 2} (at' : reqIndex p = 8 + n.val) :
    u.writeItem p = (residenceMonitorOf p).map fun m => { u with monitors := u.monitors.set n.val m } := by
  unfold Evidence.writeItem
  rw [if_neg (by omega)]
  refine congrArg (Option.map · (residenceMonitorOf p)) (funext fun m => ?_)
  rw [at', Nat.add_sub_cancel_left, vector_setIfInBounds_of_lt _ _ n.isLt]

/-- What an accepted COUNTER write comes to: the Evidence Unit written, and the TABLE record with the item (R92). -/
def acceptEvidence (index : Nat) (u : Evidence) (s : State) : Answer :=
  okWith (tableReply .counter index (u.itemContent index))
    ({ s with evidence := u }.offerTable .counter index (u.itemContent index))

/-- A write of a counter or a monitor: the index, then the values (R178). -/
theorem serveCounter_cases (l : LaneId) (p : Bytes) (s : State) :
    (10 < reqIndex p → serveCounter l p s = refuseWith .badIndex s) ∧
    (reqIndex p ≤ 10 → s.evidence.writeItem p = none → serveCounter l p s = refuseWith .badValue s) ∧
    (reqIndex p ≤ 10 → ∀ u, s.evidence.writeItem p = some u → serveCounter l p s = acceptEvidence (reqIndex p) u s) := by
  unfold serveCounter
  refine ⟨fun above => if_pos above, fun within absent => ?_, fun within u carried => ?_⟩ <;>
    rw [if_neg (not_lt.mpr within)]
  · rw [absent]
  · rw [carried]
    rfl

/-- A period of 0 cancels the snapshot expiry (R179). -/
theorem Evidence.writePeriod_zero (u : Evidence) (lt : Nat) :
    u.writePeriod lt 0 = { u with period := 0, snapshotExpiry := none } := rfl

/-- Any other sets it to the next multiple of the period (R179). -/
theorem Evidence.writePeriod_of_pos (u : Evidence) (lt : Nat) {v : Nat} (h : 1 ≤ v) :
    u.writePeriod lt v = { u with
      period := v, snapshotExpiry := some ((lt / (v * 1000000000) + 1) * (v * 1000000000)) } := by
  rw [Evidence.writePeriod, if_neg (Nat.ne_of_gt h)]
  rfl

/-- A write of the snapshot period: the range alone is tested (R178, R179). -/
theorem serveSnapshotPeriod_cases (l : LaneId) (p : Bytes) (s : State) :
    (3600 < field p 5 2 → serveSnapshotPeriod l p s = refuseWith .badValue s) ∧
    (field p 5 2 ≤ 3600 →
      serveSnapshotPeriod l p s = acceptEvidence 10 (s.evidence.writePeriod s.lt (field p 5 2)) s) :=
  ⟨fun above => if_pos above, fun within => if_neg (not_lt.mpr within)⟩

/-- A request of the snapshot period's row names item 10 (R207). -/
theorem State.Serves.index_of_period {s : State} {l : LaneId} {p : Bytes} (h : s.Serves .tableWriteSnapshotPeriod l p) :
    field p 4 1 = 10 :=
  (itemWriteRow_fields p).2 ((requestRow_eq_itemWriteRow (by rw [h.2.1]; rfl)).symm.trans h.2.1)

/-- Settles O43: the two JOURNAL settings, the counters and monitors, and the snapshot period, each by its tests. -/
theorem journalAndCounterWrites : Obligations.JournalAndCounterWrites := by
  intro s row l p h q index v refusedAs journal evidence laneFilter classFilter bookFilter
  refine ⟨?exportLane, ?flushInterval, ?counter, ?period⟩
  case exportLane =>
    rintro rfl
    obtain ⟨badIndex, badValue, written⟩ := serveExportLane_cases l p q
    exact ⟨fun other => exec_of_serves rfl h (badIndex other),
      fun only bad => exec_of_serves rfl h (badValue only bad),
      fun k only code value => exec_of_serves rfl h (written k only code value)⟩
  case flushInterval =>
    rintro rfl
    obtain ⟨badIndex, badValue, written⟩ := serveFlushInterval_cases l p q
    exact ⟨fun other => exec_of_serves rfl h (badIndex other),
      fun only outside => exec_of_serves rfl h (badValue only outside),
      fun only low high => exec_of_serves rfl h (written only low high)⟩
  case counter =>
    rintro rfl
    obtain ⟨badIndex, badValue, written⟩ := serveCounter_cases l p q
    refine ⟨fun above => exec_of_serves rfl h (badIndex above), fun n kind lanes cls book at' hk hl hc hb => ?_,
      fun n lanes cls at' hl hc => ?_, fun below bad => ?_, fun at' bad => ?_⟩
    · have item := q.evidence.writeItem_counter (p := p) at'
      rw [counterOf_of_fields hk (laneFilterOf_of_byte hl) (classFilterOf_of_byte hc) (bookFilterOf_of_byte hb)] at item
      exact exec_of_serves rfl h (written (at'.trans_le (by omega)) _ item)
    · have item := q.evidence.writeItem_monitor (p := p) at'
      rw [residenceMonitorOf_of_fields (laneFilterOf_of_byte hl) (classFilterOf_of_byte hc)] at item
      exact exec_of_serves rfl h (written (at'.trans_le (by omega)) _ item)
    · have item := q.evidence.writeItem_counter (p := p) (n := ⟨index, below⟩) rfl
      have unlisted : counterOf p = none := counterOf_eq_none <| by
        rcases bad with bad | bad | bad | bad | bad | bad
        · exact .inl (evidenceKindOf_eq_none (.inl bad))
        · exact .inl (evidenceKindOf_eq_none (.inr bad))
        · exact .inr (.inl (laneFilterOf_eq_none (.inl bad)))
        · exact .inr (.inl (laneFilterOf_eq_none (.inr bad)))
        · exact .inr (.inr (.inl (classFilterOf_eq_none bad)))
        · exact .inr (.inr (.inr (bookFilterOf_eq_none bad)))
      rw [unlisted] at item
      exact exec_of_serves rfl h (badValue (below.le.trans (by decide)) item)
    · have item := q.evidence.writeItem_monitor (p := p) (n := ⟨index - 8, by omega⟩)
        (show index = 8 + (index - 8) by omega)
      have unlisted : residenceMonitorOf p = none := residenceMonitorOf_eq_none <| by
        rcases bad with bad | bad | bad
        · exact .inl (laneFilterOf_eq_none (.inl bad))
        · exact .inl (laneFilterOf_eq_none (.inr bad))
        · exact .inr (classFilterOf_eq_none bad)
      rw [unlisted] at item
      exact exec_of_serves rfl h (badValue (show index ≤ 10 by omega) item)
  case period =>
    rintro rfl
    obtain ⟨badValue, written⟩ := serveSnapshotPeriod_cases l p q
    have item : index = 10 := h.index_of_period
    have accepted {e : Evidence} (within : field p 5 2 ≤ 3600) (he : q.evidence.writePeriod q.lt (field p 5 2) = e) :
        evidence e := by
      have served := written within
      rw [he, ← item] at served
      exact exec_of_serves rfl h served
    refine ⟨fun above => exec_of_serves rfl h (badValue above), fun zero => accepted (by omega) ?_,
      fun low high => accepted high (q.evidence.writePeriod_of_pos q.lt low)⟩
    rw [zero]
    exact q.evidence.writePeriod_zero q.lt

end Sys2Proof.Machine
end

section
/-! PROOFS. The answers of a book to its queries (R110, R111) and its confirmations (R116, R118). -/

namespace Sys2Proof.Machine

/-- Settles O20: by phase, each branch of the answer at its stamp. -/
theorem gatingAnswerTable : Obligations.GatingAnswerTable := by
  intro b l stamp a d arming draw e byStamp
  refine ⟨rfl, by simp [Book.answer, arming], by simp [Book.answer, arming], fun phase => ?_, fun phase => ?_⟩
  · have early : ¬ (b.phase = .uncross ∨ b.phase = .closed) := by
      rcases phase with phase | phase <;> simp [phase]
    rcases phase with phase | phase <;> simp only [Book.answer, arming, draw, phase] at early ⊢ <;>
      exact if_neg fun both => early both.1
  · have late : ((b.phase = .uncross ∨ b.phase = .closed) ∧
        (b.trigger l = .held ∨ b.trigger l = .released) ∧ stamp < e) =
          ((b.trigger l = .held ∨ b.trigger l = .released) ∧ stamp < e) := by simp [phase]
    have given : b.answer l stamp = if (b.phase = .uncross ∨ b.phase = .closed) ∧
        (b.trigger l = .held ∨ b.trigger l = .released) ∧ stamp < e then .post else byStamp := by
      rcases phase with phase | phase <;> simp only [Book.answer, arming, draw, phase] <;> rfl
    simp only [given, late]

/-! ### Confirmations -/

theorem confirmationOf_eq_none {p : Bytes}
    (h : p.length < 3 ∨ 8 ≤ field p 1 1 ∨ field p 2 1 < 1 ∨ 3 < field p 2 1) : confirmationOf p = none := by
  unfold confirmationOf
  split
  · rfl
  · next long =>
    rcases h with short | index | code
    · exact absurd short long
    · rw [bookOf_of_le index]
    · have unlisted : confirmResultOf (field p 2 1) = none := by
        unfold confirmResultOf
        split
        · omega
        · omega
        · omega
        · rfl
      rw [unlisted]
      split
      · next r => simp_all
      · rfl

theorem confirmationOf_eq_some {p : Bytes} {b : BookId} {r : ConfirmResult} (long : 3 ≤ p.length)
    (index : field p 1 1 = b.val) (code : confirmResultOf (field p 2 1) = some r) :
    confirmationOf p = some (b, r) := by
  rw [confirmationOf, if_neg (by omega), index, bookOf_val, code]

/-- A confirmation that its book does not await is counted (R116). -/
theorem State.confirm_unexpected {s : State} {b : BookId} (r : ConfirmResult) (awaiting : (s.book b).phase ≠ .uncross)
    (done : (s.book b).phase = .closed → (s.book b).result ≠ none) : s.confirm b r = s.unexpectedConfirmation b r := by
  unfold State.confirm
  cases phase : (s.book b).phase with
  | uncross => exact absurd phase awaiting
  | closed =>
    cases result : (s.book b).result with
    | none => exact absurd result (done phase)
    | some _ => rfl
  | idle | armed | call | window | freeze => rfl

/-- Settles O27: the payload names a book and a result or it does not; then by the phase of the book. -/
theorem confirmationByPhase : Obligations.ConfirmationByPhase := by
  intro l f s b r up recognised p k u
  have taken := State.bFrameEnds_of_up up recognised fun t => match confirmationOf (payload f) with
    | none => { t with bookUnit := { t.bookUnit with malformed := bump32 t.bookUnit.malformed } }
    | some (b, r) => t.confirm b r
  refine ⟨fun bad => congrArg Host.Outcome.next (taken.trans (by rw [confirmationOf_eq_none bad]; rfl)),
    fun long index code => ?_⟩
  have listed : confirmResultOf (field p 2 1) = some r := by
    rw [code]
    cases r <;> rfl
  have confirmed : exec (.uncrossDone l f) s = .next (s.confirm b r) :=
    congrArg Host.Outcome.next (taken.trans (by rw [confirmationOf_eq_some long index listed]))
  rw [confirmed]
  refine ⟨fun phase => ?_, fun phase none => ?_, fun awaiting done => ?_⟩
  · simp only [State.confirm, show (s.book b).phase = _ from phase]
    rfl
  · simp only [State.confirm, show (s.book b).phase = _ from phase, show (s.book b).result = _ from none]
  · rw [State.confirm_unexpected r awaiting done]
    rfl

end Sys2Proof.Machine
end

section
/-! PROOFS. The requests of the books: arming, disarming, extension and seed (R97, R98, R108, R112, R113, R119). -/

namespace Sys2Proof.Machine

theorem Book.triggerWaiting_iff (b : Book) :
    b.triggerWaiting = true ↔ ∃ k, b.trigger k = .pending ∨ b.trigger k = .held := by
  simp [Book.triggerWaiting, mem_allLanes]

theorem DisciplineState.traceable_iff (d : DisciplineState) :
    d.traceable = true ↔ d = .locked ∨ d = .holdover := by
  cases d <;> simp [DisciplineState.traceable]

theorem armFieldsBad_iff (p : Bytes) : armFieldsBad p = true ↔
    999 < field p 10 2 ∨ 999 < field p 18 2 ∨ 600000 < field p 20 4 ∨ 10000 < field p 24 2 ∨ field p 26 4 < 100 ∨
      120000 < field p 26 4 ∨ field p 30 1 = 0 ∨ 15 < field p 30 1 := by
  simp [armFieldsBad, or_assoc]

/-! ### BOOK_ARM -/

theorem serveBookArm_badIndex {p : Bytes} (h : 8 ≤ field p 3 1) (l : LaneId) (s : State) :
    serveBookArm l p s = refuseWith .badIndex s := by
  rw [serveBookArm, bookOf_of_le h]

/-- A book in IDLE or CLOSED judges its arming; in another phase it refuses (R97). -/
theorem serveBookArm_of_book {p : Bytes} {b : BookId} (h : field p 3 1 = b.val) (l : LaneId) (s : State) :
    serveBookArm l p s =
      if (s.book b).phase ≠ .idle ∧ (s.book b).phase ≠ .closed then refuseWith .refusedState s else s.judgeArm b p := by
  rw [serveBookArm, h, bookOf_val]
  cases phase : (s.book b).phase <;> simp [phase]

/-- Settles O45: the cases of R97 in order, then the phase by Tc. -/
theorem bookArmJudgement : Obligations.BookArmJudgement := by
  intro s l p b h refusedAs tc tw w d timeout lanes waiting busyPhase traceable outside late a armed
  have book : (s.popRequest l).book b = s.book b := rfl
  have trigger : (s.book b).triggerWaiting = true ↔
      ∃ k, (s.book b).trigger k = .pending ∨ (s.book b).trigger k = .held :=
    Book.triggerWaiting_iff _
  refine ⟨fun bad => exec_of_serves rfl h (serveBookArm_badIndex bad l _), fun index => ?_⟩
  have judged (free : ¬ busyPhase) {t : State} {r : ReplyBody} (k : (s.popRequest l).judgeArm b p = (t, r)) :
      exec .bookArm s = .next (t.replied l p r) :=
    exec_of_serves rfl h (((serveBookArm_of_book index l (s.popRequest l)).trans (if_neg free)).trans k)
  have unwaiting (free : ¬ waiting) : ¬ ((s.book b).phase = .closed ∧ (s.book b).triggerWaiting = true) := by
    rwa [trigger]
  refine ⟨fun busy => exec_of_serves rfl h ((serveBookArm_of_book index l _).trans (if_pos busy)),
    fun free busy => judged free (if_pos ?_), fun free idle no => judged free ?_,
    fun free idle ok bad => judged free ?_, fun free idle ok inside early => ?_⟩
  · rw [book, trigger]
    exact busy
  · have untraceable : s.discipline.state.traceable = false :=
      Bool.eq_false_iff.mpr (mt (DisciplineState.traceable_iff _).mp no)
    exact (if_neg (unwaiting idle)).trans (if_pos (by simp [untraceable]))
  · have known : ¬ (!s.discipline.state.traceable) = true := by
      simpa [DisciplineState.traceable_iff] using ok
    refine ((if_neg (unwaiting idle)).trans (if_neg known)).trans ?_
    by_cases fields : armFieldsBad p = true
    · exact if_pos fields
    · have time : late := bad.resolve_left fun out => fields ((armFieldsBad_iff p).mpr out)
      exact (if_neg fields).trans (if_pos time)
  · have known : ¬ (!s.discipline.state.traceable) = true := by
      simpa [DisciplineState.traceable_iff] using ok
    have fields : ¬ armFieldsBad p = true := fun out => inside ((armFieldsBad_iff p).mp out)
    have accepted : (s.popRequest l).judgeArm b p = (s.popRequest l).arm b a :=
      (((if_neg (unwaiting idle)).trans (if_neg known)).trans (if_neg fields)).trans (if_neg early)
    refine ⟨fun before => judged free (accepted.trans ?_), fun reached => judged free (accepted.trans ?_)⟩
    · rw [State.arm, if_pos (show (s.popRequest l).lt < a.tc from before),
        if_pos (show (s.popRequest l).lt < a.tc from before)]
      rfl
    · rw [State.arm, if_neg (show ¬ (s.popRequest l).lt < a.tc from Nat.not_lt.mpr reached),
        if_neg (show ¬ (s.popRequest l).lt < a.tc from Nat.not_lt.mpr reached)]
      rfl

/-! ### BOOK_DISARM, BOOK_EXTEND and BOOK_SEED -/

theorem serveBookDisarm_badIndex {p : Bytes} (h : 8 ≤ field p 3 1) (l : LaneId) (s : State) :
    serveBookDisarm l p s = refuseWith .badIndex s := by
  rw [serveBookDisarm, bookOf_of_le h]

/-- A disarming is judged by the phase of its book (R119). -/
theorem serveBookDisarm_of_book {p : Bytes} {b : BookId} (h : field p 3 1 = b.val) (l : LaneId) (s : State) :
    serveBookDisarm l p s =
      if (s.book b).phase = .closed ∧ (s.book b).triggerWaiting = true then refuseWith .busy s
      else if (s.book b).phase = .armed ∨ (s.book b).phase = .closed then s.disarm b
      else refuseWith .refusedState s := by
  rw [serveBookDisarm, h, bookOf_val]
  cases phase : (s.book b).phase <;> simp [phase]

theorem serveBookExtend_badIndex {p : Bytes} (h : 8 ≤ field p 3 1) (l : LaneId) (s : State) :
    serveBookExtend l p s = refuseWith .badIndex s := by
  rw [serveBookExtend, bookOf_of_le h]

/-- An extension out of range is refused before the phase is judged (R112). -/
theorem serveBookExtend_of_book {p : Bytes} {b : BookId} (h : field p 3 1 = b.val) (l : LaneId) (s : State) :
    serveBookExtend l p s =
      if field p 4 4 < 1 ∨ 600000 < field p 4 4 then refuseWith .badValue s else s.judgeExtend b (field p 4 4) := by
  rw [serveBookExtend, h, bookOf_val]

theorem State.judgeExtend_of_call {s : State} {b : BookId} {a : Arming} (phase : (s.book b).phase = .call)
    (arming : (s.book b).arming = some a) (ext : Nat) : s.judgeExtend b ext = s.extendCall b a ext := by
  rw [State.judgeExtend, phase, arming]

theorem State.judgeExtend_of_window {s : State} {b : BookId} {a : Arming} {d : Draw}
    (phase : (s.book b).phase = .window) (arming : (s.book b).arming = some a) (draw : (s.book b).draw = some d)
    (ext : Nat) : s.judgeExtend b ext = s.extendWindow b a d ext := by
  rw [State.judgeExtend, phase, arming, draw]

/-- Settles O46: each request by its judgement, case by case. -/
theorem disarmExtendSeed : Obligations.DisarmExtendSeed := by
  intro s l p b a d q k waiting ext applied status
  have trigger : (s.book b).triggerWaiting = true ↔
      ∃ k, (s.book b).trigger k = .pending ∨ (s.book b).trigger k = .held :=
    Book.triggerWaiting_iff _
  refine ⟨fun h => ?_, fun h => ?_, fun h => exec_of_serves rfl h rfl⟩
  · have judged (index : field p 3 1 = b.val) {t : State} {r : ReplyBody}
        (served : (if k.phase = .closed ∧ k.triggerWaiting = true then refuseWith .busy q
          else if k.phase = .armed ∨ k.phase = .closed then q.disarm b else refuseWith .refusedState q) = (t, r)) :
        exec .bookDisarm s = .next (t.replied l p r) :=
      exec_of_serves rfl h ((serveBookDisarm_of_book index l _).trans served)
    have waits : (k.phase = .closed ∧ k.triggerWaiting = true) ↔ waiting := by rw [trigger]
    refine ⟨fun bad => exec_of_serves rfl h (serveBookDisarm_badIndex bad l _),
      fun index busy => judged index (if_pos (waits.mpr busy)), fun index unarmed unclosed => judged index ?_,
      fun index free => judged index ?_⟩
    · exact (if_neg fun both => unclosed both.1).trans (if_neg (not_or.mpr ⟨unarmed, unclosed⟩))
    · have idle : ¬ waiting := by
        rcases free with armed | ⟨-, idle⟩
        · intro both
          exact absurd (armed.symm.trans both.1) (by decide)
        · exact idle
      exact ((if_neg (mt waits.mp idle)).trans (if_pos (free.imp_right And.left))).trans rfl
  · refine ⟨fun bad => exec_of_serves rfl h (serveBookExtend_badIndex bad l _), fun index out =>
      exec_of_serves rfl h ((serveBookExtend_of_book index l _).trans (if_pos out)), fun index low high => ?_⟩
    have judged {t : State} {r : ReplyBody} (served : q.judgeExtend b ext = (t, r)) :
        exec .bookExtend s = .next (t.replied l p r) :=
      exec_of_serves rfl h (((serveBookExtend_of_book index l _).trans (if_neg (by omega))).trans served)
    have book : q.book b = k := rfl
    refine ⟨fun phase => judged ?_, fun phase => judged ?_, fun phase arming => judged ?_,
      fun phase arming draw => judged ?_⟩
    · rcases phase with phase | phase <;> rw [State.judgeExtend, book, phase] <;> rfl
    · rcases phase with phase | phase | phase <;> rw [State.judgeExtend, book, phase] <;> rfl
    · exact (State.judgeExtend_of_call (s := q) phase arming ext).trans rfl
    · exact (State.judgeExtend_of_window (s := q) phase arming draw ext).trans rfl

end Sys2Proof.Machine
end

section
/-! PROOFS. What STATUS_READ tells of the End Generator and of the draws: nothing that is sealed (R95, R107, R196). -/

namespace Sys2Proof.Machine

/-- The content begins with the identity (R196). -/
theorem State.statusContent_eq (s : State) (l : LaneId) :
    s.statusContent l = [0x0A, 0x04, 0x01] ++ (s.statusContent l).drop 3 := by
  simp [State.statusContent]

/-- The draw of a book in CALL or WINDOW is not shown (R95). -/
theorem Book.statusBytes_sealed {b : Book} (phase : b.phase = .call ∨ b.phase = .window) (d : Option Draw) :
    Book.statusBytes { b with draw := d } = b.statusBytes := by
  have hidden (d : Option Draw) : Book.shownDraw { b with draw := d } = none := by
    rcases phase with phase | phase <;> simp [Book.shownDraw, phase]
  have shown : Book.shownDraw { b with draw := d } = b.shownDraw := (hidden d).trans (hidden b.draw).symm
  unfold Book.statusBytes
  rw [shown]
  rfl

/-- The content is of the books as a STATUS_READ shows them, and of the generator only its counts and its flag. -/
theorem State.statusContent_sealed {s : State} {b : BookId}
    (phase : (s.book b).phase = .call ∨ (s.book b).phase = .window) (d : Option Draw) (g : BitVec 32) (l : LaneId) :
    State.statusContent { s.setBook b { s.book b with draw := d } with
      bookUnit := { s.bookUnit with generator := g } } l = s.statusContent l := by
  have books (c : BookId) :
      ((s.setBook b { s.book b with draw := d }).book c).statusBytes = (s.book c).statusBytes := by
    rw [State.book_setBook]
    split
    · next same => rw [same, Book.statusBytes_sealed phase]
    · rfl
  have status : State.bookStatus { s.setBook b { s.book b with draw := d } with
      bookUnit := { s.bookUnit with generator := g } } = s.bookStatus := by
    unfold State.bookStatus
    rw [show (fun c : BookId => (State.book { s.setBook b { s.book b with draw := d } with
      bookUnit := { s.bookUnit with generator := g } } c).statusBytes) = fun c => (s.book c).statusBytes from
      funext books]
  unfold State.statusContent
  rw [status]
  rfl

/-- Two states that serve the same request and show the same get the same reply. -/
theorem exec_statusRead_same {s s' : State} {l : LaneId} {p : Bytes} (h : s.Serves .statusRead l p)
    (h' : s'.Serves .statusRead l p) (same : (s'.popRequest l).statusContent l = (s.popRequest l).statusContent l) :
    ∃ content, exec .statusRead s =
        .next ((s.popRequest l).replied l p (.completed .ok ([0x0A, 0x04, 0x01] ++ content))) ∧
      exec .statusRead s' =
        .next ((s'.popRequest l).replied l p (.completed .ok ([0x0A, 0x04, 0x01] ++ content))) := by
  have served {t : State} (k : t.Serves .statusRead l p) : exec .statusRead t =
      .next ((t.popRequest l).replied l p (.completed .ok ((t.popRequest l).statusContent l))) :=
    exec_of_serves rfl k rfl
  refine ⟨((s.popRequest l).statusContent l).drop 3, ?_⟩
  rw [← State.statusContent_eq]
  exact ⟨served h, (served h').trans (by rw [same])⟩

/-- Settles O52: the content is the same because what is sealed is not shown. -/
theorem statusReadSealsDraws : Obligations.StatusReadSealsDraws := by
  intro s s' l p b g d h sameReply
  refine ⟨fun generator => ?_, fun phase changed => ?_⟩
  · subst generator
    exact exec_statusRead_same h h rfl
  · subst changed
    exact exec_statusRead_same h h (State.statusContent_sealed (s := s.popRequest l) phase d g l)

end Sys2Proof.Machine
end

section
/-! PROOFS. The pending triggers and the TRIGGER entries of a lane, counted by book, and how the placement of triggers
keeps them as the books have them (R115, R129, R139 to R141). -/

namespace Sys2Proof.Machine

/-! ### Triggers of a book in a lane -/

/-- How many pending triggers of the book a lane has (R139). -/
def LaneUnit.pendingOf (u : LaneUnit) (b : BookId) : Nat := u.pendingTriggers.countP fun p => p.book == b

/-- How many TRIGGER entries of the book the lane's hold list has (R129). -/
def LaneUnit.heldOf (u : LaneUnit) (b : BookId) : Nat := u.hold.countP (HoldEntry.isTriggerOf b)

/-- The lane holds the triggers of the book that its trigger state names (R115). -/
def LaneUnit.Matches (u : LaneUnit) (b : BookId) (t : TriggerState) : Prop :=
  u.pendingOf b = (if t = .pending then 1 else 0) ∧ u.heldOf b = if t = .held then 1 else 0

/-- The phases in which a book may have triggers: from its uncross on (R98, R103). -/
def Phase.hasTriggers (p : Phase) : Prop := p = .uncross ∨ p = .closed

theorem State.triggersMatch_iff (s : State) : s.TriggersMatch ↔ ∀ l b,
    (s.lane l).Matches b ((s.book b).trigger l) ∧
      (¬ (s.book b).phase.hasTriggers → (s.book b).trigger l = .none) := by
  simp only [State.TriggersMatch, LaneUnit.Matches, LaneUnit.pendingOf, LaneUnit.heldOf, Phase.hasTriggers, not_or,
    and_assoc, and_imp, ne_eq]

/-- Whether the body is a TRIGGER of the book. -/
def HoldBody.isTriggerOf (b : BookId) : HoldBody → Bool
  | .frame _ => false
  | .trigger c _ => c == b

theorem HoldEntry.isTriggerOf_eq (b : BookId) (e : HoldEntry) : e.isTriggerOf b = e.body.isTriggerOf b := by
  unfold HoldEntry.isTriggerOf HoldBody.isTriggerOf
  cases e.body <;> rfl

/-- How many TRIGGER entries of a book a list has depends on its bodies alone. -/
theorem LaneUnit.heldOf_eq (u : LaneUnit) (b : BookId) :
    u.heldOf b = (bodies u.hold).countP fun x => x.1.isTriggerOf b := by
  rw [LaneUnit.heldOf, bodies, List.countP_map]
  exact List.countP_congr fun e _ => by simp [HoldEntry.isTriggerOf_eq]

theorem LaneUnit.heldOf_of_bodies {u v : LaneUnit} (h : bodies v.hold = bodies u.hold) (b : BookId) :
    v.heldOf b = u.heldOf b := by
  rw [LaneUnit.heldOf_eq, LaneUnit.heldOf_eq, h]

/-- A pending trigger of a book is one of those counted. -/
theorem LaneUnit.Matches.pending_of_mem {u : LaneUnit} {p : PendingTrigger} {t : TriggerState}
    (h : u.Matches p.book t) (hp : p ∈ u.pendingTriggers) : t = .pending := by
  by_contra other
  have none : u.pendingOf p.book = 0 := h.1.trans (if_neg other)
  exact absurd (beq_self_eq_true p.book) (List.countP_eq_zero.mp none p hp)

/-- Pending triggers that match the books are of different books. -/
theorem LaneUnit.nodup_of_matches {u : LaneUnit} {states : BookId → TriggerState} (h : ∀ b, u.Matches b (states b)) :
    (u.pendingTriggers.map PendingTrigger.book).Nodup := by
  refine List.nodup_iff_count_le_one.mpr fun b => ?_
  have count : (u.pendingTriggers.map PendingTrigger.book).count b = u.pendingOf b := List.countP_map
  rw [count, (h b).1]
  split <;> omega

/-- The books are the eight there are, so a lane whose triggers match them holds eight at most (R129). -/
theorem triggerCount_le_of_heldOf {u : LaneUnit} (h : ∀ b, u.heldOf b ≤ 1) : triggerCount u.hold ≤ 8 := by
  have split : triggerCount u.hold = ∑ b : BookId, u.heldOf b := by
    simp only [triggerCount, LaneUnit.heldOf]
    induction u.hold with
    | nil => simp
    | cons e rest ih =>
      have one : (if (!e.isFrame) = true then 1 else 0) = ∑ b : BookId, if e.isTriggerOf b = true then 1 else 0 := by
        unfold HoldEntry.isFrame HoldEntry.isTriggerOf
        cases e.body <;> simp
      simp only [List.countP_cons, Finset.sum_add_distrib, ih, one]
  calc triggerCount u.hold = ∑ b : BookId, u.heldOf b := split
    _ ≤ ∑ _b : BookId, 1 := Finset.sum_le_sum fun b _ => h b
    _ = 8 := by simp

/-! ### Placements -/

/-- The trigger states after a placement: HELD for the lane and the book of the trigger, and no other one changes
(R141). -/
theorem State.placeTrigger_trigger (s : State) (l k : LaneId) (p : PendingTrigger) (b : BookId) :
    ((s.placeTrigger l p).book b).trigger k = if k = l ∧ b = p.book then .held else (s.book b).trigger k := by
  have set : (s.placeTrigger l p).book b = if b = p.book then (s.book p.book).setTrigger l .held else s.book b :=
    State.book_setBook ..
  rw [set]
  by_cases hb : b = p.book
  · subst hb
    by_cases hk : k = l
    · simp [hk]
    · simp [hk]
  · simp [hb]

/-- The trigger states after several placements. -/
theorem State.foldl_placeTrigger_trigger (ps : List PendingTrigger) (s : State) (l k : LaneId) (b : BookId) :
    ((ps.foldl (fun s p => s.placeTrigger l p) s).book b).trigger k =
      if k = l ∧ ps.any (fun p => p.book == b) = true then .held else (s.book b).trigger k := by
  induction ps generalizing s with
  | nil => simp
  | cons p ps ih =>
    rw [List.foldl_cons, ih, State.placeTrigger_trigger, List.any_cons]
    by_cases hk : k = l
    · by_cases hb : p.book = b
      · simp [hk, hb]
      · simp [hk, hb, Ne.symm hb]
    · simp [hk]

/-- What the placement of one trigger does to the triggers of its lane. -/
theorem State.placeTrigger_counts (s : State) (l : LaneId) (p : PendingTrigger) (b : BookId) :
    ((s.placeTrigger l p).lane l).pendingOf b = (if b = p.book then 0 else (s.lane l).pendingOf b) ∧
      ((s.placeTrigger l p).lane l).heldOf b = (s.lane l).heldOf b + if b = p.book then 1 else 0 := by
  obtain ⟨joined, left, -, -⟩ := s.placeTrigger_spec l p
  constructor
  · rw [LaneUnit.pendingOf, left, List.countP_filter]
    split
    · next same =>
      subst same
      exact List.countP_eq_zero.mpr fun q _ => by simp
    · next other =>
      refine List.countP_congr fun q _ => ?_
      simp only [Bool.and_eq_true, beq_iff_eq, bne_iff_ne]
      exact ⟨fun h => h.1, fun h => ⟨h, fun e => other (h.symm.trans e)⟩⟩
  · rw [LaneUnit.heldOf_eq, LaneUnit.heldOf_eq, joined, List.countP_append, List.countP_singleton]
    simp only [HoldBody.isTriggerOf, beq_iff_eq, eq_comm (a := p.book)]

theorem State.placeTrigger_lane_of_ne (s : State) {l k : LaneId} (h : k ≠ l) (p : PendingTrigger) :
    (s.placeTrigger l p).lane k = s.lane k :=
  (State.judgeWaits_lane_other _ h).trans (State.lane_setLane_of_ne _ _ h)

/-- The placement of a pending trigger keeps the lanes as the books have them (R115, R141). -/
theorem State.TriggersMatch.placeTrigger {s : State} (h : s.TriggersMatch) {l : LaneId} {p : PendingTrigger}
    (hp : p ∈ (s.lane l).pendingTriggers) : (s.placeTrigger l p).TriggersMatch := by
  rw [State.triggersMatch_iff] at h ⊢
  intro k b
  obtain ⟨counts, early⟩ := h k b
  have phase : ((s.placeTrigger l p).book b).phase = (s.book b).phase :=
    Book.phase_of_withoutTriggers (s.placeTrigger_withoutTriggers l p b)
  rw [phase, State.placeTrigger_trigger]
  by_cases hk : k = l
  · subst hk
    obtain ⟨pending, held⟩ := s.placeTrigger_counts k p b
    by_cases hb : b = p.book
    · subst hb
      have was := counts.pending_of_mem hp
      rw [if_pos ⟨rfl, rfl⟩]
      refine ⟨⟨by simp [pending], ?_⟩, fun none => absurd (was.symm.trans (early none)) (by decide)⟩
      rw [held, counts.2, was]
      simp
    · rw [if_neg (fun both => hb both.2)]
      refine ⟨⟨by rw [pending, if_neg hb, counts.1], ?_⟩, early⟩
      rw [held, if_neg hb, counts.2, Nat.add_zero]
  · rw [if_neg (fun both => hk both.1), State.placeTrigger_lane_of_ne s hk]
    exact ⟨counts, early⟩

/-- Pending triggers of different books, placed one after another, keep the lanes as the books have them. -/
theorem State.TriggersMatch.foldl_placeTrigger (ps : List PendingTrigger) {s : State} (h : s.TriggersMatch) {l : LaneId}
    (pending : ∀ p ∈ ps, p ∈ (s.lane l).pendingTriggers) (nodup : (ps.map PendingTrigger.book).Nodup) :
    (ps.foldl (fun s p => s.placeTrigger l p) s).TriggersMatch := by
  induction ps generalizing s with
  | nil => exact h
  | cons p ps ih =>
    obtain ⟨alone, nodup⟩ := List.nodup_cons.mp nodup
    refine ih (h.placeTrigger (pending p List.mem_cons_self)) (fun q hq => ?_) nodup
    obtain ⟨-, left, -, -⟩ := s.placeTrigger_spec l p
    rw [left, List.mem_filter]
    refine ⟨pending q (List.mem_cons_of_mem _ hq), ?_⟩
    simpa using fun same : q.book = p.book => alone (List.mem_map.mpr ⟨q, hq, same⟩)

/-- A placement test keeps the lanes as the books have them (R115, R140). -/
theorem State.TriggersMatch.placementTest {s : State} (h : s.TriggersMatch) (l : LaneId) :
    (s.placementTest l).TriggersMatch := by
  refine h.foldl_placeTrigger _ (fun p hp => List.mem_of_mem_filter hp) ?_
  have matching (b : BookId) := ((s.triggersMatch_iff.mp h) l b).1
  exact (LaneUnit.nodup_of_matches matching).sublist (List.filter_sublist.map _)

/-- The trigger states after a placement test (R140, R141). -/
theorem State.placementTest_trigger (s : State) (l k : LaneId) (b : BookId) :
    ((s.placementTest l).book b).trigger k =
      if k = l ∧ ((s.lane l).pendingTriggers.filter (s.placeable l)).any (fun p => p.book == b) = true then .held
      else (s.book b).trigger k :=
  State.foldl_placeTrigger_trigger ..

/-! ### Trigger requests -/

theorem insertTrigger_perm (p : PendingTrigger) (ps : List PendingTrigger) : (insertTrigger p ps).Perm (p :: ps) := by
  induction ps with
  | nil => exact .refl _
  | cons q ps ih =>
    unfold insertTrigger
    split
    · exact .refl _
    · exact (ih.cons q).trans (.swap p q ps)

/-- The lane that has taken the trigger request of a book, before its placement test (R139). -/
def LaneUnit.asked (u : LaneUnit) (lt : Nat) (b : BookId) (endInstant : Nat) : LaneUnit :=
  { u with
    pendingTriggers := insertTrigger ⟨b, endInstant, placementExpiryAt lt endInstant u.cLane⟩
      (u.pendingTriggers.filter fun q => q.book != b) }

/-- The state whose book `b` has sent lane `l` its trigger request, before the placement test (R103, R139). -/
def State.askTrigger (s : State) (b : BookId) (endInstant : Nat) (l : LaneId) : State :=
  (s.setBook b ((s.book b).setTrigger l .pending)).setLane l ((s.lane l).asked s.lt b endInstant)

theorem State.sendTrigger_eq (s : State) (b : BookId) (endInstant : Nat) (l : LaneId) :
    s.sendTrigger b endInstant l = (s.askTrigger b endInstant l).placementTest l := rfl

/-- The pending triggers of a lane that was asked: one of the book, and those of the others as before (R139). -/
theorem LaneUnit.asked_pendingOf (u : LaneUnit) (lt : Nat) (b c : BookId) (endInstant : Nat) :
    (u.asked lt b endInstant).pendingOf c = if c = b then 1 else u.pendingOf c := by
  rw [LaneUnit.pendingOf, LaneUnit.asked, (insertTrigger_perm _ _).countP_eq, List.countP_cons, List.countP_filter]
  by_cases h : c = b
  · subst h
    rw [List.countP_eq_zero.mpr fun q _ => by simp]
    simp
  · rw [if_neg h, if_neg (by simpa using Ne.symm h), Nat.add_zero]
    refine List.countP_congr fun q _ => ?_
    simp only [Bool.and_eq_true, beq_iff_eq, bne_iff_ne]
    exact ⟨fun both => both.1, fun same => ⟨same, fun e => h (same.symm.trans e)⟩⟩

theorem State.askTrigger_trigger (s : State) (b c : BookId) (endInstant : Nat) (l k : LaneId) :
    ((s.askTrigger b endInstant l).book c).trigger k =
      if k = l ∧ c = b then .pending else (s.book c).trigger k := by
  have set : (s.askTrigger b endInstant l).book c = if c = b then (s.book b).setTrigger l .pending else s.book c :=
    State.book_setBook ..
  rw [set]
  by_cases hc : c = b
  · subst hc
    by_cases hk : k = l <;> simp [hk]
  · simp [hc]

theorem State.askTrigger_phase (s : State) (b c : BookId) (endInstant : Nat) (l : LaneId) :
    ((s.askTrigger b endInstant l).book c).phase = (s.book c).phase := by
  have set : (s.askTrigger b endInstant l).book c = if c = b then (s.book b).setTrigger l .pending else s.book c :=
    State.book_setBook ..
  rw [set]
  split
  · next same => rw [same]; rfl
  · rfl

/-- A trigger request of a book in UNCROSS that had no trigger in the lane keeps the lanes as the books have them
(R103, R115). -/
theorem State.TriggersMatch.askTrigger {s : State} (h : s.TriggersMatch) {b : BookId} {l : LaneId}
    (phase : (s.book b).phase.hasTriggers) (unasked : (s.book b).trigger l = .none) (endInstant : Nat) :
    (s.askTrigger b endInstant l).TriggersMatch := by
  rw [State.triggersMatch_iff] at h ⊢
  intro k c
  obtain ⟨⟨pending, held⟩, early⟩ := h k c
  have lane : (s.askTrigger b endInstant l).lane k = if k = l then (s.lane l).asked s.lt b endInstant else s.lane k :=
    State.lane_setLane ..
  rw [State.askTrigger_phase, State.askTrigger_trigger, lane]
  by_cases hk : k = l
  · subst hk
    rw [if_pos rfl]
    by_cases hc : c = b
    · subst hc
      rw [if_pos ⟨rfl, rfl⟩]
      refine ⟨⟨by rw [LaneUnit.asked_pendingOf, if_pos rfl]; rfl, ?_⟩, fun no => absurd phase no⟩
      rw [unasked] at held
      exact held
    · rw [if_neg (fun both => hc both.2)]
      exact ⟨⟨by rw [LaneUnit.asked_pendingOf, if_neg hc, pending], held⟩, early⟩
  · rw [if_neg hk, if_neg (fun both => hk both.1)]
    exact ⟨⟨pending, held⟩, early⟩

/-- The trigger states after a request: PENDING, or HELD at once, for the lane and the book; another book's may become
HELD for the lane, and none changes for another lane (R103, R139, R140). -/
theorem State.sendTrigger_trigger (s : State) (b : BookId) (endInstant : Nat) (l : LaneId) :
    (((s.sendTrigger b endInstant l).book b).trigger l = .pending ∨
      ((s.sendTrigger b endInstant l).book b).trigger l = .held) ∧
    ∀ k c, k ≠ l → ((s.sendTrigger b endInstant l).book c).trigger k = (s.book c).trigger k := by
  rw [State.sendTrigger_eq]
  refine ⟨?_, fun k c hk => ?_⟩
  · rw [State.placementTest_trigger]
    split
    · exact .inr rfl
    · rw [State.askTrigger_trigger, if_pos ⟨rfl, rfl⟩]
      exact .inl rfl
  · rw [State.placementTest_trigger, if_neg (fun both => hk both.1), State.askTrigger_trigger,
      if_neg (fun both => hk both.1)]

/-- The trigger requests of a book in UNCROSS to lanes in which it has none keep the lanes as the books have them. -/
theorem State.TriggersMatch.sendTriggers (ls : List LaneId) (nodup : ls.Nodup) {s : State} (h : s.TriggersMatch)
    {b : BookId} (phase : (s.book b).phase.hasTriggers) (unasked : ∀ l ∈ ls, (s.book b).trigger l = .none)
    (endInstant : Nat) : (ls.foldl (fun t l => t.sendTrigger b endInstant l) s).TriggersMatch := by
  induction ls generalizing s with
  | nil => exact h
  | cons l ls ih =>
    obtain ⟨alone, nodup⟩ := List.nodup_cons.mp nodup
    have sent : (s.sendTrigger b endInstant l).TriggersMatch :=
      (h.askTrigger phase (unasked l List.mem_cons_self) endInstant).placementTest l
    refine ih nodup sent ?_ fun k hk => ?_
    · rwa [Book.phase_of_withoutTriggers (s.sendTrigger_withoutTriggers b b endInstant l)]
    · rw [(s.sendTrigger_trigger b endInstant l).2 k b fun same => alone (same ▸ hk)]
      exact unasked k (List.mem_cons_of_mem _ hk)

end Sys2Proof.Machine
end

section
/-! PROOFS. What the shared operations keep of the lanes and the books: the capacities of the lanes, their triggers, and
the draws of the books (R101, R115, R125, R129, R134, R145 to R147, R184, R185). -/

namespace Sys2Proof.Machine

/-! ### Lanes within their capacities -/

/-- The lane `v` is within its capacities where `u` was, and has no more replies waiting. -/
structure LaneUnit.Within (u v : LaneUnit) : Prop where
  fits : u.Fits → v.Fits
  replies : v.replies.length ≤ u.replies.length

theorem LaneUnit.Within.refl (u : LaneUnit) : u.Within u := ⟨id, le_rfl⟩

theorem LaneUnit.Within.trans {u v w : LaneUnit} (h : u.Within v) (k : v.Within w) : u.Within w :=
  ⟨k.fits ∘ h.fits, k.replies.trans h.replies⟩

/-- Placed triggers take no place that is limited: the room of a hold list is counted by its frames (R129). -/
theorem LaneUnit.Placed.within {u v : LaneUnit} (h : u.Placed v) : u.Within v := by
  obtain ⟨⟨added, joined, triggers⟩, rest⟩ := h
  have count (hold : List HoldEntry) : frameCount hold = (bodies hold).countP fun x => match x.1 with
      | .frame _ => true
      | .trigger _ _ => false := by
    rw [bodies, List.countP_map]
    rfl
  have none : (added.countP fun x => match x.1 with
      | .frame _ => true
      | .trigger _ _ => false) = 0 := by
    refine List.countP_eq_zero.mpr fun x hx => ?_
    obtain ⟨b, i, body⟩ := triggers x hx
    simp [body]
  have frames : frameCount v.hold = frameCount u.hold := by
    rw [count, count, joined, List.countP_append, none, Nat.add_zero]
  rw [rest]
  refine ⟨fun fits => ?_, le_rfl⟩
  unfold LaneUnit.Fits at fits ⊢
  rwa [frames]

/-- The lane `v` is within its capacities where `u` was, with the same triggers. -/
structure LaneUnit.Steady (u v : LaneUnit) : Prop extends u.Within v where
  triggers : ∀ b, v.pendingOf b = u.pendingOf b ∧ v.heldOf b = u.heldOf b

theorem LaneUnit.Steady.refl (u : LaneUnit) : u.Steady u := ⟨.refl u, fun _ => ⟨rfl, rfl⟩⟩

/-- A lane whose triggers have not changed, and whose replies are as many. -/
theorem LaneUnit.Steady.of_same {u v : LaneUnit} (fits : u.Fits → v.Fits)
    (replies : v.replies.length = u.replies.length) (pending : v.pendingTriggers = u.pendingTriggers)
    (hold : v.hold = u.hold) : u.Steady v :=
  ⟨⟨fits, replies.le⟩, fun b => by simp [LaneUnit.pendingOf, LaneUnit.heldOf, pending, hold]⟩

/-- The parts of a lane that are limited, with its triggers. -/
def LaneUnit.counted (u : LaneUnit) :=
  (u.hold, u.pendingTriggers, u.credits, u.notices, u.reports, u.requests, u.replies, u.engineWait, u.noticeShare)

theorem LaneUnit.Steady.of_counted {u v : LaneUnit} (same : v.counted = u.counted) : u.Steady v := by
  simp only [LaneUnit.counted, Prod.mk.injEq] at same
  obtain ⟨hold, pending, credits, notices, reports, requests, replies, wait, share⟩ := same
  refine .of_same (fun fits => ?_) (by rw [replies]) pending hold
  unfold LaneUnit.Fits at fits ⊢
  rwa [hold, credits, notices, reports, requests, replies, wait, share]

/-- Marks of waits are not counted (R133). -/
theorem LaneUnit.Steady.of_bodies {u v : LaneUnit} (same : bodies v.hold = bodies u.hold)
    (rest : v = { u with hold := v.hold }) : u.Steady v := by
  have frames : frameCount v.hold = frameCount u.hold := frameCount_of_bodies same
  refine ⟨⟨fun fits => ?_, by rw [rest]⟩, fun b => ⟨by rw [rest]; rfl, LaneUnit.heldOf_of_bodies same b⟩⟩
  rw [rest]
  unfold LaneUnit.Fits at fits ⊢
  rwa [frames]

/-! ### What is kept -/

/-- From `s` to `t` the lanes stay within their capacities, no reply queue grows, and the triggers stay as the books
have them. -/
structure State.LanesSound (s t : State) : Prop where
  lanes : ∀ k, (s.lane k).Within (t.lane k)
  triggers : s.TriggersMatch → t.TriggersMatch

/-- With that, a book after its draw keeps the draw and its place among the phases before its close (R101, R106). -/
structure State.Sound (s t : State) : Prop extends s.LanesSound t where
  draws : ∀ b, (s.book b).phase.drawn → (t.book b).phase.drawn ∧ (t.book b).draw = (s.book b).draw

theorem State.LanesSound.trans {s t u : State} (h : s.LanesSound t) (k : t.LanesSound u) : s.LanesSound u :=
  ⟨fun l => (h.lanes l).trans (k.lanes l), k.triggers ∘ h.triggers⟩

theorem State.Sound.trans {s t u : State} (h : s.Sound t) (k : t.Sound u) : s.Sound u := by
  refine ⟨h.toLanesSound.trans k.toLanesSound, fun b drawn => ?_⟩
  obtain ⟨still, same⟩ := h.draws b drawn
  obtain ⟨after, equal⟩ := k.draws b still
  exact ⟨after, equal.trans same⟩

/-- Where no book changes, steady lanes are all there is to show. -/
theorem State.Sound.of_lanes {s t : State} (lanes : ∀ k, (s.lane k).Steady (t.lane k)) (books : t.books = s.books) :
    s.Sound t := by
  have book (b : BookId) : t.book b = s.book b := by simp [State.book, books]
  refine ⟨⟨fun k => (lanes k).toWithin, fun matching => ?_⟩, fun b drawn => ?_⟩
  · rw [State.triggersMatch_iff] at matching ⊢
    intro l b
    obtain ⟨pending, held⟩ := (lanes l).triggers b
    rw [LaneUnit.Matches, book, pending, held]
    exact matching l b
  · rw [book]
    exact ⟨drawn, rfl⟩

theorem State.Sound.of_same {s t : State} (lanes : t.lanes = s.lanes) (books : t.books = s.books) :
    s.Sound t := by
  refine .of_lanes (fun k => ?_) books
  have lane : t.lane k = s.lane k := by simp [State.lane, lanes]
  rw [lane]
  exact .refl _

theorem State.Sound.refl (s : State) : s.Sound s := .of_same rfl rfl

theorem State.Sound.foldl {α : Type} {f : State → α → State} (h : ∀ (t : State) (a : α), t.Sound (f t a)) (s : State)
    (as : List α) : s.Sound (as.foldl f s) := by
  induction as generalizing s with
  | nil => exact .refl s
  | cons a as ih => exact (h s a).trans (ih _)

theorem State.raise_sound (s : State) (e : EvidenceEvent) : s.Sound (s.raise e) := .of_same rfl rfl

theorem State.offer_sound (s : State) (r : RecordBody) : s.Sound (s.offer r) := .of_same rfl rfl

theorem State.offerLane_sound (s : State) (l : LaneId) (e : LaneEvent) : s.Sound (s.offerLane l e) := .of_same rfl rfl

theorem State.setLane_sound (s : State) (l : LaneId) {u : LaneUnit} (h : (s.lane l).Steady u) :
    s.Sound (s.setLane l u) := by
  refine .of_lanes (fun k => ?_) rfl
  rw [State.lane_setLane]
  split
  · next same => rw [same]; exact h
  · exact .refl _

/-- A lane may take any change of what is not counted. -/
theorem State.setLane_counted_sound (s : State) (l : LaneId) {u : LaneUnit} (same : u.counted = (s.lane l).counted) :
    s.Sound (s.setLane l u) :=
  s.setLane_sound l (.of_counted same)

theorem State.setLane_same_sound (s : State) (l : LaneId) {u : LaneUnit} (fits : (s.lane l).Fits → u.Fits)
    (replies : u.replies.length = (s.lane l).replies.length)
    (pending : u.pendingTriggers = (s.lane l).pendingTriggers) (hold : u.hold = (s.lane l).hold) :
    s.Sound (s.setLane l u) :=
  s.setLane_sound l (.of_same fits replies pending hold)

/-- A book may change all but its trigger states where it does not go back before its uncross. -/
theorem State.setBook_lanesSound (s : State) (b : BookId) {k : Book} (triggers : k.triggers = (s.book b).triggers)
    (phase : (s.book b).phase.hasTriggers → k.phase.hasTriggers) : s.LanesSound (s.setBook b k) := by
  refine ⟨fun _ => .refl _, fun matching => ?_⟩
  rw [State.triggersMatch_iff] at matching ⊢
  intro l c
  rw [State.lane_setBook, State.book_setBook]
  split
  · next same =>
    subst same
    obtain ⟨counts, early⟩ := matching l c
    have state : k.trigger l = (s.book c).trigger l := by rw [Book.trigger, Book.trigger, triggers]
    rw [state]
    exact ⟨counts, fun before => early (mt phase before)⟩
  · exact matching l c

/-- The draws after a change of one book. -/
theorem State.setBook_draws (s : State) (b : BookId) {k : Book}
    (h : (s.book b).phase.drawn → k.phase.drawn ∧ k.draw = (s.book b).draw) (c : BookId)
    (drawn : (s.book c).phase.drawn) :
    ((s.setBook b k).book c).phase.drawn ∧ ((s.setBook b k).book c).draw = (s.book c).draw := by
  rw [State.book_setBook]
  split
  · next same => subst same; exact h drawn
  · exact ⟨drawn, rfl⟩

/-- The draws stay where the books change in their trigger states alone. -/
theorem State.draws_of_withoutTriggers {s t : State}
    (h : ∀ b, (t.book b).withoutTriggers = (s.book b).withoutTriggers) (b : BookId) (drawn : (s.book b).phase.drawn) :
    (t.book b).phase.drawn ∧ (t.book b).draw = (s.book b).draw :=
  ⟨by rwa [Book.phase_of_withoutTriggers (h b)], congrArg (fun x => x.2.2.1) (h b)⟩

/-! ### Lanes -/

theorem State.judgeWaits_sound (s : State) (l : LaneId) : s.Sound (s.judgeWaits l) := by
  refine .of_lanes (fun k => ?_) rfl
  by_cases hk : k = l
  · subst hk
    obtain ⟨rest, same⟩ := s.judgeWaits_lane k
    exact .of_bodies same rest
  · rw [State.judgeWaits_lane_other s hk]
    exact .refl _

theorem State.placementTest_sound (s : State) (l : LaneId) : s.Sound (s.placementTest l) :=
  ⟨⟨fun k => (s.placementTest_placed l k).within, fun h => h.placementTest l⟩,
    State.draws_of_withoutTriggers (s.placementTest_withoutTriggers l)⟩

theorem State.countLane_sound (s : State) (l : LaneId) (f : LaneCounts → LaneCounts) : s.Sound (s.countLane l f) :=
  s.setLane_counted_sound l (by rfl)

/-- A completed reply keeps its place (R185). -/
theorem State.completeReply_sound (s : State) (l : LaneId) (c : LaneCommand) (st : Status) (content : Bytes) :
    s.Sound (s.completeReply l c st content) := by
  refine .of_lanes (fun k => ?_) rfl
  rw [State.completeReply_lane]
  exact .of_same (fun fits => by simpa [LaneUnit.Fits] using fits) (completeIn_length ..) rfl rfl

theorem State.install_sound (s : State) (l : LaneId) (c u : Nat) (r : Option Nat) : s.Sound (s.install l c u r) := by
  unfold State.install
  refine State.Sound.trans ?_ (State.placementTest_sound _ l)
  refine State.Sound.trans (State.offer_sound s _) (State.setLane_sound _ l ⟨⟨id, le_rfl⟩, fun b => ⟨?_, rfl⟩⟩)
  rw [LaneUnit.pendingOf, List.countP_map]
  rfl

theorem State.installPending_sound (s : State) (l : LaneId) : s.Sound (s.installPending l) := by
  unfold State.installPending
  dsimp only
  split
  · exact (s.setLane_counted_sound l (by rfl)).trans (State.install_sound _ l _ _ _)
  · exact .refl s

theorem State.endReception_sound (s : State) (l : LaneId) : s.Sound (s.endReception l) :=
  (s.setLane_counted_sound l (u := { s.lane l with rx := none }) rfl).trans
    (.of_same (State.voidReservation_lanes _ l) (s.endReception_books l).1)

theorem State.afterReception_sound (s : State) (l : LaneId) : s.Sound (s.afterReception l) :=
  (s.placementTest_sound l).trans (State.installPending_sound _ l)

/-- A frame in reception that is gone, with what follows it. -/
theorem State.Sound.receptionEnded {s t : State} (h : s.Sound t) (l : LaneId) :
    s.Sound ((t.endReception l).afterReception l) :=
  (h.trans (t.endReception_sound l)).trans (State.afterReception_sound _ l)

theorem State.probeEnded_sound (s : State) (l : LaneId) : s.Sound (s.probeEnded l) :=
  ((s.offer_sound _).trans (State.completeReply_sound _ _ _ _ _)).trans (State.setLane_counted_sound _ l (by rfl))

theorem State.probeFail_sound (s : State) (l : LaneId) : s.Sound (s.probeFail l) :=
  (s.probeEnded_sound l).trans (State.installPending_sound _ l)

theorem State.failProbe_sound (s : State) (l : LaneId) : s.Sound (s.failProbe l) := by
  unfold State.failProbe
  split
  · exact .refl s
  · exact s.probeFail_sound l
  · exact s.probeFail_sound l

theorem State.abandonReception_sound (s : State) (l : LaneId) : s.Sound (s.abandonReception l) := by
  unfold State.abandonReception
  split
  · exact .refl s
  · exact (s.countLane_sound l _).receptionEnded l

theorem State.probeDone_sound (s : State) (l : LaneId) (r : Nat) : s.Sound (s.probeDone l r) :=
  ((s.install_sound l _ _ _).trans (State.setLane_counted_sound _ l (by rfl))).trans
    (State.completeReply_sound _ _ _ _ _)

theorem State.endDrain_sound (s : State) (l : LaneId) : s.Sound (s.endDrain l) := by
  unfold State.endDrain
  split
  · have disabled := s.setLane_counted_sound l (u := { s.lane l with state := .disabled }) rfl
    exact (disabled.trans (State.offerLane_sound _ l _)).trans (State.completeReply_sound _ _ _ _ _)
  · exact .refl s

/-- A change of the credits within their limit (R134). -/
theorem State.setCredits_sound (s : State) (l : LaneId) {n : Nat} (h : (s.lane l).Fits → n ≤ 32) :
    s.Sound (s.setLane l { s.lane l with credits := n }) := by
  refine s.setLane_same_sound l (fun fits => ?_) rfl rfl rfl
  obtain ⟨frames, -, rest⟩ := id fits
  exact ⟨frames, h fits, rest⟩

theorem State.dropCredits_sound (s : State) (l : LaneId) : s.Sound (s.dropCredits l) := by
  unfold State.dropCredits
  split
  · exact .refl s
  · exact (s.setCredits_sound l fun _ => Nat.zero_le _).trans (State.judgeWaits_sound _ l)

/-- A FRAME entry joins a hold list that has room for it (R129). -/
theorem State.admitEntry_sound (s : State) (l : LaneId) {e : HoldEntry} (frame : e.isFrame = true)
    (room : frameCount (s.lane l).hold < 64) : s.Sound (s.admitEntry l e) := by
  have joined (x : Option Nat) :
      (s.lane l).Steady { s.lane l with hold := (s.lane l).hold ++ [e], releaseExpiry := x } := by
    refine ⟨⟨fun fits => ?_, le_rfl⟩, fun b => ⟨rfl, ?_⟩⟩
    · obtain ⟨-, rest⟩ := fits
      refine ⟨?_, rest⟩
      rw [frameCount, List.countP_append, List.countP_singleton, if_pos frame]
      exact room
    · have none : e.isTriggerOf b = false := by
        cases hb : e.body <;> simp_all [HoldEntry.isFrame, HoldEntry.isTriggerOf]
      rw [LaneUnit.heldOf, List.countP_append, List.countP_singleton, if_neg (by simp [none])]
      rfl
  unfold State.admitEntry
  dsimp only
  split
  · exact (s.setLane_sound l (joined _)).trans (State.judgeWaits_sound _ l)
  · exact s.setLane_sound l (joined _)

theorem State.admitFrame_sound (s : State) (l : LaneId) (key : Option OrderKey) (book : Option BookId)
    (cls : Option ClassId) (captured release : Nat) (frame : Bytes) (room : frameCount (s.lane l).hold < 64) :
    s.Sound (s.admitFrame l key book cls captured release frame) := by
  have drawn : s.Sound { s with freeIndex := s.freeIndex + 1 } := .of_same rfl rfl
  exact drawn.trans (State.admitEntry_sound _ l rfl room)

/-! ### Books -/

/-- The triggers of the lanes when a book enters UNCROSS: it had none before (R103). -/
theorem State.TriggersMatch.takeUncross {s : State} (h : s.TriggersMatch) (st : Bool) {b : BookId}
    (phase : (s.book b).phase = .freeze) (a : Arming) (d : Draw) : (s.takeUncross st b a d).TriggersMatch := by
  have early (l : LaneId) : (s.book b).trigger l = .none :=
    ((s.triggersMatch_iff.mp h) l b).2 (by rw [phase]; simp [Phase.hasTriggers])
  have entered : (s.setBook b { s.book b with phase := .uncross }).TriggersMatch :=
    (s.setBook_lanesSound b (k := { s.book b with phase := .uncross }) rfl fun _ => .inl rfl).triggers h
  have sent := entered.sendTriggers (lanesOf a.lanes) (List.Nodup.filter _ (by decide)) (b := b)
    (by rw [State.book_setBook_same]; exact .inl rfl)
    (fun l _ => by rw [State.book_setBook_same]; exact early l) d.endInstant
  have timed (t : State) (x : Option Nat) (r : RecordBody) :
      t.LanesSound ((t.setBook b { t.book b with uncrossAt := x }).offer r) :=
    (t.setBook_lanesSound b (k := { t.book b with uncrossAt := x }) rfl id).trans (State.offer_sound _ r).toLanesSound
  unfold State.takeUncross
  exact (timed _ _ _).triggers sent

/-- The draw of a book that enters UNCROSS (R103). -/
theorem State.takeUncross_draw (s : State) (st : Bool) (b : BookId) (a : Arming) (d : Draw) :
    ((s.takeUncross st b a d).book b).draw = (s.book b).draw := by
  have sent := foldl_preserves (fun t : State => (t.book b).withoutTriggers)
    (fun t l => t.sendTrigger b d.endInstant l) (fun t l => t.sendTrigger_withoutTriggers b b d.endInstant l)
    (s.setBook b { s.book b with phase := .uncross }) (lanesOf a.lanes)
  refine (congrArg Book.draw (State.book_setBook_same _ _ _)).trans ?_
  refine (congrArg (fun x => x.2.2.1) sent).trans ?_
  rw [State.book_setBook_same]
  rfl

theorem State.takeUncross_sound (s : State) (st : Bool) {b : BookId} (phase : (s.book b).phase = .freeze) (a : Arming)
    (d : Draw) : s.Sound (s.takeUncross st b a d) := by
  refine ⟨⟨fun k => (s.takeUncross_placed st b a d k).within, fun h => h.takeUncross st phase a d⟩, fun c drawn => ?_⟩
  by_cases hc : c = b
  · subst hc
    exact ⟨.inr (.inr (s.takeUncross_withoutTriggers st c c a d).2), s.takeUncross_draw st c a d⟩
  · have same := (s.takeUncross_withoutTriggers st b c a d).1 hc
    exact ⟨by rwa [Book.phase_of_withoutTriggers same], congrArg (fun x => x.2.2.1) same⟩

/-- A book that moves on before its uncross, with a record. -/
theorem State.setBook_offer_sound (s : State) (b : BookId) {k : Book} (r : RecordBody)
    (triggers : k.triggers = (s.book b).triggers) (before : ¬ (s.book b).phase.hasTriggers)
    (draws : (s.book b).phase.drawn → k.phase.drawn ∧ k.draw = (s.book b).draw) :
    s.Sound ((s.setBook b k).offer r) :=
  State.Sound.trans ⟨s.setBook_lanesSound b triggers fun late => absurd late before, s.setBook_draws b draws⟩
    (State.offer_sound _ r)

theorem State.takeTw_sound (s : State) (st : Bool) {b : BookId} (a : Arming) (phase : (s.book b).phase = .call) :
    s.Sound (s.takeTw st b a) := by
  have before : ¬ (s.book b).phase.hasTriggers := by simp [phase, Phase.hasTriggers]
  have undrawn : ¬ (s.book b).phase.drawn := by simp [phase, Phase.drawn]
  have advanced (g : BookUnit) (k : Book) (r : RecordBody) (same : k.triggers = (s.book b).triggers) :
      s.Sound ((State.setBook { s with bookUnit := g } b k).offer r) :=
    State.Sound.trans (t := { s with bookUnit := g }) (.of_same rfl rfl)
      (State.setBook_offer_sound _ b r same before fun drawn => absurd drawn undrawn)
  exact advanced _ _ _ rfl

theorem State.takeBoundary_sound (s : State) (st : Bool) (b : BookId) : s.Sound (s.takeBoundary st b) := by
  unfold State.takeBoundary
  split
  · next phase _ =>
    exact s.setBook_offer_sound b _ rfl (by simp [phase, Phase.hasTriggers]) (by simp [phase, Phase.drawn])
  · next phase _ => exact s.takeTw_sound st _ phase
  · next phase _ _ =>
    exact s.setBook_offer_sound b _ rfl (by simp [phase, Phase.hasTriggers]) fun _ => ⟨.inr (.inl rfl), rfl⟩
  · next phase _ _ => exact s.takeUncross_sound st phase _ _
  · exact .refl s

theorem State.takeBoundaries_sound (st : Bool) (limit : Nat) (b : BookId) (fuel : Nat) (s : State) :
    s.Sound (State.takeBoundaries st limit b fuel s) := by
  induction fuel generalizing s with
  | zero => exact .refl s
  | succ n ih =>
    unfold State.takeBoundaries
    split
    · exact .refl s
    · split
      · exact (s.takeBoundary_sound st b).trans (ih _)
      · exact .refl s

theorem State.serveDraw_sound (s : State) (b : BookId) : s.Sound (s.serveDraw b) := by
  unfold State.serveDraw
  split
  · exact State.takeBoundaries_sound ..
  · exact .refl s

theorem State.takeInTurn_sound (s : State) (limit : Nat) (b : BookId) : s.Sound (s.takeInTurn limit b) := by
  unfold State.takeInTurn
  refine State.Sound.trans ?_ (State.takeBoundaries_sound ..)
  split
  · exact State.Sound.foldl State.serveDraw_sound _ _
  · exact .refl s

theorem State.takeExpiry_sound (s : State) (p : Phase) (b : BookId) : s.Sound (s.takeExpiry p b) := by
  unfold State.takeExpiry
  split
  · exact s.takeInTurn_sound _ _
  · exact .refl s

theorem State.takeForQuery_sound (s : State) (b : BookId) (stamp : Nat) : s.Sound (s.takeForQuery b stamp) := by
  unfold State.takeForQuery
  split
  · exact .refl s
  · split
    · exact s.takeInTurn_sound _ _
    · exact .refl s

theorem State.queryGating_sound (s : State) (l : LaneId) (b : Option BookId) (stamp : Nat) :
    s.Sound (s.queryGating l b stamp).1 := by
  unfold State.queryGating
  split
  · exact .refl s
  · exact s.takeForQuery_sound _ _

theorem State.bookOnStep_sound (s : State) (b : BookId) : s.Sound (s.bookOnStep b) := by
  unfold State.bookOnStep
  split
  · exact State.takeBoundaries_sound ..
  · exact .refl s

end Sys2Proof.Machine
end

section
/-! PROOFS. The time path keeps the lanes and the draws: what it changes of them is the lanes' and the books' part of a
step (R26, R67, R104, R130). -/

namespace Sys2Proof.Machine

/-! ### The time path -/

theorem State.setMonitor_sound (s : State) (r : RefLine) (m : Monitor) : s.Sound (s.setMonitor r m) :=
  .of_same (by simp) (by simp)

theorem State.judgeGrade_sound (s : State) : s.Sound s.judgeGrade := by
  rw [State.judgeGrade_eq]
  exact .of_same rfl rfl

theorem State.switchReference_sound (s : State) : s.Sound s.switchReference := by
  rw [s.switchReference_eq.1]
  exact .of_same rfl rfl

theorem State.lossOfSelected_sound (s : State) : s.Sound s.lossOfSelected := by
  rw [State.lossOfSelected_eq]
  exact .of_same rfl rfl

theorem State.becameHealthy_sound (s : State) (ref : RefLine) : s.Sound (s.becameHealthy ref) := by
  unfold State.becameHealthy
  split
  · split
    · exact .of_same rfl rfl
    · exact .refl s
  · split
    · exact s.switchReference_sound
    · exact .refl s

theorem State.refuseMarker_sound (s : State) (ref : RefLine) (reason : RefusalReason) :
    s.Sound (s.refuseMarker ref reason) := by
  have whole := s.refuseMarker_eq ref reason
  exact .of_same ((congrArg State.lanes whole).trans rfl) ((congrArg State.books whole).trans rfl)

theorem State.lockAfterSlew_sound (s : State) (theta : Int) : s.Sound (s.lockAfterSlew theta) := by
  unfold State.lockAfterSlew
  split
  · split
    · split <;> exact .of_same rfl rfl
    · exact .of_same rfl rfl
  · split
    · exact .of_same rfl rfl
    · exact .refl s
  · exact .refl s
  · exact .refl s

theorem State.slew_sound (s : State) (m : Marker) : s.Sound (s.slew m) := by
  have corrected : s.Sound ((s.slewRate m.theta).fixUncertainty (offsetBase m.theta m.grade) m.captured) :=
    .of_same rfl rfl
  exact (corrected.trans (State.lockAfterSlew_sound _ _)).trans (State.judgeGrade_sound _)

theorem State.deferStep_sound (s : State) (m : Marker) : s.Sound (s.deferStep m) := by
  unfold State.deferStep
  refine State.Sound.trans ?_ (State.judgeGrade_sound _)
  split <;> exact .of_same rfl rfl

/-! ### A step -/

theorem State.failOutstanding_sound (s : State) (l : LaneId) : s.Sound (s.failOutstanding l) := by
  unfold State.failOutstanding
  split
  · exact s.probeFail_sound l
  · exact .refl s
  · exact .refl s

theorem State.laneOnStep_sound (s : State) (l : LaneId) : s.Sound (s.laneOnStep l) := by
  have reset : s.Sound ((s.failOutstanding l).resetRelease l s.lt) :=
    (s.failOutstanding_sound l).trans (State.setLane_counted_sound _ l (by rfl))
  rcases s.laneOnStep_cases l with h | h <;> rw [h]
  · exact reset
  · exact reset.trans (State.judgeWaits_sound _ l)

theorem State.snapshotOnStep_sound (s : State) (forward : Bool) : s.Sound (s.snapshotOnStep forward) := by
  obtain ⟨u, x, -, lanes, books, -, whole⟩ := s.snapshotOnStep_frame forward
  rw [whole]
  exact .of_same lanes books

theorem State.stepLt_sound (s : State) (m : Marker) : s.Sound (s.stepLt m) := by
  obtain ⟨reservedLanes, reservedBooks, -⟩ := s.reserveForStep_frame
  obtain ⟨clockedLanes, clockedBooks, -⟩ := s.reserveForStep.stepClock_lanes_books m
  have clocked : s.Sound (s.reserveForStep.stepClock m) :=
    .of_same (clockedLanes.trans reservedLanes) (clockedBooks.trans reservedBooks)
  have booked : s.Sound (s.booksStepped m) := by
    unfold State.booksStepped
    dsimp only
    split
    · exact clocked.trans (State.Sound.foldl State.bookOnStep_sound _ _)
    · exact clocked
  have lanes : s.Sound (s.lanesStepped m) := booked.trans (State.Sound.foldl State.laneOnStep_sound _ _)
  rw [State.stepLt_eq]
  exact lanes.trans (State.snapshotOnStep_sound _ _)

/-! ### Markers -/

theorem State.evaluate_sound (s : State) (m : Marker) : s.Sound (s.evaluate m) := by
  unfold State.evaluate
  split
  · exact s.slew_sound m
  · split
    · exact s.deferStep_sound m
    · exact s.stepLt_sound m

theorem State.disciplineMarker_sound (s : State) (m : Marker) : s.Sound (s.disciplineMarker m) := by
  unfold State.disciplineMarker
  split
  · exact s.evaluate_sound m
  · exact s.evaluate_sound m
  · exact .refl s
  · exact .refl s

theorem State.acceptMarker_sound (s : State) (ref : RefLine) (k : Marker) : s.Sound (s.acceptMarker ref k) := by
  have whole := s.noteMarker_eq ref k
  have noted : s.Sound (s.noteMarker ref k) :=
    .of_same ((congrArg State.lanes whole).trans rfl) ((congrArg State.books whole).trans rfl)
  have disciplined : s.Sound
      (if ref = s.discipline.selected then (s.noteMarker ref k).disciplineMarker k else s.noteMarker ref k) := by
    split
    · exact noted.trans (State.disciplineMarker_sound _ _)
    · exact noted
  rw [State.acceptMarker_eq]
  dsimp only
  split
  · exact disciplined.trans (State.becameHealthy_sound _ _)
  · exact disciplined

theorem State.judgeEdge_sound (s : State) (ref : RefLine) (a : Announcement) : s.Sound (s.judgeEdge ref a) := by
  have guarded : s.Sound (s.setUnit ref s.guardUnit) := s.setMonitor_sound _ _
  unfold State.judgeEdge
  dsimp only
  split
  · exact guarded.trans (State.refuseMarker_sound _ _ _)
  · split
    · exact guarded.trans (State.refuseMarker_sound _ _ _)
    · exact guarded.trans (State.acceptMarker_sound _ _ _)

/-! ### The commands of the time path -/

theorem State.validAnnouncement_sound (s : State) (ref : RefLine) (a : Announcement) :
    s.Sound (s.validAnnouncement ref a) := by
  unfold State.validAnnouncement
  split
  · exact s.setMonitor_sound _ _
  · exact ((s.setMonitor_sound _ _).trans (State.setMonitor_sound _ _ _)).trans (State.refuseMarker_sound _ _ _)
  · exact s.setMonitor_sound _ _

theorem execAnnouncementReceived_sound {ref : RefLine} {m : Bytes} {s t : State}
    (h : execAnnouncementReceived ref m s = .next t) : s.Sound t := by
  cases h
  split
  · exact .refl s
  · split
    · exact s.setMonitor_sound _ _
    · exact s.validAnnouncement_sound _ _

theorem execMarkerEdge_sound {ref : RefLine} {s t : State} (h : execMarkerEdge ref s = .next t) : s.Sound t := by
  cases h
  split
  · exact .refl s
  · split
    · exact s.judgeEdge_sound _ _
    · exact s.setMonitor_sound _ _
    · exact s.setMonitor_sound _ _

theorem execArmExpiry_sound {ref : RefLine} {s t : State} (h : execArmExpiry ref s = .next t) : s.Sound t := by
  cases h
  split
  · split
    · exact (s.setMonitor_sound _ _).trans (State.refuseMarker_sound _ _ _)
    · exact .refl s
  · exact .refl s
  · exact .refl s

theorem execAnnouncementExpiry_sound {ref : RefLine} {s t : State} (h : execAnnouncementExpiry ref s = .next t) :
    s.Sound t := by
  cases h
  split
  · split
    · exact (s.setMonitor_sound _ _).trans (State.refuseMarker_sound _ _ _)
    · exact .refl s
  · exact .refl s
  · exact .refl s
  · exact .refl s

theorem execGuardExpiry_sound {ref : RefLine} {s t : State} (h : execGuardExpiry ref s = .next t) : s.Sound t := by
  cases h
  split
  · split
    · exact s.setMonitor_sound _ _
    · exact .refl s
  · exact .refl s
  · exact .refl s

theorem execGrowthExpiry_sound {s t : State} (h : execGrowthExpiry s = .next t) : s.Sound t := by
  cases h
  split
  · exact .refl s
  · next e _ =>
    split
    · have moved : s.Sound
          { s with uncertainty := { s.uncertainty with growthExpiry := some (e + Config.second) } } := .of_same rfl rfl
      exact moved.trans (State.judgeGrade_sound _)
    · exact .refl s

end Sys2Proof.Machine
end

section
/-! PROOFS. The links, the A port and the B port keep the lanes within their capacities, their triggers and the draws
(R46 to R56, R64 to R71, R121 to R125, R134, R146, R184). -/

namespace Sys2Proof.Machine

/-! ### Links -/

theorem execALinkLost_sound {l : LaneId} {s t : State} (h : execALinkLost l s = .next t) : s.Sound t := by
  cases h
  split
  · exact .refl s
  · have down := s.setLane_counted_sound l (u := { s.lane l with aLink := .down, aTx := none }) rfl
    have failed := (down.trans (State.abandonReception_sound _ l)).trans (State.failProbe_sound _ l)
    exact failed.trans (State.offerLane_sound _ l _)

theorem execALinkReturned_sound {l : LaneId} {s t : State} (h : execALinkReturned l s = .next t) : s.Sound t := by
  cases h
  split
  · exact .refl s
  · exact (s.setLane_counted_sound l (u := { s.lane l with aLink := .up }) rfl).trans (State.offerLane_sound _ l _)

theorem execBLinkLost_sound {l : LaneId} {r : Bool} {s t : State} (h : execBLinkLost l r s = .next t) : s.Sound t := by
  cases h
  split
  · exact .refl s
  · have down := s.setLane_counted_sound l (u := { s.lane l with bLink := .down, bTx := none }) rfl
    have lost (t : State) : t.Sound ((t.dropCredits l).offerLane l .bLinkLost) :=
      (t.dropCredits_sound l).trans (State.offerLane_sound _ l _)
    refine State.Sound.trans ?_ (lost _)
    split
    · exact down.trans (State.countLane_sound _ l _)
    · exact down

theorem execBLinkReturned_sound {l : LaneId} {s t : State} (h : execBLinkReturned l s = .next t) : s.Sound t := by
  cases h
  split
  · exact .refl s
  · exact (s.setLane_counted_sound l (u := { s.lane l with bLink := .up }) rfl).trans (State.offerLane_sound _ l _)

/-! ### Frames on the A port -/

theorem execStartOfFrame_sound {l : LaneId} {s t : State} (h : execStartOfFrame l s = .next t) : s.Sound t := by
  cases h
  split
  · exact s.setLane_counted_sound l (by rfl)
  · exact .refl s
  · exact .refl s

/-- A frame in reception that ends keeps what its handling keeps. -/
theorem State.frameEnds_sound (s : State) (l : LaneId) (f : Bytes) (k : APortFrame) {handle : Reception → State → State}
    (h : ∀ rx, s.Sound (handle rx s)) : s.Sound (s.frameEnds l f k handle) := by
  unfold State.frameEnds
  split
  · exact .refl s
  · next rx _ =>
    split
    · exact (h rx).receptionEnded l
    · exact .refl s

theorem State.handleForeign_sound (s : State) (l : LaneId) (f : Bytes) (rx : Reception) :
    s.Sound (s.handleForeign l f rx) := by
  have seen : s.Sound (s.raise { kind := .foreign, lane := some l }) := .of_same rfl rfl
  unfold State.handleForeign
  dsimp only
  split
  · exact (seen.trans (State.countLane_sound _ l _)).trans (State.raise_sound _ _)
  · split
    · next room => exact seen.trans (State.admitFrame_sound _ l _ _ _ _ _ _ room)
    · exact (seen.trans (State.countLane_sound _ l _)).trans (State.raise_sound _ _)

/-- The ENTRY record of a frame with its events changes no lane and no book. -/
theorem State.entryRecorded_sound (s : State) (l : LaneId) (e : EntryRecord) (es : List EvidenceEvent) :
    s.Sound ((s.offerEntry l e).raiseAll es) :=
  .of_same (by simp)
    ((State.raiseAll_books _ _).trans ((congrArg State.books (s.offerEntry_frame l e)).trans rfl))

/-- A notice joins its queue while fewer than sixteen wait (R125). -/
theorem State.joinNotice_sound (s : State) (l : LaneId) (n : Notice) (room : (s.lane l).notices.length < 16) :
    s.Sound (s.setLane l { s.lane l with notices := (s.lane l).notices ++ [n] }) := by
  refine s.setLane_same_sound l (fun fits => ?_) rfl rfl rfl
  obtain ⟨frames, credits, -, rest⟩ := id fits
  exact ⟨frames, credits, by rw [List.length_append]; exact room, rest⟩

theorem State.refuseEntry_sound (s : State) (l : LaneId) (rx : Reception) (j : Judged) (r : EntryRefusal) :
    s.Sound (s.refuseEntry l rx j r) := by
  have recorded := s.entryRecorded_sound l (entryRecord l rx j (some (s.lane l).noticeOutcome)) (dispositionEvents l j)
  have lane (e : EntryRecord) (es : List EvidenceEvent) : ((s.offerEntry l e).raiseAll es).lane l = s.lane l := by
    simp [State.lane]
  unfold State.refuseEntry
  dsimp only
  split
  · next queued =>
    have room : (s.lane l).notices.length < 16 := by
      by_contra full
      rw [LaneUnit.noticeOutcome, if_neg (show ¬ _ < Config.noticeMax from full)] at queued
      cases queued
    exact recorded.trans (State.joinNotice_sound _ l _ (by rw [lane]; exact room))
  · exact recorded.trans (State.raise_sound _ _)

/-- A frame that passes the overflow test has room (R122, R129). -/
theorem State.forwardEntry_sound (s : State) (l : LaneId) (f : Bytes) (rx : Reception) (j : Judged) (cls : ClassId)
    (c : ClassRecord) (room : frameCount (s.lane l).hold < 64) : s.Sound (s.forwardEntry l f rx j cls c) := by
  have recorded := s.entryRecorded_sound l (entryRecord l rx j none) (dispositionEvents l j)
  have lane : ((s.offerEntry l (entryRecord l rx j none)).raiseAll (dispositionEvents l j)).lane l = s.lane l := by
    simp [State.lane]
  exact recorded.trans (State.admitFrame_sound _ l _ _ _ _ _ _ (by rw [lane]; exact room))

theorem room_of_overflowTest {frames : Nat} {g d : Disposition} (test : overflowTest frames g = d)
    (forwarded : d = .pass ∨ d = .late) : frames < 64 := by
  subst test
  by_contra full
  obtain ⟨-, overflows, refused⟩ := overflowTest_cases frames g
  cases g with
  | refused r => simp [refused r rfl] at forwarded
  | pass => simp [overflows (.inl rfl) full] at forwarded
  | late => simp [overflows (.inr rfl) full] at forwarded

theorem State.handleWellFormed_sound (s : State) (l : LaneId) (f : Bytes) (rx : Reception) (h : EntryHeader) :
    s.Sound (s.handleWellFormed l f rx h) := by
  generalize query : s.queryGating l (s.classTable[(s.classify h).val]).book rx.stamp = asked
  obtain ⟨t, g⟩ := asked
  have taken : s.Sound t := by
    have := s.queryGating_sound l (s.classTable[(s.classify h).val]).book rx.stamp
    rwa [query] at this
  generalize test : overflowTest (frameCount (t.lane l).hold)
    (disposition g (s.classTable[(s.classify h).val]).admission (s.classTable[(s.classify h).val]).lateAction) = d
  obtain ⟨refused, forwarded⟩ := State.handleWellFormed_of f query test
  have forward (hd : d = .pass ∨ d = .late) : s.Sound (s.handleWellFormed l f rx h) := by
    rw [forwarded hd]
    exact taken.trans (t.forwardEntry_sound l f rx _ _ _ (room_of_overflowTest test hd))
  cases d with
  | refused r =>
    rw [refused r rfl]
    exact taken.trans (t.refuseEntry_sound l rx _ r)
  | pass => exact forward (.inl rfl)
  | late => exact forward (.inr rfl)

theorem State.handleEntry_sound (s : State) (l : LaneId) (f : Bytes) (rx : Reception) :
    s.Sound (s.handleEntry l f rx) := by
  unfold State.handleEntry
  dsimp only
  split
  · exact (s.countLane_sound l _).trans (State.raise_sound _ _)
  · exact s.refuseEntry_sound l rx _ _
  · exact s.refuseEntry_sound l rx _ _
  · split
    · exact s.handleWellFormed_sound l f rx _
    · exact s.refuseEntry_sound l rx _ _

theorem execAFrameDiscarded_sound {l : LaneId} {f : Bytes} {s t : State} (h : execAFrameDiscarded l f s = .next t) :
    s.Sound t := by
  cases h
  split <;> exact s.frameEnds_sound l f _ fun _ => s.countLane_sound l _

theorem execProbeReturn_sound {l : LaneId} {f : Bytes} {s t : State} (h : execProbeReturn l f s = .next t) :
    s.Sound t := by
  cases h
  split
  · exact .refl s
  · split
    · split
      · exact ((s.endReception_sound l).trans (State.probeDone_sound _ l _)).trans (State.afterReception_sound _ l)
      · exact (s.countLane_sound l _).receptionEnded l
    · exact .refl s

theorem execProbeTimeout_sound {l : LaneId} {s t : State} (h : execProbeTimeout l s = .next t) : s.Sound t := by
  cases h
  split
  · split
    · exact s.probeFail_sound l
    · exact .refl s
  · exact .refl s
  · exact .refl s

/-! ### Frames on the B port -/

/-- A frame on the B port keeps what its handling keeps. -/
theorem State.bFrameEnds_sound (s : State) (l : LaneId) (f : Bytes) (k : BPortFrame) {handle : State → State}
    (h : s.Sound (handle s)) : s.Sound (s.bFrameEnds l f k handle) := by
  unfold State.bFrameEnds
  split
  · exact .refl s
  · split
    · exact h
    · exact .refl s

theorem execBFrameDiscarded_sound {l : LaneId} {f : Bytes} {s t : State} (h : execBFrameDiscarded l f s = .next t) :
    s.Sound t := by
  cases h
  split <;> exact s.bFrameEnds_sound l f _ (s.countLane_sound l _)

/-- A report joins its FIFO while fewer than 32 wait (R146). -/
theorem State.offerReport_sound (s : State) (l : LaneId) (f : Bytes) : s.Sound (s.offerReport l f) := by
  unfold State.offerReport
  split
  · next room =>
    refine s.setLane_same_sound l (fun fits => ?_) rfl rfl rfl
    obtain ⟨frames, credits, notices, -, rest⟩ := id fits
    exact ⟨frames, credits, notices, by rw [List.length_append]; exact room, rest⟩
  · exact s.raise_sound _

/-- A request joins its queue while fewer than eight wait (R184). -/
theorem State.offerRequest_sound (s : State) (l : LaneId) (f : Bytes) : s.Sound (s.offerRequest l f) := by
  unfold State.offerRequest
  dsimp only
  split
  · exact s.countLane_sound l _
  · split
    · next room =>
      refine s.setLane_same_sound l (fun fits => ?_) rfl rfl rfl
      obtain ⟨frames, credits, notices, reports, -, rest⟩ := id fits
      exact ⟨frames, credits, notices, reports, by rw [List.length_append]; exact room, rest⟩
    · exact s.setLane_counted_sound l (by rfl)

theorem State.countShort_sound (s : State) (l : LaneId) : s.Sound (s.countShort l) := s.setLane_counted_sound l (by rfl)

/-- Granted credits are limited to 32 (R134). -/
theorem State.grant_sound (s : State) (l : LaneId) (n : Nat) : s.Sound (s.grant l n) := by
  obtain ⟨lane, marked, others, rest⟩ := s.grant_frame l n
  refine .of_lanes (fun k => ?_) ((congrArg State.books rest).trans rfl)
  by_cases hk : k = l
  · subst hk
    have granted : (s.lane k).Steady { s.lane k with credits := min ((s.lane k).credits + n) 32 } :=
      .of_same (fun ⟨frames, _, more⟩ => ⟨frames, Nat.min_le_right _ _, more⟩) rfl rfl rfl
    have judged : LaneUnit.Steady { s.lane k with credits := min ((s.lane k).credits + n) 32 } ((s.grant k n).lane k) :=
      .of_bodies marked lane
    exact ⟨granted.toWithin.trans judged.toWithin, fun b =>
      ⟨(judged.triggers b).1.trans (granted.triggers b).1, (judged.triggers b).2.trans (granted.triggers b).2⟩⟩
  · rw [others k hk]
    exact .refl _

theorem execCreditGrant_sound {l : LaneId} {f : Bytes} {s t : State} (h : execCreditGrant l f s = .next t) :
    s.Sound t := by
  cases h
  refine s.bFrameEnds_sound l f _ ?_
  split
  · exact s.countShort_sound l
  · exact s.grant_sound l _

end Sys2Proof.Machine
end

section
/-! PROOFS. The egresses, the expiries and the confirmations keep the lanes within their capacities, their triggers and
the draws (R116, R117, R130, R134 to R147). -/

namespace Sys2Proof.Machine

/-! ### The removal of an entry -/

/-- The arbiter's candidate stands between the entries before it and those behind it (R136). -/
theorem firstEligible_split {lt credits : Nat} {passed hold earlier later : List HoldEntry} {e : HoldEntry}
    (h : firstEligible lt credits passed hold = some (earlier, e, later)) : passed ++ hold = earlier ++ e :: later := by
  induction hold generalizing passed with
  | nil => cases h
  | cons f rest ih =>
    unfold firstEligible at h
    split at h
    · cases h
      rfl
    · rw [← ih h, List.append_assoc]
      rfl

/-- A lane that an entry has left, with no more credits than it had (R130, R145). -/
theorem State.depart_within (s : State) (l : LaneId) {earlier later : List HoldEntry} {e : HoldEntry}
    (split : (s.lane l).hold = earlier ++ e :: later) {credits : Nat} (le : credits ≤ (s.lane l).credits)
    (sent : Sending) : (s.lane l).Within ((s.depart l earlier later credits sent).lane l) := by
  rw [State.depart, State.lane_setLane_same]
  refine ⟨fun fits => ?_, le_rfl⟩
  obtain ⟨frames, room, notices, reports, requests, replies, wait, share⟩ := fits
  refine ⟨?_, le.trans room, notices, reports, requests, replies, ?_, share⟩
  · refine le_trans ?_ frames
    simp only [frameCount, split, List.countP_append, List.countP_cons]
    omega
  · unfold State.waitAfterRelease saturatingSucc
    split
    · exact Nat.min_le_right _ _
    · exact wait

/-- The triggers of a lane that an entry has left. -/
theorem State.depart_heldOf (s : State) (l : LaneId) {earlier later : List HoldEntry} {e : HoldEntry}
    (split : (s.lane l).hold = earlier ++ e :: later) (credits : Nat) (sent : Sending) (b : BookId) :
    (s.lane l).heldOf b = ((s.depart l earlier later credits sent).lane l).heldOf b +
      if e.isTriggerOf b = true then 1 else 0 := by
  rw [State.depart, State.lane_setLane_same]
  simp only [LaneUnit.heldOf, split, List.countP_append, List.countP_cons]
  omega

theorem State.depart_lane_of_ne (s : State) {l k : LaneId} (h : k ≠ l) (earlier later : List HoldEntry) (credits : Nat)
    (sent : Sending) : (s.depart l earlier later credits sent).lane k = s.lane k :=
  State.lane_setLane_of_ne _ _ h

/-! ### The engine egress -/

/-- The release of a frame takes no trigger (R137). -/
theorem State.releaseFrame_sound (s : State) (l : LaneId) {earlier later : List HoldEntry} {e : HoldEntry}
    {f : HeldFrame} (split : (s.lane l).hold = earlier ++ e :: later) (body : e.body = .frame f) :
    s.Sound (s.releaseFrame l earlier f later) := by
  have departed : s.Sound (s.depart l earlier later ((s.lane l).credits - 1) ⟨f.frame, some f.slot⟩) := by
    refine .of_lanes (fun k => ?_) rfl
    by_cases hk : k = l
    · subst hk
      refine ⟨s.depart_within k split (Nat.sub_le _ _) _, fun b => ⟨?_, ?_⟩⟩
      · rw [State.depart, State.lane_setLane_same]
        rfl
      · rw [s.depart_heldOf k split, HoldEntry.isTriggerOf_eq, body]
        rfl
    · rw [State.depart_lane_of_ne s hk]
      exact .refl _
  exact (departed.trans (State.raise_sound _ _)).trans (State.judgeWaits_sound _ l)

/-- The release of a trigger: HELD becomes RELEASED, and its entry leaves the list (R115, R138). -/
theorem State.releaseTrigger_sound (s : State) (l : LaneId) {earlier later : List HoldEntry} {e : HoldEntry}
    {b : BookId} {i : Nat} (split : (s.lane l).hold = earlier ++ e :: later) (body : e.body = .trigger b i) :
    s.Sound (s.releaseTrigger l earlier b i later) := by
  have released (sent : Sending) : s.Sound
      ((s.depart l earlier later (s.lane l).credits sent).setBook b ((s.book b).setTrigger l .released)) := by
    refine ⟨⟨fun k => ?_, fun matching => ?_⟩, s.setBook_draws b fun drawn => ⟨drawn, rfl⟩⟩
    · by_cases hk : k = l
      · subst hk
        exact s.depart_within k split le_rfl sent
      · rw [State.lane_setBook, State.depart_lane_of_ne s hk]
        exact .refl _
    · rw [State.triggersMatch_iff] at matching ⊢
      intro k c
      obtain ⟨⟨pending, held⟩, early⟩ := matching k c
      rw [State.lane_setBook, State.book_setBook]
      have counted := s.depart_heldOf l split (s.lane l).credits sent c
      rw [HoldEntry.isTriggerOf_eq, body] at counted
      by_cases hc : c = b
      · subst hc
        rw [if_pos rfl]
        by_cases hk : k = l
        · subst hk
          have was : (s.book c).trigger k = .held := by
            by_contra other
            rw [if_neg other] at held
            simp only [held, HoldBody.isTriggerOf, beq_self_eq_true, if_true] at counted
            omega
          rw [was] at pending held early
          rw [Book.trigger_setTrigger_same]
          refine ⟨⟨?_, ?_⟩, fun before => absurd (early before) (by decide)⟩
          · rw [State.depart, State.lane_setLane_same]
            exact pending
          · simp only [held, HoldBody.isTriggerOf, beq_self_eq_true, if_true] at counted
            simp only [reduceCtorEq, if_false]
            omega
        · rw [Book.trigger_setTrigger_of_ne _ _ hk, State.depart_lane_of_ne s hk]
          exact ⟨⟨pending, held⟩, early⟩
      · rw [if_neg hc]
        refine ⟨?_, early⟩
        by_cases hk : k = l
        · subst hk
          refine ⟨?_, ?_⟩
          · rw [State.depart, State.lane_setLane_same]
            exact pending
          · simp only [HoldBody.isTriggerOf, beq_iff_eq, Ne.symm hc, if_false, Nat.add_zero] at counted
            rw [← counted]
            exact held
        · rw [State.depart_lane_of_ne s hk]
          exact ⟨pending, held⟩
  exact ((released _).trans (State.offer_sound _ _)).trans (State.judgeWaits_sound _ l)

theorem State.releaseEntry_sound (s : State) (l : LaneId) {earlier later : List HoldEntry} {e : HoldEntry}
    (split : (s.lane l).hold = earlier ++ e :: later) : s.Sound (s.releaseEntry l earlier e later) := by
  cases body : e.body with
  | frame f =>
    rw [s.releaseEntry_frame l earlier later body]
    exact (s.releaseFrame_sound l split body).trans (State.endDrain_sound _ l)
  | trigger b i =>
    rw [s.releaseEntry_trigger l earlier later body]
    exact (s.releaseTrigger_sound l split body).trans (State.endDrain_sound _ l)

/-- The head of a reply queue leaves, and the wait count is 0 (R145, R185). -/
theorem State.sendReply_sound (s : State) (l : LaneId) (bytes : Bytes) : s.Sound (s.sendReply l bytes) := by
  refine s.setLane_sound l ⟨⟨fun fits => ?_, ?_⟩, fun _ => ⟨rfl, rfl⟩⟩
  · obtain ⟨frames, credits, notices, reports, requests, replies, -, share⟩ := fits
    refine ⟨frames, credits, notices, reports, requests, ?_, Nat.zero_le _, share⟩
    rw [List.length_tail]
    omega
  · rw [List.length_tail]
    omega

theorem State.sendExport_sound (s : State) (l : LaneId) : s.Sound (s.sendExport l) := by
  have exported : s.Sound { s with journal := s.journal.afterExport s.lt } := .of_same rfl rfl
  refine exported.trans (State.setLane_same_sound _ l (fun fits => ?_) rfl rfl rfl)
  obtain ⟨frames, credits, notices, reports, requests, replies, -, share⟩ := fits
  exact ⟨frames, credits, notices, reports, requests, replies, Nat.zero_le _, share⟩

theorem State.engineChoice_split {s : State} {l : LaneId} {earlier later : List HoldEntry} {e : HoldEntry}
    (h : s.engineChoice l = .release earlier e later) : (s.lane l).hold = earlier ++ e :: later := by
  have second : s.secondChoice l ≠ .release earlier e later := by
    unfold State.secondChoice
    split
    · exact nofun
    · split <;> exact nofun
  unfold State.engineChoice at h
  split at h
  · exact absurd h second
  · next candidate =>
    split at h
    · exact absurd h second
    · cases h
      exact firstEligible_split candidate

theorem execEngineEgressChoice_sound {l : LaneId} {s t : State} (h : execEngineEgressChoice l s = .next t) :
    s.Sound t := by
  cases h
  split
  · exact .refl s
  · split
    · exact s.setLane_counted_sound l (by rfl)
    · next chosen => exact s.releaseEntry_sound l (State.engineChoice_split chosen)
    · exact s.sendReply_sound l _
    · exact s.sendExport_sound l

/-! ### The gateway egress -/

theorem LaneUnit.noticeChoice_of_notice {u : LaneUnit} {n : Notice} {rest : List Notice}
    (h : u.noticeChoice = .notice n rest) : u.notices = n :: rest := by
  unfold LaneUnit.noticeChoice at h
  split at h
  · cases h
  · next same =>
    cases h
    exact same

/-- The report or the notice that the gateway egress chooses is the head of its queue (R147). -/
theorem LaneUnit.gatewayChoice_head (u : LaneUnit) :
    (∀ f rest, u.gatewayChoice = .report f rest → u.reports = f :: rest) ∧
      ∀ n rest, u.gatewayChoice = .notice n rest → u.notices = n :: rest := by
  have noReport (f : Bytes) (rest : List Bytes) : u.noticeChoice ≠ .report f rest := by
    unfold LaneUnit.noticeChoice
    split <;> exact nofun
  unfold LaneUnit.gatewayChoice
  refine ⟨fun f rest h => ?_, fun n rest h => ?_⟩
  · split at h
    · cases h
    · split at h
      · exact absurd h (noReport _ _)
      · split at h
        · next same =>
          cases h
          exact same
        · exact absurd h (noReport _ _)
  · split at h
    · cases h
    · split at h
      · exact LaneUnit.noticeChoice_of_notice h
      · split at h
        · cases h
        · exact LaneUnit.noticeChoice_of_notice h

theorem execGatewayEgressChoice_sound {l : LaneId} {s t : State} (h : execGatewayEgressChoice l s = .next t) :
    s.Sound t := by
  obtain ⟨report, notice⟩ := (s.lane l).gatewayChoice_head
  cases h
  dsimp only
  split
  · exact .refl s
  · split
    · exact s.setLane_counted_sound l (by rfl)
    · exact (s.setLane_counted_sound l (by rfl)).trans (State.offerLane_sound _ l _)
    · next chosen =>
      have head := report _ _ chosen
      refine s.setLane_same_sound l (fun fits => ?_) rfl rfl rfl
      obtain ⟨frames, credits, notices, reports, requests, replies, wait, share⟩ := id fits
      refine ⟨frames, credits, notices, ?_, requests, replies, wait, ?_⟩
      · rw [head, List.length_cons] at reports
        exact Nat.le_of_succ_le reports
      · unfold LaneUnit.shareAfterReport saturatingSucc
        split
        · exact share
        · exact Nat.min_le_right _ _
    · next chosen =>
      have head := notice _ _ chosen
      refine s.setLane_same_sound l (fun fits => ?_) rfl rfl rfl
      obtain ⟨frames, credits, notices, reports, requests, replies, wait, share⟩ := id fits
      refine ⟨frames, credits, ?_, reports, requests, replies, wait, Nat.zero_le _⟩
      rw [head, List.length_cons] at notices
      exact Nat.le_of_succ_le notices

/-! ### Expiries -/

theorem execReleaseExpiry_sound {l : LaneId} {s t : State} (h : execReleaseExpiry l s = .next t) : s.Sound t := by
  cases h
  split
  · exact .refl s
  · split
    · exact (s.setLane_counted_sound l (by rfl)).trans (State.judgeWaits_sound _ l)
    · exact .refl s

theorem execPlacementExpiry_sound {l : LaneId} {b : BookId} {s t : State} (h : execPlacementExpiry l b s = .next t) :
    s.Sound t := by
  cases h
  split
  · refine State.Sound.trans ?_ (State.placementTest_sound _ l)
    refine s.setLane_sound l ⟨⟨id, le_rfl⟩, fun c => ⟨?_, rfl⟩⟩
    rw [LaneUnit.pendingOf, List.countP_map]
    refine List.countP_congr fun p _ => ?_
    dsimp only [Function.comp]
    split <;> rfl
  · exact .refl s

theorem execFlushExpiry_sound {s t : State} (h : execFlushExpiry s = .next t) : s.Sound t := by
  cases h
  split
  · exact .refl s
  · split
    · exact .of_same rfl rfl
    · exact .refl s

theorem execSnapshotExpiry_sound {s t : State} (h : execSnapshotExpiry s = .next t) : s.Sound t := by
  cases h
  split
  · exact .refl s
  · split
    · exact .of_same rfl rfl
    · exact .refl s

/-! ### The close of a book -/

/-- A book that closes keeps its triggers and its draw (R103, R116, R117). -/
theorem State.closeBook_spec (s : State) {b : BookId} {k : Book} (r : RecordBody)
    (triggers : k.triggers = (s.book b).triggers) (closed : k.phase = .closed) (draw : k.draw = (s.book b).draw) :
    s.LanesSound ((s.setBook b k).offer r) ∧ ∀ c, (((s.setBook b k).offer r).book c).draw = (s.book c).draw := by
  refine ⟨(s.setBook_lanesSound b triggers fun _ => .inr closed).trans (State.offer_sound _ _).toLanesSound,
    fun c => ?_⟩
  refine (congrArg Book.draw (State.book_setBook s b c k)).trans ?_
  split
  · next same => rw [same, draw]
  · rfl

theorem State.confirm_spec (s : State) (b : BookId) (r : ConfirmResult) :
    s.LanesSound (s.confirm b r) ∧ ∀ c, ((s.confirm b r).book c).draw = (s.book c).draw := by
  have unexpected : s.LanesSound (s.unexpectedConfirmation b r) ∧
      ∀ c, ((s.unexpectedConfirmation b r).book c).draw = (s.book c).draw :=
    ⟨State.Sound.toLanesSound (.of_same rfl rfl), fun _ => rfl⟩
  unfold State.confirm
  split
  · exact s.closeBook_spec (k := { s.book b with phase := .closed, result := some r, uncrossAt := none }) _ rfl rfl rfl
  · split
    · exact ⟨(s.offer_sound _).toLanesSound, fun _ => rfl⟩
    · exact unexpected
  all_goals exact unexpected

theorem execUncrossDone_spec {l : LaneId} {f : Bytes} {s t : State} (h : execUncrossDone l f s = .next t) :
    s.LanesSound t ∧ ∀ c, (t.book c).draw = (s.book c).draw := by
  have same : s.LanesSound s ∧ ∀ c, (s.book c).draw = (s.book c).draw :=
    ⟨(State.Sound.refl s).toLanesSound, fun _ => rfl⟩
  cases h
  unfold State.bFrameEnds
  split
  · exact same
  · split
    · split
      · exact ⟨State.Sound.toLanesSound (.of_same rfl rfl), fun _ => rfl⟩
      · exact s.confirm_spec _ _
    · exact same

theorem execUncrossTimeout_spec {b : BookId} {s t : State} (h : execUncrossTimeout b s = .next t) :
    s.LanesSound t ∧ ∀ c, (t.book c).draw = (s.book c).draw := by
  cases h
  split
  · exact s.closeBook_spec (k := { s.book b with phase := .closed, uncrossAt := none }) _ rfl rfl rfl
  · exact ⟨(State.Sound.refl s).toLanesSound, fun _ => rfl⟩

end Sys2Proof.Machine
end

section
/-! PROOFS. The requests keep the lanes within their capacities, their triggers and the draws (R184 to R197). -/

namespace Sys2Proof.Machine

/-! ### Table writes -/

theorem serveMatch_sound (l : LaneId) (p : Bytes) (s : State) : s.Sound (serveMatch l p s).1 := by
  unfold serveMatch
  split
  · exact .refl s
  · split
    · exact .refl s
    · dsimp only
      split
      · exact .refl s
      · split
        · exact .refl s
        · exact .of_same rfl rfl

theorem serveClass_sound (l : LaneId) (p : Bytes) (s : State) : s.Sound (serveClass l p s).1 := by
  unfold serveClass
  split
  · exact .refl s
  · split
    · exact .refl s
    · split
      · exact .refl s
      · exact .of_same rfl rfl

/-- A STAMPING write keeps what follows its acceptance keeps. -/
theorem stampingTests_sound {known : Bool} {judge : State → Answer} {p : Bytes} {s : State}
    (h : s.Sound (judge s).1) : s.Sound (stampingTests known judge p s).1 := by
  unfold stampingTests
  split
  · exact .refl s
  · split
    · exact .refl s
    · split
      · exact .refl s
      · exact h

theorem stampingRange_sound (low high v : Nat) (w : Stamping) {after : State → State}
    (h : ∀ t, State.Sound t (after t)) (s : State) : s.Sound (stampingRange low high v w after s).1 := by
  unfold stampingRange
  split
  · have accepted : s.Sound (acceptStamping w s) := .of_same rfl rfl
    exact accepted.trans (h _)
  · exact .refl s

theorem serveEntryFrameType_sound (l : LaneId) (p : Bytes) (s : State) : s.Sound (serveEntryFrameType l p s).1 := by
  refine stampingTests_sound ?_
  dsimp only
  split
  · exact .refl s
  · exact stampingRange_sound _ _ _ _ .refl s

theorem serveClockSetting_sound (l : LaneId) (p : Bytes) (s : State) : s.Sound (serveClockSetting l p s).1 := by
  unfold serveClockSetting
  split
  · exact .refl s
  · split
    · exact .refl s
    · exact .of_same rfl rfl

theorem serveAutoSwitch_sound (l : LaneId) (p : Bytes) (s : State) : s.Sound (serveAutoSwitch l p s).1 := by
  unfold serveAutoSwitch
  split
  · exact .refl s
  · split
    · exact .refl s
    · exact .of_same rfl rfl

theorem State.afterEnable_sound (s : State) (ref : RefLine) (on changed : Bool) :
    s.Sound (s.afterEnable ref on changed) := by
  have recorded (e : ClockEvent) : s.Sound (s.offerClock e ref) := .of_same rfl rfl
  unfold State.afterEnable
  split
  · exact .refl s
  · split
    · exact recorded _
    · dsimp only
      split
      · exact (recorded _).trans (State.lossOfSelected_sound _)
      · exact recorded _

theorem serveReferenceEnable_sound (l : LaneId) (p : Bytes) (s : State) : s.Sound (serveReferenceEnable l p s).1 := by
  unfold serveReferenceEnable
  split
  · exact .refl s
  · split
    · exact .refl s
    · refine State.Sound.trans ?_ (State.afterEnable_sound _ _ _ _)
      exact .of_same (by simp) (by simp)

theorem serveExportLane_sound (l : LaneId) (p : Bytes) (s : State) : s.Sound (serveExportLane l p s).1 := by
  unfold serveExportLane
  split
  · exact .refl s
  · split
    · exact .refl s
    · split
      · exact .refl s
      · exact .of_same rfl rfl

theorem serveFlushInterval_sound (l : LaneId) (p : Bytes) (s : State) : s.Sound (serveFlushInterval l p s).1 := by
  unfold serveFlushInterval
  dsimp only
  split
  · exact .refl s
  · split
    · exact .of_same rfl rfl
    · exact .refl s

theorem serveCounter_sound (l : LaneId) (p : Bytes) (s : State) : s.Sound (serveCounter l p s).1 := by
  unfold serveCounter
  split
  · exact .refl s
  · split
    · exact .refl s
    · exact .of_same rfl rfl

theorem serveSnapshotPeriod_sound (l : LaneId) (p : Bytes) (s : State) : s.Sound (serveSnapshotPeriod l p s).1 := by
  unfold serveSnapshotPeriod
  split
  · exact .refl s
  · exact .of_same rfl rfl

theorem serveTableRead_sound (l : LaneId) (p : Bytes) (s : State) : s.Sound (serveTableRead l p s).1 := by
  unfold serveTableRead
  split
  · exact .refl s
  · split <;> exact .refl s

theorem serveLaneWrite_sound (l : LaneId) (p : Bytes) (s : State) : s.Sound (serveLaneWrite l p s).1 := by
  have written (k : LaneId) (w : LaneWrite) (c : Bytes) :
      s.Sound (((s.setLane k ((s.lane k).written w)).offerTable .lane k.val c).installPending k) := by
    have set := s.setLane_counted_sound k (u := (s.lane k).written w) rfl
    have recorded (t : State) : t.Sound (t.offerTable .lane k.val c) := .of_same rfl rfl
    exact (set.trans (recorded _)).trans (State.installPending_sound _ k)
  unfold serveLaneWrite
  split
  · exact .refl s
  dsimp only
  split
  · exact .refl s
  split
  · exact .refl s
  split
  · exact .refl s
  split
  · exact .refl s
  · exact written _ _ _

/-! ### Clock commands -/

theorem State.commandAcquire_sound (s : State) : s.Sound s.commandAcquire := by
  have entered : s.Sound s.enterAcquire := by
    unfold State.enterAcquire
    dsimp only
    split
    · exact s.switchReference_sound
    · exact .of_same rfl rfl
  unfold State.commandAcquire
  split
  · exact entered
  · exact entered
  · exact .refl s
  · exact .refl s

theorem serveAcquire_sound (l : LaneId) (p : Bytes) (s : State) : s.Sound (serveAcquire l p s).1 := by
  unfold serveAcquire
  split
  · exact .refl s
  · exact s.commandAcquire_sound

theorem serveRelease_sound (l : LaneId) (p : Bytes) (s : State) : s.Sound (serveRelease l p s).1 := by
  obtain ⟨-, -, -, -, j, e, frame⟩ := s.enterFree_effect
  have freed : s.Sound s.enterFree :=
    .of_same ((congrArg State.lanes frame).trans rfl) ((congrArg State.books frame).trans rfl)
  unfold serveRelease
  split
  · exact .refl s
  all_goals exact freed

theorem State.select_sound (s : State) (ref : RefLine) : s.Sound (s.select ref) := by
  unfold State.select
  split
  · exact .refl s
  · dsimp only
    split <;> exact .of_same rfl rfl

theorem State.clearMissingOf_sound (s : State) (ref : RefLine) : s.Sound (s.clearMissingOf ref) := by
  unfold State.clearMissingOf
  dsimp only
  split
  · exact (s.setMonitor_sound _ _).trans (.of_same rfl rfl)
  · exact s.setMonitor_sound _ _

/-! ### Lane commands -/

theorem onCommandedLane_sound {code : Nat} {p : Bytes} {s : State} {take : LaneId → Answer}
    (h : ∀ l, s.Sound (take l).1) : s.Sound (onCommandedLane code p s take).1 := by
  unfold onCommandedLane
  split
  · exact .refl s
  · split
    · exact .refl s
    · exact h _

theorem State.enterState_sound (s : State) (l : LaneId) (st : LaneState) (e : LaneEvent) :
    s.Sound (s.enterState l st e) :=
  (s.setLane_counted_sound l (u := { s.lane l with state := st }) rfl).trans (State.offerLane_sound _ l e)

theorem State.supersedeDrain_sound (s : State) (l : LaneId) : s.Sound (s.supersedeDrain l) :=
  s.completeReply_sound l _ _ _

theorem serveEnable_sound (l : LaneId) (p : Bytes) (s : State) : s.Sound (serveEnable l p s).1 := by
  refine onCommandedLane_sound fun k => ?_
  split
  · exact s.enterState_sound _ _ _
  · exact .refl s
  · exact (s.enterState_sound _ _ _).trans (State.supersedeDrain_sound _ _)
  · exact .refl s

theorem serveDrain_sound (l : LaneId) (p : Bytes) (s : State) : s.Sound (serveDrain l p s).1 := by
  refine onCommandedLane_sound fun k => ?_
  split
  · exact .refl s
  · unfold State.startDrain
    split <;> exact s.enterState_sound _ _ _
  · exact .refl s
  · exact .refl s

theorem serveDisable_sound (l : LaneId) (p : Bytes) (s : State) : s.Sound (serveDisable l p s).1 := by
  refine onCommandedLane_sound fun k => ?_
  split
  · exact .refl s
  · exact s.enterState_sound _ _ _
  · exact (s.enterState_sound _ _ _).trans (State.supersedeDrain_sound _ _)
  · exact .refl s

theorem State.startProbing_sound (s : State) (l : LaneId) (ret : ReturnState) : s.Sound (s.startProbing l ret).1 := by
  have entered : s.Sound (s.enterProbing l ret) :=
    (s.setLane_counted_sound l (by rfl)).trans (State.offerLane_sound _ l _)
  unfold State.startProbing
  split
  · exact .refl s
  · split
    · exact entered
    · exact entered.trans (State.probeFail_sound _ l)

theorem serveProbe_sound (l : LaneId) (p : Bytes) (s : State) : s.Sound (serveProbe l p s).1 := by
  refine onCommandedLane_sound fun k => ?_
  split
  · exact s.startProbing_sound _ _
  · exact s.startProbing_sound _ _
  · exact .refl s
  · exact .refl s

/-! ### Journal requests and the datapath reset -/

theorem serveJournalRelease_sound (l : LaneId) (p : Bytes) (s : State) : s.Sound (serveJournalRelease l p s).1 := by
  unfold serveJournalRelease
  dsimp only
  split
  · exact .refl s
  · exact .of_same rfl rfl

theorem serveJournalResend_sound (l : LaneId) (p : Bytes) (s : State) : s.Sound (serveJournalResend l p s).1 := by
  unfold serveJournalResend
  dsimp only
  split
  · exact .of_same rfl rfl
  · exact .refl s

/-- Frames, notices, reports and credits are gone; the TRIGGER entries stay (steps 4 to 6 of R74). -/
theorem LaneUnit.emptied_steady (u : LaneUnit) : u.Steady u.emptied := by
  refine ⟨⟨fun fits => ?_, le_rfl⟩, fun b => ⟨rfl, ?_⟩⟩
  · obtain ⟨frames, -, -, -, requests, replies, wait, -⟩ := fits
    exact ⟨(List.filter_sublist.countP_le).trans frames, Nat.zero_le _, Nat.zero_le _, Nat.zero_le _, requests, replies,
      wait, Nat.zero_le _⟩
  · rw [LaneUnit.heldOf, LaneUnit.emptied, List.countP_filter]
    refine List.countP_congr fun e _ => ?_
    unfold HoldEntry.isTriggerOf HoldEntry.isFrame
    cases e.body <;> simp

theorem State.emptiedAndDisabled_sound (s : State) (l : LaneId) : s.Sound (s.emptiedAndDisabled l) := by
  refine .of_lanes (fun k => ?_) (State.judgeWaits_books _ l)
  by_cases hk : k = l
  · subst hk
    obtain ⟨hold, same, lane⟩ := s.emptiedAndDisabled_lane k
    rw [lane]
    have emptied := (s.lane k).emptied_steady
    have disabled : (s.lane k).emptied.Steady { (s.lane k).emptied with hold := hold } := .of_bodies same rfl
    have both := emptied.toWithin.trans disabled.toWithin
    exact ⟨⟨both.fits, both.replies⟩, fun b =>
      ⟨(disabled.triggers b).1.trans (emptied.triggers b).1, (disabled.triggers b).2.trans (emptied.triggers b).2⟩⟩
  · rw [s.emptiedAndDisabled_lane_of_ne hk]
    exact .refl _

theorem State.flushLane_sound (s : State) (l : LaneId) : s.Sound (s.flushLane l) := by
  have cut : s.Sound (s.cutOff l) := (s.abandonReception_sound l).trans (State.failProbe_sound _ l)
  have ended (t : State) : t.Sound (t.endDrainByReset l) := by
    unfold State.endDrainByReset
    split
    · exact t.supersedeDrain_sound l
    · exact .refl t
  rw [State.flushLane_eq]
  exact (cut.trans (ended _)).trans (State.emptiedAndDisabled_sound _ l)

theorem serveDatapathReset_sound (l : LaneId) (p : Bytes) (s : State) : s.Sound (serveDatapathReset l p s).1 := by
  have flushed (ls : List LaneId) (t : State) : t.Sound (flushLanes ls t).1 := by
    induction ls generalizing t with
    | nil => exact .refl t
    | cons k ls ih => exact (t.flushLane_sound k).trans (ih _)
  unfold serveDatapathReset
  split
  · exact .refl s
  · exact flushed _ s

/-! ### Requests of the books -/

/-- A book in IDLE, or CLOSED with no trigger waiting, has no trigger in a lane, so it may start anew (R97, R119). -/
theorem State.restartBook_lanesSound (s : State) {b : BookId} {k : Book} (r : RecordBody)
    (idle : ¬ (s.book b).phase.hasTriggers ∨ (s.book b).triggerWaiting = false)
    (triggers : k.triggers = Vector.replicate 4 .none) : s.LanesSound ((s.setBook b k).offer r) := by
  refine State.LanesSound.trans (t := s.setBook b k) ⟨fun _ => .refl _, fun matching => ?_⟩
    (State.offer_sound _ r).toLanesSound
  rw [State.triggersMatch_iff] at matching ⊢
  intro l c
  rw [State.lane_setBook, State.book_setBook]
  obtain ⟨⟨pending, held⟩, early⟩ := matching l c
  split
  · next same =>
    subst same
    have none : k.trigger l = .none := by
      rw [Book.trigger, triggers]
      simp
    have still : (s.book c).trigger l ≠ .pending ∧ (s.book c).trigger l ≠ .held := by
      rcases idle with before | unwaiting
      · rw [early before]
        exact ⟨nofun, nofun⟩
      · have := mt (Book.triggerWaiting_iff (s.book c)).mpr (by simp [unwaiting])
        push Not at this
        exact this l
    rw [none]
    exact ⟨⟨pending.trans (if_neg still.1), held.trans (if_neg still.2)⟩, fun _ => rfl⟩
  · exact ⟨⟨pending, held⟩, early⟩

theorem State.restartBook_sound (s : State) {b : BookId} {k : Book} (r : RecordBody)
    (undrawn : ¬ (s.book b).phase.drawn) (idle : ¬ (s.book b).phase.hasTriggers ∨ (s.book b).triggerWaiting = false)
    (triggers : k.triggers = Vector.replicate 4 .none) : s.Sound ((s.setBook b k).offer r) :=
  ⟨s.restartBook_lanesSound r idle triggers, s.setBook_draws b fun drawn => absurd drawn undrawn⟩

theorem State.judgeArm_sound (s : State) (b : BookId) (p : Bytes)
    (phase : (s.book b).phase = .idle ∨ (s.book b).phase = .closed) : s.Sound (s.judgeArm b p).1 := by
  unfold State.judgeArm
  dsimp only
  split
  · exact .refl s
  next unwaiting =>
  split
  · exact .refl s
  split
  · exact .refl s
  split
  · exact .refl s
  · refine s.restartBook_sound (k := { Book.idle with phase := _, arming := _ }) _ ?_ ?_ rfl
    · rcases phase with phase | phase <;> simp [phase, Phase.drawn]
    · rcases phase with phase | phase
      · exact .inl (by simp [phase, Phase.hasTriggers])
      · exact .inr (Bool.eq_false_iff.mpr fun waiting => unwaiting ⟨phase, waiting⟩)

theorem serveBookArm_sound (l : LaneId) (p : Bytes) (s : State) : s.Sound (serveBookArm l p s).1 := by
  unfold serveBookArm
  split
  · exact .refl s
  · split
    · exact .refl s
    · exact .refl s
    · exact .refl s
    · exact .refl s
    · exact .refl s
    · next phase => exact s.judgeArm_sound _ _ (.inl phase)
    · next phase => exact s.judgeArm_sound _ _ (.inr phase)

theorem serveBookDisarm_sound (l : LaneId) (p : Bytes) (s : State) : s.Sound (serveBookDisarm l p s).1 := by
  unfold serveBookDisarm
  split
  · exact .refl s
  · split
    · next phase =>
      exact s.restartBook_sound _ (by simp [phase, Phase.drawn]) (.inl (by simp [phase, Phase.hasTriggers])) rfl
    · next phase =>
      split
      · exact .refl s
      · next unwaiting =>
        exact s.restartBook_sound _ (by simp [phase, Phase.drawn]) (.inr (Bool.eq_false_iff.mpr unwaiting)) rfl
    all_goals exact .refl s

theorem serveBookExtend_lanesSound (l : LaneId) (p : Bytes) (s : State) : s.LanesSound (serveBookExtend l p s).1 := by
  have same : s.LanesSound s := (State.Sound.refl s).toLanesSound
  have moved (b : BookId) {k : Book} (r : RecordBody) (triggers : k.triggers = (s.book b).triggers)
      (phase : k.phase = (s.book b).phase) : s.LanesSound ((s.setBook b k).offer r) :=
    (s.setBook_lanesSound b triggers fun late => phase ▸ late).trans (State.offer_sound _ r).toLanesSound
  unfold serveBookExtend
  split
  · exact same
  · split
    · exact same
    · unfold State.judgeExtend
      split
      · exact same
      · exact same
      · exact same
      · exact same
      · exact same
      · exact moved _ (k := { s.book _ with arming := some _ }) _ rfl rfl
      · exact moved _ (k := { s.book _ with arming := some _, draw := some _ }) _ rfl rfl
      · exact same
      · exact same
      · exact same

end Sys2Proof.Machine
end

section
/-! PROOFS. The capacities and the triggers that every step keeps, and the draws that only an extension moves. -/

namespace Sys2Proof.Machine

/-! ### The taking of a request -/

/-- The lanes fit, and their triggers are as the books have them, where they were so before. -/
structure State.KeepsLanes (s t : State) : Prop where
  fits : s.LanesFit → t.LanesFit
  triggers : s.TriggersMatch → t.TriggersMatch

/-- With that, every book after its draw keeps the draw. -/
structure State.KeepsDraws (s t : State) : Prop extends s.KeepsLanes t where
  draws : ∀ b, (s.book b).phase.drawn → (t.book b).draw = (s.book b).draw

theorem State.LanesSound.keepsLanes {s t : State} (h : s.LanesSound t) : s.KeepsLanes t :=
  ⟨fun fits l => (h.lanes l).fits (fits l), h.triggers⟩

theorem State.Sound.keepsDraws {s t : State} (h : s.Sound t) : s.KeepsDraws t :=
  ⟨h.toLanesSound.keepsLanes, fun b drawn => (h.draws b drawn).2⟩

/-- The lane that is served next has a place in its reply queue (R186). -/
theorem State.replies_of_nextRequest {s : State} {l : LaneId} {f : Bytes} (h : s.nextRequest = some (l, f)) :
    (s.lane l).replies.length < 8 := by
  obtain ⟨k, served, head⟩ := Option.bind_eq_some_iff.mp h
  obtain ⟨frame, -, same⟩ := Option.map_eq_some_iff.mp head
  cases same
  have servable := List.find?_some served
  rw [LaneUnit.servable, Bool.and_eq_true, decide_eq_true_eq] at servable
  exact servable.2

theorem State.popRequest_sound (s : State) (l : LaneId) : s.Sound (s.popRequest l) := by
  have moved : s.Sound { s with pointer := nextLane l } := .of_same rfl rfl
  refine moved.trans (State.setLane_same_sound _ l (fun fits => ?_) rfl rfl rfl)
  obtain ⟨frames, credits, notices, reports, requests, rest⟩ := fits
  refine ⟨frames, credits, notices, reports, ?_, rest⟩
  rw [List.length_tail]
  exact (Nat.sub_le _ _).trans requests

/-- A reply joins a queue that has a place for it (R185, R187). -/
theorem State.placeReply_lanesFit {s : State} (fits : s.LanesFit) {l : LaneId} (room : (s.lane l).replies.length < 8)
    (r : Reply) : (s.placeReply l r).LanesFit := by
  intro k
  rw [State.placeReply, State.lane_setLane]
  split
  · next same =>
    obtain ⟨frames, credits, notices, reports, requests, -, rest⟩ := fits l
    exact ⟨frames, credits, notices, reports, requests, by rw [List.length_append]; exact room, rest⟩
  · exact fits k

theorem State.placeReply_triggersMatch {s : State} (h : s.TriggersMatch) (l : LaneId) (r : Reply) :
    (s.placeReply l r).TriggersMatch := by
  rw [State.triggersMatch_iff] at h ⊢
  intro k b
  rw [State.placeReply, State.lane_setLane]
  split
  · next same => exact same ▸ h k b
  · exact h k b

/-- What a request does to the lanes: it leaves its queue, is judged, and its reply has a place (R184 to R187). -/
theorem State.takeRequest_keepsLanes (s : State) (row : Instr) {serve : LaneId → Bytes → State → Answer}
    (h : ∀ l p t, State.LanesSound t (serve l p t).1) : s.KeepsLanes (s.takeRequest row serve) := by
  unfold State.takeRequest
  split
  · exact ⟨id, id⟩
  · next l frame next =>
    dsimp only
    split
    · generalize answered : (if tooShort (payload frame) = true then refuseWith .badValue (s.popRequest l)
        else serve l (payload frame) (s.popRequest l)) = a
      have sound : s.LanesSound a.1 := by
        refine (s.popRequest_sound l).toLanesSound.trans ?_
        rw [← answered]
        split
        · exact (State.Sound.refl _).toLanesSound
        · exact h _ _ _
      have room : (a.1.lane l).replies.length < 8 :=
        lt_of_le_of_lt (sound.lanes l).replies (State.replies_of_nextRequest next)
      exact ⟨fun fits => State.placeReply_lanesFit (sound.keepsLanes.fits fits) room _,
        fun matching => State.placeReply_triggersMatch (sound.triggers matching) l _⟩
    · exact ⟨id, id⟩

/-- What a request does to a book follows from its judgement (R187). -/
theorem State.takeRequest_book {P : Book → Book → Prop} (refl : ∀ k, P k k) (s : State) (row : Instr)
    {serve : LaneId → Bytes → State → Answer} (b : BookId)
    (h : ∀ l p t, P (t.book b) ((serve l p t).1.book b)) : P (s.book b) ((s.takeRequest row serve).book b) := by
  unfold State.takeRequest
  split
  · exact refl _
  · next l frame _ =>
    dsimp only
    split
    · split
      · exact refl _
      · exact h l (payload frame) (s.popRequest l)
    · exact refl _

theorem keepsDraws_of_request {s t : State} {row : Instr} {serve : LaneId → Bytes → State → Answer}
    (h : (.next (s.takeRequest row serve) : Result) = .next t) (sound : ∀ l p u, State.Sound u (serve l p u).1) :
    s.KeepsDraws t := by
  cases h
  refine ⟨s.takeRequest_keepsLanes row fun l p u => (sound l p u).toLanesSound, fun b drawn => ?_⟩
  exact State.takeRequest_book (P := fun k k' => k.phase.drawn → k'.draw = k.draw) (fun _ _ => rfl) s row b
    (fun l p u drawn => ((sound l p u).draws b drawn).2) drawn

/-! ### Every command -/

theorem keepsDraws_of_close {s t : State} (h : s.LanesSound t ∧ ∀ c, (t.book c).draw = (s.book c).draw) :
    s.KeepsDraws t := ⟨h.1.keepsLanes, fun b _ => h.2 b⟩

/-- Every command but the reset input and an extension keeps the lanes, their triggers and the draws. -/
theorem exec_keepsDraws {c : Instr} {s t : State} (reset : c ≠ .powerOnReset) (extend : c ≠ .bookExtend)
    (h : exec c s = .next t) : s.KeepsDraws t := by
  cases c with
  | powerOnReset => exact absurd rfl reset
  | bookExtend => exact absurd rfl extend
  | announcementReceived ref m => exact (execAnnouncementReceived_sound h).keepsDraws
  | markerEdge ref => exact (execMarkerEdge_sound h).keepsDraws
  | armExpiry ref => exact (execArmExpiry_sound h).keepsDraws
  | announcementExpiry ref => exact (execAnnouncementExpiry_sound h).keepsDraws
  | guardExpiry ref => exact (execGuardExpiry_sound h).keepsDraws
  | growthExpiry => exact (execGrowthExpiry_sound h).keepsDraws
  | aLinkLost l => exact (execALinkLost_sound h).keepsDraws
  | aLinkReturned l => exact (execALinkReturned_sound h).keepsDraws
  | bLinkLost l r => exact (execBLinkLost_sound h).keepsDraws
  | bLinkReturned l => exact (execBLinkReturned_sound h).keepsDraws
  | startOfFrame l => exact (execStartOfFrame_sound h).keepsDraws
  | aFrameDiscarded l f => exact (execAFrameDiscarded_sound h).keepsDraws
  | entryFrame l f =>
    cases h
    exact (s.frameEnds_sound l f _ fun rx => s.handleEntry_sound l f rx).keepsDraws
  | foreignFrame l f =>
    cases h
    exact (s.frameEnds_sound l f _ fun rx => s.handleForeign_sound l f rx).keepsDraws
  | aControlFrame l f =>
    cases h
    exact (s.frameEnds_sound l f _ fun _ => s.countLane_sound l _).keepsDraws
  | probeReturn l f => exact (execProbeReturn_sound h).keepsDraws
  | probeTimeout l => exact (execProbeTimeout_sound h).keepsDraws
  | bFrameDiscarded l f => exact (execBFrameDiscarded_sound h).keepsDraws
  | reportFrame l f =>
    cases h
    exact (s.bFrameEnds_sound l f _ (s.offerReport_sound l f)).keepsDraws
  | controlRequestArrival l f =>
    cases h
    exact (s.bFrameEnds_sound l f _ (s.offerRequest_sound l f)).keepsDraws
  | shortControlFrame l f =>
    cases h
    exact (s.bFrameEnds_sound l f _ (s.countShort_sound l)).keepsDraws
  | bControlDiscarded l f =>
    cases h
    exact (s.bFrameEnds_sound l f _ (s.countLane_sound l _)).keepsDraws
  | creditGrant l f => exact (execCreditGrant_sound h).keepsDraws
  | uncrossDone l f => exact keepsDraws_of_close (execUncrossDone_spec h)
  | releaseExpiry l => exact (execReleaseExpiry_sound h).keepsDraws
  | placementExpiry l b => exact (execPlacementExpiry_sound h).keepsDraws
  | engineEgressChoice l => exact (execEngineEgressChoice_sound h).keepsDraws
  | gatewayEgressChoice l => exact (execGatewayEgressChoice_sound h).keepsDraws
  | tcExpiry b => cases h; exact (s.takeExpiry_sound _ b).keepsDraws
  | twExpiry b => cases h; exact (s.takeExpiry_sound _ b).keepsDraws
  | eExpiry b => cases h; exact (s.takeExpiry_sound _ b).keepsDraws
  | uncrossExpiry b => cases h; exact (s.takeExpiry_sound _ b).keepsDraws
  | uncrossTimeout b => exact keepsDraws_of_close (execUncrossTimeout_spec h)
  | flushExpiry => exact (execFlushExpiry_sound h).keepsDraws
  | snapshotExpiry => exact (execSnapshotExpiry_sound h).keepsDraws
  | tableWriteMatch => exact keepsDraws_of_request h serveMatch_sound
  | tableWriteClass => exact keepsDraws_of_request h serveClass_sound
  | tableWriteLane => exact keepsDraws_of_request h serveLaneWrite_sound
  | tableWriteH =>
    exact keepsDraws_of_request h fun _ _ u =>
      stampingTests_sound (stampingRange_sound _ _ _ _ State.judgeGrade_sound u)
  | tableWriteL =>
    exact keepsDraws_of_request h fun _ _ u =>
      stampingTests_sound (stampingRange_sound _ _ _ _ State.judgeGrade_sound u)
  | tableWriteDayOrigin =>
    exact keepsDraws_of_request h fun _ _ u => stampingTests_sound (stampingRange_sound _ _ _ _ State.Sound.refl u)
  | tableWriteEntryFrameType => exact keepsDraws_of_request h serveEntryFrameType_sound
  | tableWriteQ =>
    exact keepsDraws_of_request h fun _ _ u => stampingTests_sound (stampingRange_sound _ _ _ _ State.Sound.refl u)
  | tableWriteClockSetting => exact keepsDraws_of_request h serveClockSetting_sound
  | tableWriteAutoSwitch => exact keepsDraws_of_request h serveAutoSwitch_sound
  | tableWriteReferenceEnable => exact keepsDraws_of_request h serveReferenceEnable_sound
  | tableWriteExportLane => exact keepsDraws_of_request h serveExportLane_sound
  | tableWriteFlushInterval => exact keepsDraws_of_request h serveFlushInterval_sound
  | tableWriteCounter => exact keepsDraws_of_request h serveCounter_sound
  | tableWriteSnapshotPeriod => exact keepsDraws_of_request h serveSnapshotPeriod_sound
  | tableRead => exact keepsDraws_of_request h serveTableRead_sound
  | bookArm => exact keepsDraws_of_request h serveBookArm_sound
  | bookDisarm => exact keepsDraws_of_request h serveBookDisarm_sound
  | bookSeed => exact keepsDraws_of_request h fun _ _ _ => .of_same rfl rfl
  | acquire => exact keepsDraws_of_request h serveAcquire_sound
  | release => exact keepsDraws_of_request h serveRelease_sound
  | selectA => exact keepsDraws_of_request h fun _ _ u => u.select_sound .a
  | selectB => exact keepsDraws_of_request h fun _ _ u => u.select_sound .b
  | clearMissing =>
    exact keepsDraws_of_request h fun _ _ u => (u.clearMissingOf_sound .a).trans (State.clearMissingOf_sound _ .b)
  | enable => exact keepsDraws_of_request h serveEnable_sound
  | drain => exact keepsDraws_of_request h serveDrain_sound
  | disable => exact keepsDraws_of_request h serveDisable_sound
  | probe => exact keepsDraws_of_request h serveProbe_sound
  | journalRelease => exact keepsDraws_of_request h serveJournalRelease_sound
  | journalResend => exact keepsDraws_of_request h serveJournalResend_sound
  | counterRead => exact keepsDraws_of_request h fun _ _ u => .refl u
  | counterClear => exact keepsDraws_of_request h fun _ _ _ => .of_same rfl rfl
  | statusRead => exact keepsDraws_of_request h fun _ _ u => .refl u
  | datapathReset => exact keepsDraws_of_request h serveDatapathReset_sound
  | unknownRequest => exact keepsDraws_of_request h fun _ _ u => .refl u

/-! ### The obligations -/

/-- The reset input leaves lanes within their capacities and no trigger, whatever came before (R42). -/
theorem execPowerOnReset_keepsLanes {s t : State} (h : execPowerOnReset s = .next t) : s.KeepsLanes t := by
  obtain ⟨-, fits, -, -, -, matching⟩ := resetMeetsInvariants
  cases h
  exact ⟨fun _ => fits, fun _ => matching⟩

theorem exec_keepsLanes {c : Instr} {s t : State} (h : exec c s = .next t) : s.KeepsLanes t := by
  by_cases reset : c = .powerOnReset
  · subst reset
    exact execPowerOnReset_keepsLanes h
  by_cases extend : c = .bookExtend
  · subst extend
    cases h
    exact s.takeRequest_keepsLanes _ serveBookExtend_lanesSound
  · exact (exec_keepsDraws reset extend h).toKeepsLanes

theorem step_keepsLanes {s t : State} (h : step s = .next t) : s.KeepsLanes t := by
  rcases step_cases h with ⟨-, ticked⟩ | ⟨c, rest, -, executed⟩
  · subst ticked
    exact ⟨id, id⟩
  · obtain ⟨fits, triggers⟩ := exec_keepsLanes executed
    exact ⟨fits, triggers⟩

/-- Settles O55: every command keeps the capacities and the triggers, which are at most eight where they match. -/
theorem stepKeepsLanesFit : Obligations.StepKeepsLanesFit := by
  refine ⟨fun s t fits h => (step_keepsLanes h).fits fits, fun s t matching h => (step_keepsLanes h).triggers matching,
    fun s matching l => triggerCount_le_of_heldOf fun b => ?_⟩
  obtain ⟨⟨-, held⟩, -⟩ := s.triggersMatch_iff.mp matching l b
  rw [held]
  split <;> omega

/-- What an extension may do to a book after its draw: nothing, or, in WINDOW, move its end forward (R112, R113). -/
def Book.Extends (k k' : Book) : Prop :=
  ∀ d, k.draw = some d → k.phase.drawn →
    ∃ n, k'.draw = some { d with endInstant := d.endInstant + n } ∧ (k.phase ≠ .window → n = 0)

theorem Book.Extends.of_draw {k k' : Book} (same : k.phase.drawn → k'.draw = k.draw) : k.Extends k' :=
  fun _ draw phase => ⟨0, (same phase).trans draw, fun _ => rfl⟩

/-- Another book is left alone; this one changes as given. -/
theorem State.setBook_extends (s : State) {b : BookId} {k : Book} (r : RecordBody) (h : (s.book b).Extends k)
    (c : BookId) : (s.book c).Extends (((s.setBook b k).offer r).book c) := by
  have book : ((s.setBook b k).offer r).book c = if c = b then k else s.book c := State.book_setBook ..
  rw [book]
  split
  · next same => exact same ▸ h
  · exact .of_draw fun _ => rfl

/-- An extension in WINDOW moves the end of its book by what is applied (R113). -/
theorem State.extendWindow_extends (s : State) {b : BookId} {d : Draw} (phase : (s.book b).phase = .window)
    (draw : (s.book b).draw = some d) (a : Arming) (ext : Nat) (c : BookId) :
    (s.book c).Extends ((s.extendWindow b a d ext).1.book c) := by
  refine s.setBook_extends (k := { s.book b with arming := some _, draw := some _ }) _ (fun d' draw' _ => ?_) c
  cases draw.symm.trans draw'
  exact ⟨appliedExtension ext a.extension * Config.milli, rfl, fun other => absurd phase other⟩

theorem serveBookExtend_extends (l : LaneId) (p : Bytes) (s : State) (b : BookId) :
    (s.book b).Extends ((serveBookExtend l p s).1.book b) := by
  have same : (s.book b).Extends (s.book b) := .of_draw fun _ => rfl
  unfold serveBookExtend
  split
  · exact same
  split
  · exact same
  unfold State.judgeExtend
  split
  · exact same
  · exact same
  · exact same
  · exact same
  · exact same
  · exact s.setBook_extends (k := { s.book _ with arming := some _ }) _ (.of_draw fun _ => rfl) b
  · next phase _ draw => exact s.extendWindow_extends phase draw _ _ b
  · exact same
  · exact same
  · exact same

/-- Settles O60: an extension moves the end in WINDOW, and no other command moves anything of the draw. -/
theorem drawStaysInAuction : Obligations.DrawStaysInAuction := by
  intro s t b d c phase draw reset h
  by_cases extend : c = .bookExtend
  · subst extend
    cases h
    obtain ⟨n, drawn, fixed⟩ := State.takeRequest_book (P := Book.Extends) (fun _ => .of_draw fun _ => rfl) s
      .bookExtend b (fun l p u => serveBookExtend_extends l p u b) d draw phase
    exact ⟨_, drawn, rfl, rfl, rfl, Nat.le_add_right _ _, fun other => by rw [fixed other, Nat.add_zero],
      fun no => absurd rfl no⟩
  · have same := (exec_keepsDraws reset extend h).draws b phase
    exact ⟨d, same.trans draw, rfl, rfl, rfl, le_rfl, fun _ => rfl, fun _ => rfl⟩

end Sys2Proof.Machine
end

section
/-! PROOFS. The draw of a book, and the order in which the End Generator serves the books (R106, R107, R109). -/

namespace Sys2Proof.Machine

/-! ### The draw -/

theorem advanceGenerator_toNat (g : BitVec 32) :
    (advanceGenerator g).toNat = (2147001325 * g.toNat + 715136305) % 2 ^ 32 := by
  rw [advanceGenerator, BitVec.toNat_ofNat]
  exact Nat.mod_mod _ _

/-- An offset lies in the window (R106). -/
theorem drawOffset_le (x : BitVec 32) (w : Nat) : drawOffset x w ≤ w := by
  have below : x.toNat * (w + 1) < 4294967296 * (w + 1) := Nat.mul_lt_mul_of_pos_right x.isLt w.succ_pos
  exact Nat.le_of_lt_succ (Nat.div_lt_of_lt_mul below)

/-! ### Which draws are due -/

theorem Book.drawsBy_iff (k : Book) (limit : Nat) : k.drawsBy limit = true ↔
    ∃ a, k.arming = some a ∧ a.tw ≤ limit ∧ (k.phase = .call ∨ (k.phase = .armed ∧ a.tc ≤ limit)) := by
  unfold Book.drawsBy
  cases arming : k.arming with
  | none => cases k.phase <;> simp
  | some a => cases phase : k.phase <;> simp [and_comm]

theorem State.drawDue_iff (s : State) (b : BookId) : s.DrawDue b ↔ (s.book b).drawsBy s.lt = true :=
  (Book.drawsBy_iff _ _).symm

theorem Book.drawsBy_of_withoutTriggers {k k' : Book} (h : k'.withoutTriggers = k.withoutTriggers) (limit : Nat) :
    k'.drawsBy limit = k.drawsBy limit := by
  rw [Book.drawsBy, Book.drawsBy, Book.phase_of_withoutTriggers h, Book.arming_of_withoutTriggers h]

theorem Book.boundary_of_withoutTriggers {k k' : Book} (h : k'.withoutTriggers = k.withoutTriggers) :
    k'.boundary = k.boundary := by
  have draw : k'.draw = k.draw := congrArg (fun x => x.2.2.1) h
  rw [Book.boundary, Book.boundary, Book.phase_of_withoutTriggers h, Book.arming_of_withoutTriggers h, draw]

/-- A book that has drawn has no draw due. -/
theorem State.not_drawDue_of_drawn {s : State} {b : BookId} (h : (s.book b).phase.drawn) : ¬ s.DrawDue b := by
  rintro ⟨a, -, -, due⟩
  rcases h with h | h | h <;> simp [h] at due

theorem State.serveDraw_of_not_due {s : State} {b : BookId} (h : ¬ s.DrawDue b) : s.serveDraw b = s :=
  State.serveDraw_of_not_draws (Bool.eq_false_iff.mpr (mt (s.drawDue_iff b).mpr h))

theorem State.serveDraw_of_due {s : State} {b : BookId} (h : s.DrawDue b) :
    s.serveDraw b = State.takeBoundaries false s.lt b 4 s := if_pos ((s.drawDue_iff b).mp h)

/-- While no lower book has its draw due, the generator serves none of them first (R107). -/
theorem State.serveLowerDraws_of_none {s : State} {b : BookId} (h : ∀ c, c < b → ¬ s.DrawDue c) :
    s.serveLowerDraws b = s := by
  have idle (cs : List BookId) (lower : ∀ c ∈ cs, c < b) : cs.foldl State.serveDraw s = s := by
    induction cs with
    | nil => rfl
    | cons c cs ih =>
      rw [List.foldl_cons, State.serveDraw_of_not_due (h c (lower c List.mem_cons_self))]
      exact ih fun d hd => lower d (List.mem_cons_of_mem _ hd)
  exact idle _ fun c hc => of_decide_eq_true (List.mem_filter.mp hc).2

/-- A draw that is due is made when the boundaries up to LT are taken (R99, R101). -/
theorem State.takeBoundaries_draws {s : State} {b : BookId} (h : s.DrawDue b) (st : Bool) :
    ((State.takeBoundaries st s.lt b 4 s).book b).phase.drawn := by
  obtain ⟨a, arming, reached, call | ⟨armed, opened⟩⟩ := h
  · have atTw : (s.book b).boundary = some a.tw := by simp [Book.boundary, call, arming]
    have drawing : s.takeBoundary st b = s.takeTw st b a := by simp [State.takeBoundary, call, arming]
    rw [(State.takeBoundaries_succ st s.lt b 3 s atTw).2 reached, drawing]
    exact State.takeBoundaries_drawn _ _ _ _ _ (.inl (congrArg Book.phase (State.book_setBook_same _ _ _)))
  · exact (s.takeBoundaries_armed st s.lt b armed arming).2.2 opened reached

/-- The taking of a book's boundaries leaves the draws of the others as due as they were. -/
theorem State.takeBoundaries_drawDue (s : State) (st : Bool) (limit : Nat) {b c : BookId} (h : c ≠ b) (fuel : Nat) :
    (State.takeBoundaries st limit b fuel s).DrawDue c ↔ s.DrawDue c := by
  have lt : (State.takeBoundaries st limit b fuel s).lt = s.lt := State.lt_of_fixedPart (by simp)
  rw [State.drawDue_iff, State.drawDue_iff, lt,
    Book.drawsBy_of_withoutTriggers (State.takeBoundaries_other st limit h fuel s)]

/-- The expiry that a book with a due draw takes next takes its boundaries up to LT, when no lower book is due. -/
theorem exec_dueExpiry {s : State} {c : BookId} (due : s.DrawDue c) (lowest : ∀ e, e < c → ¬ s.DrawDue e) :
    exec (if (s.book c).phase = .armed then .tcExpiry c else .twExpiry c) s =
      .next (State.takeBoundaries false s.lt c 4 s) := by
  have turn : s.takeInTurn s.lt c = State.takeBoundaries false s.lt c 4 s := by
    rw [State.takeInTurn_of_draws ((s.drawDue_iff c).mp due), State.serveLowerDraws_of_none lowest]
  obtain ⟨a, -, -, call | ⟨armed, -⟩⟩ := due
  · rw [if_neg (by simp [call])]
    exact congrArg Host.Outcome.next ((if_pos call).trans turn)
  · rw [if_pos armed]
    exact congrArg Host.Outcome.next ((if_pos armed).trans turn)

/-! ### The order of the draws -/

/-- Whether the lowest due book is served before the others or among them makes no difference (R107). -/
theorem foldl_serveDraw_of_lowest {s u : State} {c : BookId} (served : s.serveDraw c = u) (again : u.serveDraw c = u)
    (lower : ∀ e, e < c → s.serveDraw e = s) (lower' : ∀ e, e < c → u.serveDraw e = u) {cs : List BookId}
    (ascending : cs.Pairwise (· < ·)) (mem : c ∈ cs) : cs.foldl State.serveDraw s = cs.foldl State.serveDraw u := by
  induction cs with
  | nil => cases mem
  | cons e cs ih =>
    obtain ⟨first, ascending⟩ := List.pairwise_cons.mp ascending
    rw [List.foldl_cons, List.foldl_cons]
    rcases List.mem_cons.mp mem with same | later
    · rw [← same, served, again]
    · rw [lower e (first c later), lower' e (first c later)]
      exact ih ascending later

/-- A book that draws after the lowest due book was served draws what it would have drawn (R107, R109). -/
theorem State.takeInTurn_of_lowest {s u : State} {b c : BookId} {limit : Nat} (below : c < b) (due : s.DrawDue c)
    (lowest : ∀ e, e < c → ¬ s.DrawDue e) (taken : u = State.takeBoundaries false s.lt c 4 s)
    (draws : (s.book b).drawsBy limit = true) : s.takeInTurn limit b = u.takeInTurn limit b := by
  have still : (u.book b).withoutTriggers = (s.book b).withoutTriggers := by
    rw [taken]
    exact State.takeBoundaries_other _ _ below.ne' _ _
  have drawn : ¬ u.DrawDue c := by
    rw [taken]
    exact State.not_drawDue_of_drawn (State.takeBoundaries_draws due false)
  have others (e : BookId) (he : e < c) : ¬ u.DrawDue e := by
    rw [taken, State.takeBoundaries_drawDue s false s.lt he.ne]
    exact lowest e he
  have lowerDraws : s.serveLowerDraws b = u.serveLowerDraws b :=
    foldl_serveDraw_of_lowest ((State.serveDraw_of_due due).trans taken.symm) (State.serveDraw_of_not_due drawn)
      (fun e he => State.serveDraw_of_not_due (lowest e he)) (fun e he => State.serveDraw_of_not_due (others e he))
      (List.Pairwise.filter _ (by decide)) (List.mem_filter.mpr ⟨mem_allBooks c, decide_eq_true below⟩)
  rw [State.takeInTurn_of_draws draws,
    State.takeInTurn_of_draws ((Book.drawsBy_of_withoutTriggers still limit).trans draws), lowerDraws]

/-- Settles O33: the arithmetic of the draw, then the lowest due book taken first or in its turn. -/
theorem drawFollowsGenerator : Obligations.DrawFollowsGenerator := by
  refine ⟨fun a g unseeded => ⟨advanceGenerator_toNat g, rfl, drawOffset_le _ _, rfl, rfl⟩, ?_⟩
  intro s b c a stamp arming below due lowest k expiry
  generalize taken : State.takeBoundaries false s.lt c 4 s = u
  have still : (u.book b).withoutTriggers = (s.book b).withoutTriggers := by
    rw [← taken]
    exact State.takeBoundaries_other _ _ below.ne' _ _
  have phase : (u.book b).phase = k.phase := Book.phase_of_withoutTriggers still
  have lt : u.lt = s.lt := by
    rw [← taken]
    exact State.lt_of_fixedPart (by simp)
  have turn {limit : Nat} (reached : a.tw ≤ limit) (ahead : k.phase = .call ∨ (k.phase = .armed ∧ a.tc ≤ limit)) :
      s.takeInTurn limit b = u.takeInTurn limit b :=
    State.takeInTurn_of_lowest below due lowest taken.symm ((Book.drawsBy_iff _ _).mpr ⟨a, arming, reached, ahead⟩)
  have expires (p : Phase) (hp : k.phase = p) (same : s.takeInTurn s.lt b = u.takeInTurn s.lt b) :
      s.takeExpiry p b = u.takeExpiry p b := by
    rw [State.takeExpiry, State.takeExpiry, if_pos hp, if_pos (phase.trans hp), lt, same]
  have queried {instant : Nat} (ahead : k.boundary = some instant) (reached : instant ≤ stamp)
      (same : s.takeInTurn (max stamp s.lt) b = u.takeInTurn (max stamp s.lt) b) :
      s.takeForQuery b stamp = u.takeForQuery b stamp := by
    rw [State.takeForQuery, State.takeForQuery, Book.boundary_of_withoutTriggers still, ahead, lt]
    simp only [if_pos reached, same]
  refine ⟨u, (exec_dueExpiry due lowest).trans (congrArg _ taken), ?_, fun e he => ?_, fun armed opened reached => ?_,
    fun call reached => ?_, fun armed opened reached => ?_, fun call reached => ?_⟩
  · rw [← taken]
    exact State.not_drawDue_of_drawn (State.takeBoundaries_draws due false)
  · rw [← taken]
    exact State.takeBoundaries_drawDue s false s.lt he 4
  · exact congrArg Host.Outcome.next (expires .armed armed (turn reached (.inr ⟨armed, opened⟩)))
  · exact congrArg Host.Outcome.next (expires .call call (turn reached (.inl call)))
  · exact queried (by simp [Book.boundary, armed, k, arming]) opened
      (turn reached (.inr ⟨armed, opened.trans (Nat.le_max_left _ _)⟩))
  · exact queried (by simp [Book.boundary, call, k, arming]) reached
      (turn (reached.trans (Nat.le_max_left _ _)) (.inl call))

end Sys2Proof.Machine
end

section
/-! PROOFS. What the boundaries of a book change when they are taken (R99 to R103, R109, R120). -/

namespace Sys2Proof.Machine

/-! ### The triggers of an uncross -/

theorem mem_lanesOf (m : LaneSet) (l : LaneId) : l ∈ lanesOf m ↔ m.has l = true := by
  simp [lanesOf, mem_allLanes]

/-- Each lane asked has the trigger of the book PENDING or HELD; the others are as before (R103, R139, R140). -/
theorem State.sendTriggers_trigger (ls : List LaneId) (nodup : ls.Nodup) (s : State) (b : BookId) (e : Nat)
    (l : LaneId) :
    let t := ls.foldl (fun t l => t.sendTrigger b e l) s
    (l ∈ ls → (t.book b).trigger l = .pending ∨ (t.book b).trigger l = .held) ∧
      (l ∉ ls → (t.book b).trigger l = (s.book b).trigger l) := by
  induction ls generalizing s with
  | nil => exact ⟨nofun, fun _ => rfl⟩
  | cons k ls ih =>
    obtain ⟨alone, nodup⟩ := List.nodup_cons.mp nodup
    obtain ⟨asked, unasked⟩ := ih nodup (s.sendTrigger b e k)
    obtain ⟨sent, others⟩ := s.sendTrigger_trigger b e k
    refine ⟨fun mem => ?_, fun out => ?_⟩
    · rcases List.mem_cons.mp mem with same | later
      · subst same
        simp only [List.foldl_cons, unasked alone]
        exact sent
      · exact asked later
    · rw [List.mem_cons, not_or] at out
      exact (unasked out.2).trans (others l b out.1)

/-- A book that has entered UNCROSS, but for its triggers (R103). -/
theorem State.takeUncross_book (s : State) (st : Bool) (b : BookId) (a : Arming) (d : Draw) :
    ((s.takeUncross st b a d).book b).withoutTriggers =
      (.uncross, (s.book b).arming, (s.book b).draw, some (s.lt + a.timeoutMs * 1000000), (s.book b).result) := by
  have sent := foldl_preserves (fun t : State => (t.book b).withoutTriggers)
    (fun t l => t.sendTrigger b d.endInstant l) (fun t l => t.sendTrigger_withoutTriggers b b d.endInstant l)
    (s.setBook b { s.book b with phase := .uncross }) (lanesOf a.lanes)
  rw [State.book_setBook_same] at sent
  have timed {k k' : Book} (h : k.withoutTriggers = k'.withoutTriggers) (x : Option Nat) :
      Book.withoutTriggers { k with uncrossAt := x } = Book.withoutTriggers { k' with uncrossAt := x } := by
    simp only [Book.withoutTriggers, Prod.mk.injEq] at h ⊢
    obtain ⟨phase, arming, draw, -, result⟩ := h
    exact ⟨phase, arming, draw, trivial, result⟩
  exact (congrArg Book.withoutTriggers (State.book_setBook_same _ _ _)).trans (timed sent _)

/-- The triggers of a book that has entered UNCROSS (R103). -/
theorem State.takeUncross_trigger (s : State) (st : Bool) (b : BookId) (a : Arming) (d : Draw) (l : LaneId) :
    let t := s.takeUncross st b a d
    (a.lanes.has l = true → (t.book b).trigger l = .pending ∨ (t.book b).trigger l = .held) ∧
      (a.lanes.has l = false → (t.book b).trigger l = (s.book b).trigger l) := by
  intro t
  obtain ⟨asked, unasked⟩ := State.sendTriggers_trigger (lanesOf a.lanes) (List.Nodup.filter _ (by decide))
    (s.setBook b { s.book b with phase := .uncross }) b d.endInstant l
  have timed (u : State) (x : Option Nat) (r : RecordBody) :
      (((u.setBook b { u.book b with uncrossAt := x }).offer r).book b).trigger l = (u.book b).trigger l :=
    congrArg (·.trigger l) (State.book_setBook_same u b _)
  have same : (t.book b).trigger l = _ := timed _ _ _
  rw [same]
  refine ⟨fun has => asked ((mem_lanesOf _ _).mpr has), fun no => (unasked fun mem => ?_).trans ?_⟩
  · rw [(mem_lanesOf _ _).mp mem] at no
    cases no
  · rw [State.book_setBook_same]
    rfl

/-- The records of an uncross: its own alone (R103, R120). -/
theorem State.takeUncross_counter (s : State) (st : Bool) (b : BookId) (a : Arming) (d : Draw) :
    (s.takeUncross st b a d).journal.counter = s.journal.counter + 1 := by
  have placed (t : State) (l : LaneId) (p : PendingTrigger) : (t.placeTrigger l p).journal = t.journal := rfl
  have sent (t : State) (l : LaneId) : (t.sendTrigger b d.endInstant l).journal = t.journal :=
    foldl_preserves State.journal _ (fun t p => placed t l p) _ _
  have all := foldl_preserves State.journal (fun t l => t.sendTrigger b d.endInstant l) sent
    (s.setBook b { s.book b with phase := .uncross }) (lanesOf a.lanes)
  exact (State.offer_counter _ _).trans (congrArg (fun j : Journal => j.counter + 1) all)

/-- An uncross leaves the Book Unit alone. -/
theorem State.takeUncross_bookUnit (s : State) (st : Bool) (b : BookId) (a : Arming) (d : Draw) :
    (s.takeUncross st b a d).bookUnit = s.bookUnit := by
  have sent (t : State) (l : LaneId) : (t.sendTrigger b d.endInstant l).bookUnit = t.bookUnit :=
    State.placementTest_bookUnit (t.askTrigger b d.endInstant l) l
  exact foldl_preserves State.bookUnit (fun t l => t.sendTrigger b d.endInstant l) sent
    (s.setBook b { s.book b with phase := .uncross }) (lanesOf a.lanes)

/-! ### A book carried on -/

/-- From `s` to `t` book `b`, armed with `a`, has been carried on to a phase by its boundaries, with this draw, and with
the Book Unit so; each boundary has given a record, and nothing else has changed but in UNCROSS (R99 to R103, R120). -/
structure State.Moved (s t : State) (b : BookId) (a : Arming) (draw : Option Draw) (unit : BookUnit) (p : Phase) :
    Prop where
  phase : (t.book b).phase = p
  arming : (t.book b).arming = (s.book b).arming
  result : (t.book b).result = (s.book b).result
  draw : (t.book b).draw = draw
  bookUnit : t.bookUnit = unit
  before : p ≠ .uncross → t.lanes = s.lanes ∧ (t.book b).triggers = (s.book b).triggers ∧
    (t.book b).uncrossAt = (s.book b).uncrossAt
  uncross : p = .uncross → (t.book b).uncrossAt = some (s.lt + a.timeoutMs * 1000000) ∧
    (∀ l, a.lanes.has l = true → (t.book b).trigger l = .pending ∨ (t.book b).trigger l = .held) ∧
    ∀ l, a.lanes.has l = false → (t.book b).trigger l = (s.book b).trigger l
  others : ∀ c, c ≠ b → (t.book c).withoutTriggers = (s.book c).withoutTriggers
  counter : (s.book b).phase.code ≤ p.code ∧
    t.journal.counter = s.journal.counter + (p.code - (s.book b).phase.code)
  fixedPart : t.fixedPart = s.fixedPart

variable {s t u : State} {b : BookId} {a : Arming} {d : Draw} {draw draw' : Option Draw} {unit unit' : BookUnit}
  {p q : Phase}

/-- A book before UNCROSS that stays where it is. -/
theorem State.Moved.refl (before : (s.book b).phase ≠ .uncross) (phase : (s.book b).phase = p)
    (drawn : (s.book b).draw = draw) : s.Moved s b a draw s.bookUnit p where
  phase := phase
  arming := rfl
  result := rfl
  draw := drawn
  bookUnit := rfl
  before _ := ⟨rfl, rfl, rfl⟩
  uncross is := absurd (phase.trans is) before
  others _ _ := rfl
  counter := by rw [phase]; exact ⟨le_rfl, by rw [Nat.sub_self, Nat.add_zero]⟩
  fixedPart := rfl

theorem State.Moved.trans (h : s.Moved t b a draw unit p) (first : p ≠ .uncross) (k : t.Moved u b a draw' unit' q) :
    s.Moved u b a draw' unit' q := by
  obtain ⟨lanes, triggers, uncrossAt⟩ := h.before first
  refine ⟨k.phase, k.arming.trans h.arming, k.result.trans h.result, k.draw, k.bookUnit, fun before => ?_, fun is => ?_,
    fun c hc => (k.others c hc).trans (h.others c hc), ?_, k.fixedPart.trans h.fixedPart⟩
  · obtain ⟨lanes', triggers', uncrossAt'⟩ := k.before before
    exact ⟨lanes'.trans lanes, triggers'.trans triggers, uncrossAt'.trans uncrossAt⟩
  · obtain ⟨expiry, asked, unasked⟩ := k.uncross is
    rw [State.lt_of_fixedPart h.fixedPart] at expiry
    refine ⟨expiry, asked, fun l no => (unasked l no).trans ?_⟩
    rw [Book.trigger, Book.trigger, triggers]
  · obtain ⟨le, counter⟩ := h.counter
    obtain ⟨le', counter'⟩ := k.counter
    rw [h.phase] at le' counter'
    exact ⟨le.trans le', by omega⟩

/-- A boundary before the uncross: the book moves on with a record. -/
theorem State.Moved.of_setBook {k : Book} (r : RecordBody) (phase : k.phase = p) (arming : k.arming = (s.book b).arming)
    (result : k.result = (s.book b).result) (drawn : k.draw = draw) (triggers : k.triggers = (s.book b).triggers)
    (uncrossAt : k.uncrossAt = (s.book b).uncrossAt) (before : p ≠ .uncross)
    (next : p.code = (s.book b).phase.code + 1) (v : BookUnit) :
    s.Moved ((State.setBook { s with bookUnit := v } b k).offer r) b a draw v p := by
  have book : ((State.setBook { s with bookUnit := v } b k).offer r).book b = k := State.book_setBook_same _ b k
  refine ⟨?_, ?_, ?_, ?_, rfl, fun _ => ⟨rfl, ?_, ?_⟩, fun is => absurd is before, fun c hc => ?_, ?_, rfl⟩
  · rw [book, phase]
  · rw [book, arming]
  · rw [book, result]
  · rw [book, drawn]
  · rw [book, triggers]
  · rw [book, uncrossAt]
  · exact congrArg Book.withoutTriggers (State.book_setBook_of_ne { s with bookUnit := v } k hc)
  · rw [next, Nat.add_sub_cancel_left]
    exact ⟨Nat.le_succ _, State.offer_counter _ _⟩

theorem State.takeTc_moved (st : Bool) (phase : (s.book b).phase = .armed) :
    s.Moved (s.takeTc st b) b a (s.book b).draw s.bookUnit .call :=
  .of_setBook (p := .call) (k := { s.book b with phase := .call }) _ rfl rfl rfl rfl rfl rfl (by decide)
    (by rw [phase]; rfl) s.bookUnit

theorem State.takeTw_moved (st : Bool) (phase : (s.book b).phase = .call) :
    let fresh := drawFor a s.bookUnit.generator s.bookUnit.unseeded
    s.Moved (s.takeTw st b a) b a (some fresh) { s.bookUnit with generator := fresh.x } .window :=
  .of_setBook (p := .window) (k := { s.book b with phase := .window, draw := some _ }) _ rfl rfl rfl rfl rfl rfl
    (by decide) (by rw [phase]; rfl) _

theorem State.takeE_moved (st : Bool) (phase : (s.book b).phase = .window) (d : Draw) :
    s.Moved (s.takeE st b a d) b a (s.book b).draw s.bookUnit .freeze :=
  .of_setBook (p := .freeze) (k := { s.book b with phase := .freeze }) _ rfl rfl rfl rfl rfl rfl (by decide)
    (by rw [phase]; rfl) s.bookUnit

theorem State.takeUncross_moved (st : Bool) (phase : (s.book b).phase = .freeze) (d : Draw) :
    s.Moved (s.takeUncross st b a d) b a (s.book b).draw s.bookUnit .uncross := by
  have book := s.takeUncross_book st b a d
  simp only [Book.withoutTriggers, Prod.mk.injEq] at book
  obtain ⟨entered, arming, drawn, expiry, result⟩ := book
  refine ⟨entered, arming, result, drawn, s.takeUncross_bookUnit st b a d, fun no => absurd rfl no, fun _ => ⟨expiry,
    fun l => (s.takeUncross_trigger st b a d l).1, fun l => (s.takeUncross_trigger st b a d l).2⟩,
    fun c hc => (s.takeUncross_withoutTriggers st b c a d).1 hc, ?_, State.fixedPart_takeUncross s st b a d⟩
  rw [phase]
  exact ⟨by decide, s.takeUncross_counter st b a d⟩

/-! ### The boundaries up to an instant -/

theorem State.takeBoundaries_of_none (st : Bool) (limit fuel : Nat) (h : (s.book b).boundary = none) :
    State.takeBoundaries st limit b fuel s = s := by
  cases fuel with
  | zero => rfl
  | succ n => rw [State.takeBoundaries, h]

/-- The boundaries of a book in FREEZE (R103). -/
theorem State.takeBoundaries_freeze (st : Bool) (m n : Nat) (phase : (s.book b).phase = .freeze)
    (arming : (s.book b).arming = some a) (drawn : (s.book b).draw = some d) :
    s.Moved (State.takeBoundaries st m b (n + 1) s) b a (some d) s.bookUnit
      (if m < d.endInstant + a.d * 1000000 then .freeze else .uncross) := by
  have ahead : (s.book b).boundary = some (d.endInstant + a.d * 1000000) := by
    simp [Book.boundary, phase, arming, drawn, Config.milli]
  have taking : s.takeBoundary st b = s.takeUncross st b a d := by simp [State.takeBoundary, phase, arming, drawn]
  obtain ⟨stays, takes⟩ := State.takeBoundaries_succ st m b n s ahead
  split
  · next early =>
    rw [stays early]
    exact .refl (by simp [phase]) phase drawn
  · next late =>
    have moved := State.takeUncross_moved (a := a) st phase d
    have last : ((s.takeUncross st b a d).book b).boundary = none := by simp [Book.boundary, moved.phase]
    rw [takes (Nat.not_lt.mp late), taking, State.takeBoundaries_of_none st m n last, ← drawn]
    exact moved

/-- The boundaries of a book in WINDOW (R102). -/
theorem State.takeBoundaries_window (st : Bool) (m n : Nat) (phase : (s.book b).phase = .window)
    (arming : (s.book b).arming = some a) (drawn : (s.book b).draw = some d) :
    s.Moved (State.takeBoundaries st m b (n + 2) s) b a (some d) s.bookUnit
      (if m < d.endInstant then .window
        else if m < d.endInstant + a.d * 1000000 then .freeze else .uncross) := by
  have ahead : (s.book b).boundary = some d.endInstant := by simp [Book.boundary, phase, arming, drawn]
  have taking : s.takeBoundary st b = s.takeE st b a d := by simp [State.takeBoundary, phase, arming, drawn]
  obtain ⟨stays, takes⟩ := State.takeBoundaries_succ st m b (n + 1) s ahead
  split
  · next early =>
    rw [stays early]
    exact .refl (by simp [phase]) phase drawn
  · next late =>
    have moved := State.takeE_moved (a := a) st phase d
    rw [takes (Nat.not_lt.mp late), taking, ← moved.bookUnit]
    exact moved.trans (by decide)
      (State.takeBoundaries_freeze st m n moved.phase (moved.arming.trans arming) (moved.draw.trans drawn))

/-- The boundaries of a book in CALL: its draw is made at Tw (R101). -/
theorem State.takeBoundaries_call (st : Bool) (m n : Nat) (phase : (s.book b).phase = .call)
    (arming : (s.book b).arming = some a) :
    let fresh := drawFor a s.bookUnit.generator s.bookUnit.unseeded
    (m < a.tw → s.Moved (State.takeBoundaries st m b (n + 3) s) b a (s.book b).draw s.bookUnit .call) ∧
    (a.tw ≤ m → s.Moved (State.takeBoundaries st m b (n + 3) s) b a (some fresh)
      { s.bookUnit with generator := fresh.x }
      (if m < fresh.endInstant then .window
        else if m < fresh.endInstant + a.d * 1000000 then .freeze else .uncross)) := by
  intro fresh
  have ahead : (s.book b).boundary = some a.tw := by simp [Book.boundary, phase, arming]
  have taking : s.takeBoundary st b = s.takeTw st b a := by simp [State.takeBoundary, phase, arming]
  obtain ⟨stays, takes⟩ := State.takeBoundaries_succ st m b (n + 2) s ahead
  refine ⟨fun early => ?_, fun late => ?_⟩
  · rw [stays early]
    exact .refl (by simp [phase]) phase rfl
  · have moved := State.takeTw_moved (a := a) st phase
    have rest := State.takeBoundaries_window st m n moved.phase (moved.arming.trans arming) moved.draw
    rw [moved.bookUnit] at rest
    rw [takes late, taking]
    exact moved.trans (by decide) rest

/-- The boundaries of a book in ARMED (R100). -/
theorem State.takeBoundaries_fromArmed (st : Bool) (m n : Nat) (phase : (s.book b).phase = .armed)
    (arming : (s.book b).arming = some a) :
    let fresh := drawFor a s.bookUnit.generator s.bookUnit.unseeded
    (m < a.tc → s.Moved (State.takeBoundaries st m b (n + 4) s) b a (s.book b).draw s.bookUnit .armed) ∧
    (a.tc ≤ m → m < a.tw → s.Moved (State.takeBoundaries st m b (n + 4) s) b a (s.book b).draw s.bookUnit .call) ∧
    (a.tc ≤ m → a.tw ≤ m → s.Moved (State.takeBoundaries st m b (n + 4) s) b a (some fresh)
      { s.bookUnit with generator := fresh.x }
      (if m < fresh.endInstant then .window
        else if m < fresh.endInstant + a.d * 1000000 then .freeze else .uncross)) := by
  intro fresh
  have ahead : (s.book b).boundary = some a.tc := by simp [Book.boundary, phase, arming]
  have taking : s.takeBoundary st b = s.takeTc st b := by simp [State.takeBoundary, phase, arming]
  obtain ⟨stays, takes⟩ := State.takeBoundaries_succ st m b (n + 3) s ahead
  have moved := State.takeTc_moved (a := a) st phase
  obtain ⟨early, late⟩ := State.takeBoundaries_call st m n moved.phase (moved.arming.trans arming)
  rw [moved.bookUnit] at early late
  rw [moved.draw] at early
  refine ⟨fun before => ?_, fun opened before => ?_, fun opened reached => ?_⟩
  · rw [stays before]
    exact .refl (by simp [phase]) phase rfl
  · rw [takes opened, taking]
    exact moved.trans (by decide) (early before)
  · rw [takes opened, taking]
    exact moved.trans (by decide) (late reached)

end Sys2Proof.Machine
end

section
/-! PROOFS. The boundaries of a book by its expiries and by a phase query (R99 to R103, R109). -/

namespace Sys2Proof.Machine

/-! ### The turn of a book -/

/-- A book whose draw is not among the boundaries, or below which none is due, waits for no other one (R107). -/
theorem State.takeInTurn_of_alone {s : State} {b : BookId} {a : Arming} {m : Nat} (arming : (s.book b).arming = some a)
    (alone : m < a.tw ∨ ∀ c, c < b → ¬ s.DrawDue c) :
    s.takeInTurn m b = State.takeBoundaries false m b 4 s := by
  by_cases draws : (s.book b).drawsBy m = true
  · obtain ⟨a', same, reached, -⟩ := (Book.drawsBy_iff _ _).mp draws
    cases arming.symm.trans same
    rw [State.takeInTurn_of_draws draws, State.serveLowerDraws_of_none (alone.resolve_left (Nat.not_lt.mpr reached))]
  · exact State.takeInTurn_of_not_draws (Bool.eq_false_iff.mpr draws)

/-- Past CALL no draw is among the boundaries. -/
theorem State.takeInTurn_of_drawn {s : State} {b : BookId}
    (phase : (s.book b).phase = .window ∨ (s.book b).phase = .freeze) (m : Nat) :
    s.takeInTurn m b = State.takeBoundaries false m b 4 s := by
  refine State.takeInTurn_of_not_draws (Bool.eq_false_iff.mpr fun draws => ?_)
  obtain ⟨a, -, -, due⟩ := (Book.drawsBy_iff _ _).mp draws
  rcases phase with phase | phase <;> simp [phase] at due

theorem State.takeExpiry_of_ne {s : State} {b : BookId} {p : Phase} (h : (s.book b).phase ≠ p) :
    s.takeExpiry p b = s := if_neg h

theorem State.takeExpiry_of_phase {s : State} {b : BookId} {p : Phase} (h : (s.book b).phase = p) :
    s.takeExpiry p b = s.takeInTurn s.lt b := if_pos h

/-- A phase query takes nothing while its stamp is before the boundary ahead, and else what is due in turn (R109). -/
theorem State.takeForQuery_cases {s : State} {b : BookId} {instant : Nat} (h : (s.book b).boundary = some instant)
    (stamp : Nat) : (stamp < instant → s.takeForQuery b stamp = s) ∧
      (instant ≤ stamp → s.takeForQuery b stamp = s.takeInTurn (max stamp s.lt) b) := by
  rw [State.takeForQuery, h]
  exact ⟨fun early => if_neg (Nat.not_le.mpr early), fun late => if_pos late⟩

theorem State.takeForQuery_of_none {s : State} {b : BookId} (h : (s.book b).boundary = none) (stamp : Nat) :
    s.takeForQuery b stamp = s := by
  rw [State.takeForQuery, h]

/-- Settles O34: the turn of the book first, then its boundaries from the phase it is in. -/
theorem boundariesAreTakenInOrder : Obligations.BoundariesAreTakenInOrder := by
  intro s b a d stamp arming k fresh fromFreeze fromWindow fromCall fromArmed moved alone
  have settled {t : State} {draws : Bool} {p : Phase} {draw : Option Draw} {unit : BookUnit}
      (h : s.Moved t b a draw unit p)
      (drawn : draw = if draws ∧ (p = .window ∨ p = .freeze ∨ p = .uncross) then some fresh else k.draw)
      (unit' : unit = if draws ∧ (p = .window ∨ p = .freeze ∨ p = .uncross) then
        { s.bookUnit with generator := fresh.x } else s.bookUnit) : moved t draws p :=
    ⟨h.phase, h.arming.trans arming, h.result, h.draw.trans drawn, h.bookUnit.trans unit', h.before, h.uncross,
      h.others, h.counter.2, h.fixedPart⟩
  have afterDraw (m e : Nat) :
      fromWindow m e = .window ∨ fromWindow m e = .freeze ∨ fromWindow m e = .uncross := by
    simp only [fromWindow, fromFreeze]
    split
    · exact .inl rfl
    · split
      · exact .inr (.inl rfl)
      · exact .inr (.inr rfl)
  have undrawn {t : State} {p : Phase} (h : s.Moved t b a k.draw s.bookUnit p)
      (before : ¬ (p = .window ∨ p = .freeze ∨ p = .uncross)) : moved t true p :=
    settled h (if_neg fun both => before both.2).symm (if_neg fun both => before both.2).symm
  have drew {t : State} {p : Phase}
      (h : s.Moved t b a (some fresh) { s.bookUnit with generator := fresh.x } p)
      (after : p = .window ∨ p = .freeze ∨ p = .uncross) : moved t true p :=
    settled h (if_pos ⟨rfl, after⟩).symm (if_pos ⟨rfl, after⟩).symm
  have kept {t : State} {p : Phase} (h : s.Moved t b a k.draw s.bookUnit p) : moved t false p :=
    settled h (if_neg (by simp)).symm (if_neg (by simp)).symm
  have armed (phase : k.phase = .armed) (m : Nat) : moved (State.takeBoundaries false m b 4 s) true (fromArmed m) := by
    obtain ⟨stays, opens, draws⟩ := State.takeBoundaries_fromArmed false m 0 phase arming
    by_cases opened : m < a.tc
    · rw [show fromArmed m = .armed from if_pos opened]
      exact undrawn (stays opened) (by simp)
    · have late := Nat.not_lt.mp opened
      by_cases reached : m < a.tw
      · rw [show fromArmed m = .call from (if_neg opened).trans (if_pos reached)]
        exact undrawn (opens late reached) (by simp)
      · rw [show fromArmed m = fromWindow m fresh.endInstant from (if_neg opened).trans (if_neg reached)]
        exact drew (draws late (Nat.not_lt.mp reached)) (afterDraw _ _)
  have called (phase : k.phase = .call) (m : Nat) : moved (State.takeBoundaries false m b 4 s) true (fromCall m) := by
    obtain ⟨stays, draws⟩ := State.takeBoundaries_call false m 1 phase arming
    by_cases reached : m < a.tw
    · rw [show fromCall m = .call from if_pos reached]
      exact undrawn (stays reached) (by simp)
    · rw [show fromCall m = fromWindow m fresh.endInstant from if_neg reached]
      exact drew (draws (Nat.not_lt.mp reached)) (afterDraw _ _)
  have windowed (phase : k.phase = .window) (drawn : k.draw = some d) (m : Nat) :
      moved (State.takeBoundaries false m b 4 s) false (fromWindow m d.endInstant) :=
    kept (drawn ▸ State.takeBoundaries_window false m 2 phase arming drawn)
  have frozen (phase : k.phase = .freeze) (drawn : k.draw = some d) (m : Nat) :
      moved (State.takeBoundaries false m b 4 s) false (fromFreeze m d.endInstant) :=
    kept (drawn ▸ State.takeBoundaries_freeze false m 3 phase arming drawn)
  refine ⟨fun phase free => ⟨_, rfl, ?_⟩, fun phase free => ⟨_, rfl, ?_⟩, fun phase drawn => ⟨_, rfl, ?_⟩,
    fun phase drawn => ⟨_, rfl, ?_⟩, fun no => congrArg Host.Outcome.next (State.takeExpiry_of_ne no),
    fun no => congrArg Host.Outcome.next (State.takeExpiry_of_ne no),
    fun no => congrArg Host.Outcome.next (State.takeExpiry_of_ne no),
    fun no => congrArg Host.Outcome.next (State.takeExpiry_of_ne no), ?_⟩
  · rw [State.takeExpiry_of_phase phase, State.takeInTurn_of_alone arming free]
    exact armed phase _
  · rw [State.takeExpiry_of_phase phase, State.takeInTurn_of_alone arming free]
    exact called phase _
  · rw [State.takeExpiry_of_phase phase, State.takeInTurn_of_drawn (.inl phase)]
    exact windowed phase drawn _
  · rw [State.takeExpiry_of_phase phase, State.takeInTurn_of_drawn (.inr phase)]
    exact frozen phase drawn _
  · intro asked m takes
    have query {instant : Nat} {draws : Bool} {p : Phase} (ahead : k.boundary = some instant)
        (turn : (draws = true → alone m) → s.takeInTurn m b = State.takeBoundaries false m b 4 s)
        (h : moved (State.takeBoundaries false m b 4 s) draws p) : takes instant draws p := by
      obtain ⟨stays, taken⟩ := State.takeForQuery_cases ahead stamp
      refine ⟨stays, fun late free => ?_⟩
      rw [show asked = _ from (taken late).trans (turn free)]
      exact h
    refine ⟨fun phase => ?_, fun phase => ?_, fun phase drawn => ?_, fun phase drawn => ?_, fun phase => ?_⟩
    · exact query (by simp [Book.boundary, phase, k, arming])
        (fun free => State.takeInTurn_of_alone arming (free rfl)) (armed phase m)
    · exact query (by simp [Book.boundary, phase, k, arming])
        (fun free => State.takeInTurn_of_alone arming (free rfl)) (called phase m)
    · exact query (by simp [Book.boundary, phase, drawn, k, arming])
        (fun _ => State.takeInTurn_of_drawn (.inl phase) m) (windowed phase drawn m)
    · exact query (by simp [Book.boundary, phase, drawn, k, arming, Config.milli])
        (fun _ => State.takeInTurn_of_drawn (.inr phase) m) (frozen phase drawn m)
    · have last : (s.book b).boundary = none := by
        rcases phase with phase | phase | phase <;> simp [Book.boundary, show (s.book b).phase = _ from phase]
      exact State.takeForQuery_of_none last stamp

end Sys2Proof.Machine
end

section
/-! PROOFS. The judgement of the waits, entry by entry (R133). -/

namespace Sys2Proof.Machine

/-- The entry at a place of a list lacks a credit. -/
def HoldEntry.starved (credits : Nat) (e : HoldEntry) : Bool := e.isFrame && decide (credits = 0)

/-- The due entry at a place of a list waits by a conflict alone (R133). -/
def HoldEntry.waitsByConflict (lt credits : Nat) (hold : List HoldEntry) (e : HoldEntry) (i : Nat) : Bool :=
  decide (e.release ≤ lt) && !e.starved credits && (hold.take i).any fun f => f.conflicts e

/-- The due entry at a place of a list waits by a lack of credit alone (R133). -/
def HoldEntry.waitsByCredit (lt credits : Nat) (hold : List HoldEntry) (e : HoldEntry) (i : Nat) : Bool :=
  decide (e.release ≤ lt) && e.starved credits && !(hold.take i).any fun f => f.conflicts e

/-- The entry with the marks that a judgement leaves. -/
def HoldEntry.judged (lt credits : Nat) (hold : List HoldEntry) (e : HoldEntry) (i : Nat) : HoldEntry :=
  { e with
    conflictWaited := e.conflictWaited || e.waitsByConflict lt credits hold i
    creditWaited := e.creditWaited || e.waitsByCredit lt credits hold i }

/-- The events of a judgement of the entry: one with each new mark. -/
def HoldEntry.waitEvents (lt credits : Nat) (l : LaneId) (hold : List HoldEntry) (e : HoldEntry) (i : Nat) :
    List EvidenceEvent :=
  if e.waitsByConflict lt credits hold i && !e.conflictWaited then
    [{ kind := .conflictWait, lane := some l, cls := e.cls, book := e.book }]
  else if e.waitsByCredit lt credits hold i && !e.creditWaited then
    [{ kind := .creditWait, lane := some l, cls := e.cls, book := e.book }]
  else []

theorem HoldEntry.credited_eq (credits : Nat) (e : HoldEntry) : e.credited credits = !e.starved credits := by
  rw [HoldEntry.credited, HoldEntry.starved, Bool.not_and]
  congr 1
  rw [← decide_not]
  exact decide_eq_decide.mpr Nat.one_le_iff_ne_zero

/-- One entry is judged by its due time, its credit and the entries before it (R133). -/
theorem noteWait_eq (lt credits : Nat) (l : LaneId) (earlier rest : List HoldEntry) (e : HoldEntry) :
    noteWait lt credits l earlier e = (e.judged lt credits (earlier ++ rest) earlier.length,
      e.waitEvents lt credits l (earlier ++ rest) earlier.length) := by
  have conflicted : ((earlier ++ rest).take earlier.length).any (fun f => f.conflicts e) = blocked earlier e := by
    rw [List.take_left]
    rfl
  unfold noteWait HoldEntry.judged HoldEntry.waitEvents HoldEntry.waitsByConflict HoldEntry.waitsByCredit
  rw [conflicted, HoldEntry.credited_eq, HoldEntry.due]
  generalize e.starved credits = starved, blocked earlier e = blocked, decide (e.release ≤ lt) = due
  obtain ⟨body, release, conflictWaited, creditWaited⟩ := e
  cases due with
  | false => simp
  | true =>
    cases starved with
    | false => cases blocked <;> cases conflictWaited <;> simp
    | true => cases blocked <;> cases creditWaited <;> simp

/-- A judgement of a list is one of each of its entries, at its place (R133). -/
theorem noteWaits_eq (lt credits : Nat) (l : LaneId) (earlier rest : List HoldEntry) :
    noteWaits lt credits l earlier rest =
      ((rest.zipIdx earlier.length).map fun (e, i) => e.judged lt credits (earlier ++ rest) i,
        (rest.zipIdx earlier.length).flatMap fun (e, i) => e.waitEvents lt credits l (earlier ++ rest) i) := by
  induction rest generalizing earlier with
  | nil => rfl
  | cons e rest ih =>
    have place : (earlier ++ [e]).length = earlier.length + 1 := by simp
    have whole : earlier ++ [e] ++ rest = earlier ++ e :: rest := by simp
    rw [noteWaits, noteWait_eq lt credits l earlier (e :: rest) e, ih, place, whole, List.zipIdx_cons]
    rfl

/-- The judgement of a lane's waits, by the places of the entries in its list (R133). -/
theorem State.judgeWaits_zipIdx (s : State) (l : LaneId) :
    let u := s.lane l
    s.judgeWaits l =
      (s.setLane l { u with hold := u.hold.zipIdx.map fun (e, i) => e.judged s.lt u.credits u.hold i }).raiseAll
        (u.hold.zipIdx.flatMap fun (e, i) => e.waitEvents s.lt u.credits l u.hold i) := by
  intro u
  rw [State.judgeWaits, noteWaits_eq]
  rfl

end Sys2Proof.Machine
end

section
/-! PROOFS. The expiries that follow LT (R117, R130, R139 to R141, R162, R179). -/

namespace Sys2Proof.Machine

/-! ### Placements -/

/-- What the placement of triggers leaves alone: all but lanes, books and evidence (R141). -/
theorem State.foldl_placeTrigger_frame (ps : List PendingTrigger) (s : State) (l : LaneId) :
    let t := ps.foldl (fun s p => s.placeTrigger l p) s
    t = { s with lanes := t.lanes, books := t.books, evidence := t.evidence } := by
  intro t
  have kept : { t with lanes := s.lanes, books := s.books, evidence := s.evidence } = s :=
    foldl_preserves (fun u : State => { u with lanes := s.lanes, books := s.books, evidence := s.evidence })
      (fun s p => s.placeTrigger l p) (fun _ _ => rfl) s ps
  exact congrArg (fun u : State => { u with lanes := t.lanes, books := t.books, evidence := t.evidence }) kept

/-- The lane after placements: entries have joined, and what was placed is not pending any more (R141). -/
theorem State.foldl_placeTrigger_lane (ps : List PendingTrigger) (s : State) (l : LaneId) :
    let t := ps.foldl (fun s p => s.placeTrigger l p) s
    t.lane l = { s.lane l with
      hold := (t.lane l).hold
      pendingTriggers := (s.lane l).pendingTriggers.filter fun q => !ps.any fun p => p.book == q.book } := by
  induction ps generalizing s with
  | nil => simp
  | cons p ps ih =>
    have first : (s.placeTrigger l p).lane l = { s.lane l with
        hold := ((s.placeTrigger l p).lane l).hold
        pendingTriggers := (s.lane l).pendingTriggers.filter fun q => q.book != p.book } := by
      refine (State.judgeWaits_lane _ l).1.trans ?_
      rw [State.lane_setBook, State.lane_setLane_same]
      rfl
    intro t
    have rest : t.lane l = { (s.placeTrigger l p).lane l with
        hold := (t.lane l).hold
        pendingTriggers := ((s.placeTrigger l p).lane l).pendingTriggers.filter fun q =>
          !ps.any fun p => p.book == q.book } := ih (s.placeTrigger l p)
    have left (q : PendingTrigger) : ((!ps.any fun p => p.book == q.book) && (q.book != p.book)) =
        !(p :: ps).any fun p => p.book == q.book := by
      rw [List.any_cons, Bool.not_or, Bool.and_comm, bne, BEq.comm]
    rw [first, List.filter_filter] at rest
    simp only [left] at rest
    exact rest

/-! ### The placement expiry -/

/-- A pending trigger whose expiry is taken, where it is of the book (R139). -/
def PendingTrigger.taken (b : BookId) (p : PendingTrigger) : PendingTrigger :=
  if p.book = b then { p with expiry := none } else p

theorem PendingTrigger.taken_book (b : BookId) (p : PendingTrigger) : (p.taken b).book = p.book := by
  unfold PendingTrigger.taken
  split <;> rfl

theorem PendingTrigger.taken_endInstant (b : BookId) (p : PendingTrigger) :
    (p.taken b).endInstant = p.endInstant := by
  unfold PendingTrigger.taken
  split <;> rfl

theorem PendingTrigger.expiryReached_iff (lt : Nat) (b : BookId) (p : PendingTrigger) :
    p.expiryReached lt b = true ↔ p.book = b ∧ ∃ y, p.expiry = some y ∧ y ≤ lt := by
  unfold PendingTrigger.expiryReached
  cases p.expiry <;> simp

/-- The state whose lane has taken the placement expiry of a book, before the placement test (R139). -/
def State.expiryTaken (s : State) (l : LaneId) (b : BookId) : State :=
  s.setLane l { s.lane l with pendingTriggers := (s.lane l).pendingTriggers.map (PendingTrigger.taken b) }

theorem execPlacementExpiry_cases (s : State) (l : LaneId) (b : BookId) :
    let reached (p : PendingTrigger) : Prop := p.book = b ∧ ∃ y, p.expiry = some y ∧ y ≤ s.lt
    ((∀ p ∈ (s.lane l).pendingTriggers, ¬ reached p) → exec (.placementExpiry l b) s = .next s) ∧
      ((∃ p ∈ (s.lane l).pendingTriggers, reached p) →
        exec (.placementExpiry l b) s = .next ((s.expiryTaken l b).placementTest l)) := by
  intro reached
  have iff : (s.lane l).pendingTriggers.any (PendingTrigger.expiryReached s.lt b) = true ↔
      ∃ p ∈ (s.lane l).pendingTriggers, reached p := by
    simp only [List.any_eq_true, PendingTrigger.expiryReached_iff]
    rfl
  refine ⟨fun none => congrArg Host.Outcome.next (if_neg fun h => ?_), fun some =>
    congrArg Host.Outcome.next (if_pos (iff.mpr some))⟩
  obtain ⟨p, mem, is⟩ := iff.mp h
  exact none p mem is

/-- The placement test after the expiry was taken places the triggers that were ripe before it (R140). -/
theorem State.expiryTaken_placementTest (s : State) (l : LaneId) (b : BookId) :
    (s.expiryTaken l b).placementTest l =
      (((s.lane l).pendingTriggers.filter (s.placeable l)).map (PendingTrigger.taken b)).foldl
        (fun s p => s.placeTrigger l p) (s.expiryTaken l b) := by
  have lane : (s.expiryTaken l b).lane l = { s.lane l with
      pendingTriggers := (s.lane l).pendingTriggers.map (PendingTrigger.taken b) } := State.lane_setLane_same _ _ _
  have ripe : (s.expiryTaken l b).placeable l ∘ PendingTrigger.taken b = s.placeable l := by
    funext p
    simp only [Function.comp, State.placeable, lane, PendingTrigger.taken_endInstant]
    rfl
  rw [State.placementTest, lane, List.filter_map, ripe]

/-- Whether a book is among triggers does not depend on their expiries. -/
theorem any_taken (b c : BookId) (ps : List PendingTrigger) :
    (ps.map (PendingTrigger.taken b)).any (fun p => p.book == c) = ps.any fun p => p.book == c := by
  rw [List.any_map]
  congr 1
  funext p
  simp only [Function.comp, PendingTrigger.taken_book]

/-- What the placement test after a taken expiry changes: ripe triggers join the list in their order and are HELD, and
the others wait on (R139 to R141). -/
theorem State.expiryTaken_spec (s : State) (l : LaneId) (b : BookId) :
    let u := s.lane l
    let t := (s.expiryTaken l b).placementTest l
    let ripe := u.pendingTriggers.filter (s.placeable l)
    let waiting := (u.pendingTriggers.map (PendingTrigger.taken b)).filter fun p => !ripe.any fun q => q.book == p.book
    t.lane l = { u with hold := (t.lane l).hold, pendingTriggers := waiting } ∧
      bodies (t.lane l).hold = bodies u.hold ++ ripe.map (fun p => (.trigger p.book p.endInstant, s.lt)) ∧
      (∀ c k, (t.book c).trigger k =
        if k = l ∧ ripe.any (fun p => p.book == c) then .held else (s.book c).trigger k) ∧
      (∀ k, k ≠ l → t.lane k = s.lane k) ∧ (∀ c, (t.book c).withoutTriggers = (s.book c).withoutTriggers) ∧
      t = { s with lanes := t.lanes, books := t.books, evidence := t.evidence } := by
  intro u t ripe waiting
  have taken : (s.expiryTaken l b).lane l =
      { u with pendingTriggers := u.pendingTriggers.map (PendingTrigger.taken b) } := State.lane_setLane_same _ _ _
  have test : t = (ripe.map (PendingTrigger.taken b)).foldl (fun s p => s.placeTrigger l p) (s.expiryTaken l b) :=
    s.expiryTaken_placementTest l b
  have lane := State.foldl_placeTrigger_lane (ripe.map (PendingTrigger.taken b)) (s.expiryTaken l b) l
  obtain ⟨joined, -⟩ := State.foldl_placeTrigger (ripe.map (PendingTrigger.taken b)) (s.expiryTaken l b) l
  have held := fun c k => State.foldl_placeTrigger_trigger (ripe.map (PendingTrigger.taken b)) (s.expiryTaken l b) l k c
  have frame := State.foldl_placeTrigger_frame (ripe.map (PendingTrigger.taken b)) (s.expiryTaken l b) l
  rw [← test] at lane joined held frame
  refine ⟨?_, ?_, fun c k => ?_, fun k hk => ?_, fun c => State.placementTest_withoutTriggers _ l c, frame.trans rfl⟩
  · simp only [taken, any_taken] at lane
    exact lane
  · rw [joined, taken, List.map_map]
    congr 1
    refine List.map_congr_left fun p _ => ?_
    simp only [Function.comp, PendingTrigger.taken_book, PendingTrigger.taken_endInstant]
    rfl
  · rw [held, any_taken]
    rfl
  · exact (State.placementTest_lane_other _ hk).trans (State.lane_setLane_of_ne _ _ hk)

/-- With no ripe trigger the expiry is taken and nothing is placed; with one, that one is (R140, R141). -/
theorem State.expiryTaken_placed (s : State) (l : LaneId) (b : BookId) :
    let u := s.lane l
    let t := (s.expiryTaken l b).placementTest l
    let ripe := u.pendingTriggers.filter (s.placeable l)
    let waiting := (u.pendingTriggers.map (PendingTrigger.taken b)).filter fun p => !ripe.any fun q => q.book == p.book
    (ripe = [] → t = s.expiryTaken l b) ∧
      ∀ p, ripe = [p] → t = ((s.setLane l { u with
          hold := u.hold ++ [⟨.trigger p.book p.endInstant, s.lt, false, false⟩]
          pendingTriggers := waiting }).setBook p.book
        { s.book p.book with triggers := (s.book p.book).triggers.set l.val .held }).judgeWaits l := by
  intro u t ripe waiting
  have taken : (s.expiryTaken l b).lane l =
      { u with pendingTriggers := u.pendingTriggers.map (PendingTrigger.taken b) } := State.lane_setLane_same _ _ _
  have test : t = (ripe.map (PendingTrigger.taken b)).foldl (fun s p => s.placeTrigger l p) (s.expiryTaken l b) :=
    s.expiryTaken_placementTest l b
  refine ⟨fun none => ?_, fun p one => ?_⟩
  · rw [test, none]
    rfl
  · have others : ((u.pendingTriggers.map (PendingTrigger.taken b)).filter fun q => q.book != p.book) = waiting := by
      refine List.filter_congr fun q _ => ?_
      simp only [one, List.any_cons, List.any_nil, Bool.or_false, bne]
      rw [BEq.comm]
    rw [test, one, List.map_singleton, List.foldl_cons, List.foldl_nil, State.placeTrigger, taken,
      PendingTrigger.taken_book, PendingTrigger.taken_endInstant, ← others]
    rw [State.expiryTaken, State.setLane_setLane_same]
    rfl

/-! ### The snapshot expiry -/

/-- The next snapshot is the first whole number of periods after LT (R179). -/
theorem nextSnapshot_spec {period : Nat} (h : 0 < period) (lt : Nat) :
    lt < nextSnapshot period lt ∧ nextSnapshot period lt % (period * 1000000000) = 0 ∧
      nextSnapshot period lt ≤ lt + period * 1000000000 := by
  have positive : 0 < period * 1000000000 := by omega
  have whole : nextSnapshot period lt = lt / (period * 1000000000) * (period * 1000000000) + period * 1000000000 :=
    Nat.succ_mul _ _
  refine ⟨whole ▸ Nat.lt_div_mul_add positive, Nat.mul_mod_left _ _, ?_⟩
  rw [whole]
  exact Nat.add_le_add_right (Nat.div_mul_le_self _ _) _

/-- A snapshot into a ring with a free slot (R158, R179, R180). -/
theorem State.takeSnapshot_of_free {s : State} (room : s.journal.held.length < 4096) :
    s.takeSnapshot.evidence =
        { s.evidence with snapshotExpiry := some (nextSnapshot s.evidence.period s.lt) } ∧
      s.takeSnapshot.journal.held = s.journal.held ++
        [⟨s.journal.counter, s.journal.lowestFree, .written s.lt (.snapshot s.evidence.valuesOf)⟩] ∧
      s.takeSnapshot = { s with journal := s.takeSnapshot.journal, evidence := s.takeSnapshot.evidence } := by
  have free : s.journal.freeCount ≠ 0 := mt s.journal.freeCount_eq_zero_iff.mp (Nat.not_le.mpr room)
  refine ⟨?_, Journal.admitRecord_held_of_free _ _ _ free, rfl⟩
  have same := s.offer_evidence_of_free (.snapshot s.evidence.valuesOf) free
  exact congrArg (fun e : Evidence =>
    { e with snapshotExpiry := some (nextSnapshot s.evidence.period s.lt) }) same

/-! ### The uncross timeout -/

theorem Book.timeoutReached_iff {k : Book} {x : Nat} (h : k.uncrossAt = some x) (lt : Nat) :
    k.timeoutReached lt = true ↔ k.phase = .uncross ∧ x ≤ lt := by
  simp [Book.timeoutReached, h]

/-- Settles O32: the judgement of the waits, then each expiry by its instant. -/
theorem expiriesFollowLt : Obligations.ExpiriesFollowLt := by
  refine ⟨fun s l => s.judgeWaits_zipIdx l, fun s l b x => ?_, fun s b x set => ?_⟩
  · intro u
    refine ⟨fun set early => ?_, fun set late => ?_, ?_, fun set early => ?_, fun set late => ?_, fun set early => ?_,
      fun set late positive room => ?_⟩
    · exact congrArg Host.Outcome.next (by rw [show (s.lane l).releaseExpiry = _ from set]; exact if_neg (by omega))
    · obtain ⟨first, past⟩ := earliestFrom_spec (s.lt + 1) u.hold
      refine ⟨earliestFrom (s.lt + 1) u.hold, congrArg Host.Outcome.next ?_, first, fun none e he =>
        Nat.le_of_lt_succ (past none e he)⟩
      rw [show (s.lane l).releaseExpiry = _ from set]
      exact if_pos late
    · intro reached ripe taken waiting
      obtain ⟨unreached, expired⟩ := execPlacementExpiry_cases s l b
      refine ⟨unreached, fun some => ⟨_, expired some, ?_⟩⟩
      obtain ⟨lane, joined, held, lanes, books, frame⟩ := s.expiryTaken_spec l b
      obtain ⟨none, one⟩ := s.expiryTaken_placed l b
      exact ⟨lane, joined, held, none, one, lanes, books, frame⟩
    · exact congrArg Host.Outcome.next (by rw [set]; exact if_neg (by omega))
    · exact congrArg Host.Outcome.next (by rw [set]; exact if_pos late)
    · exact congrArg Host.Outcome.next (by rw [set]; exact if_neg (by omega))
    · obtain ⟨evidence, held, frame⟩ := State.takeSnapshot_of_free room
      obtain ⟨after, whole, near⟩ := nextSnapshot_spec positive s.lt
      exact ⟨s.takeSnapshot, _, congrArg Host.Outcome.next (by rw [set]; exact if_pos late), evidence, after, whole,
        near, held, frame⟩
  · intro k
    refine ⟨fun phase late => ?_, fun no => ?_⟩
    · exact congrArg Host.Outcome.next (if_pos ((Book.timeoutReached_iff set _).mpr ⟨phase, late⟩))
    · refine congrArg Host.Outcome.next (if_neg fun h => ?_)
      obtain ⟨phase, late⟩ := (Book.timeoutReached_iff set _).mp h
      exact no.elim (fun other => other phase) fun early => absurd late (Nat.not_le.mpr early)

end Sys2Proof.Machine
end

section
/-! PROOFS. Refused entry frames: record, events, notice (R122 to R125, R149, R153, R158). -/

namespace Sys2Proof.Machine

/-- The events of a refusal by its reason (R54, R55, R123). -/
theorem dispositionEvents_of_refused (l : LaneId) (j : Judged) (r : EntryRefusal) :
    let event (k : EvidenceKind) : EvidenceEvent := { kind := k, lane := some l, cls := j.cls, book := j.book }
    j.disposition = .refused r → dispositionEvents l j = match r with
      | .malformed => [event .entryMalformed]
      | .overflow => [event .entryRefused, event .overflow]
      | _ => [event .entryRefused] := by
  intro event refused
  unfold dispositionEvents
  rw [refused]
  cases r <;> rfl

/-- A number lost at its reservation leaves what is held as it was (R153). -/
theorem Journal.used_held_of_lost (j : Journal) (l : LaneId) {r : Reservation} (lost : r.lost = true) (lt : Nat)
    (body : RecordBody) : (j.used l r lt body).held = j.held := by
  rw [Journal.used, if_pos lost]
  rfl

/-- A refusal records the frame, then queues its notice, or raises the suppression where sixteen wait (R122 to R125). -/
theorem State.refuseEntry_eq (s : State) (l : LaneId) (rx : Reception) (j : Judged) (r : EntryRefusal) :
    let full := 16 ≤ (s.lane l).notices.length
    let recorded := s.offerEntry l (entryRecord l rx j (some (if full then .suppressed else .queued)))
    let suppressed : EvidenceEvent := { kind := .noticeSuppressed, lane := some l, cls := j.cls, book := j.book }
    s.refuseEntry l rx j r =
      (recorded.setLane l { s.lane l with
        notices := if full then (s.lane l).notices
          else (s.lane l).notices ++ [noticeOf (s.entryNumber l) l rx j r] }).raiseAll
        (dispositionEvents l j ++ if full then [suppressed] else []) := by
  intro full recorded suppressed
  have lane : recorded.lane l = s.lane l := by simp [State.lane, recorded]
  unfold State.refuseEntry
  by_cases h : full
  · have outcome : (s.lane l).noticeOutcome = .suppressed := if_neg (Nat.not_lt.mpr h)
    have same : recorded.setLane l (s.lane l) = recorded := by rw [← lane, State.setLane_lane_self]
    simp only [recorded, if_pos h] at same ⊢
    rw [outcome, same, State.raiseAll, State.raiseAll, List.foldl_append]
    rfl
  · have outcome : (s.lane l).noticeOutcome = .queued := if_pos (Nat.not_le.mp h)
    simp only [recorded, if_neg h] at lane ⊢
    rw [outcome, ← lane, List.append_nil]
    rfl

/-- Settles O21: the record under the lane's number, the events in their order, and the notice or its suppression. -/
theorem refusedEntryIsRecordedAndNoticed : Obligations.RefusedEntryIsRecordedAndNoticed := by
  intro l s rx j r refused u t full number record event reasonEvents lostBefore events
  let entry := entryRecord l rx j (some (if full then .suppressed else .queued))
  have recorded : .entry entry = record := by
    simp only [entry, entryRecord, refused, record]
  have numbered : s.entryNumber l = number := s.entryNumber_eq l
  have raised : dispositionEvents l j = reasonEvents := dispositionEvents_of_refused l j r refused
  have lost : lostEvent record = event .recordLost := rfl
  have framed := s.offerEntry_frame l entry
  obtain ⟨count, held, reserved⟩ := s.offerEntry_journal l entry
  have eq : t = _ := s.refuseEntry_eq l rx j r
  have journal : t.journal = (s.offerEntry l entry).journal := by rw [eq]; rfl
  rw [← journal, recorded] at held reserved
  rw [← journal] at count
  refine ⟨?_, fun k other => ?_, ?_, count, fun unset room => ?_, fun x set => ?_⟩
  · have evidence : t.evidence = events.foldl Evidence.apply s.evidence := by
      rw [eq, raised, framed, recorded, lost]
      simp only [State.raiseAll, events, List.append_assoc, List.foldl_append]
      rfl
    rw [← evidence, eq, framed]
    rfl
  · rw [eq]
    exact (State.lane_setLane_of_ne _ _ other).trans (by simp [State.lane])
  · rw [eq, ← numbered]
    exact State.lane_setLane_same ..
  · rw [show number = s.journal.counter from by simp [number, unset]]
    exact held unset room
  · obtain ⟨same, given, written⟩ := reserved x set
    refine ⟨same, given, written, fun lost => ?_⟩
    rw [journal, State.offerEntry_of_some set]
    exact Journal.used_held_of_lost _ _ lost ..

end Sys2Proof.Machine
end

section
/-! PROOFS. Admission to a hold list: the slot taken is a free one, and what else changes (R127, R129, R130, R133,
R137). -/

namespace Sys2Proof.Machine

/-! ### Free slots (R127, R137) -/

/-- The slots that the FRAME entries of a list have. -/
def heldSlots (hold : List HoldEntry) : List Nat :=
  hold.filterMap fun e => match e.body with
    | .frame f => some f.slot
    | .trigger _ _ => none

theorem heldSlots_length (hold : List HoldEntry) : (heldSlots hold).length = frameCount hold := by
  induction hold with
  | nil => rfl
  | cons e rest ih =>
    simp only [heldSlots, frameCount] at ih ⊢
    cases h : e.body <;> simp [h, ih, HoldEntry.isFrame]

theorem mem_unheldSlots_iff_heldSlots (n : Nat) (hold : List HoldEntry) :
    n ∈ unheldSlots hold ↔ n < 64 ∧ n ∉ heldSlots hold := by
  rw [mem_unheldSlots]
  refine and_congr_right fun _ => ?_
  simp only [heldSlots, List.mem_filterMap, not_exists, not_and]
  refine forall₂_congr fun e _ => ?_
  cases e.body <;> simp

/-- Fewer than `n` numbers leave one below `n` out. -/
theorem exists_lt_notMem {used : List Nat} {n : Nat} (h : used.length < n) : ∃ m < n, m ∉ used := by
  by_contra! all
  have := (List.nodup_range.subperm fun m hm => all m (List.mem_range.mp hm)).length_le
  rw [List.length_range] at this
  omega

/-- While fewer than 64 frames are held some slot is free. -/
theorem LaneUnit.freeSlots_ne_nil {u : LaneUnit} (room : frameCount u.hold < 64) : u.freeSlots ≠ [] := by
  obtain ⟨m, bound, unused⟩ := exists_lt_notMem ((heldSlots_length u.hold).trans_lt room)
  have unheld : unheldSlots u.hold ≠ [] :=
    List.ne_nil_of_mem ((mem_unheldSlots_iff_heldSlots m u.hold).mpr ⟨bound, unused⟩)
  unfold LaneUnit.freeSlots
  dsimp only
  split
  · exact unheld
  next idle => simpa using idle

/-- The slot chosen is one of the 64 that no FRAME entry has (R127). -/
theorem LaneUnit.chooseSlot_free {u : LaneUnit} (room : frameCount u.hold < 64) (index : Nat) :
    u.chooseSlot index < 64 ∧ ∀ e ∈ u.hold, ∀ g, e.body = .frame g → g.slot ≠ u.chooseSlot index :=
  (mem_unheldSlots _ _).mp (LaneUnit.mem_freeSlots (LaneUnit.chooseSlot_mem index (LaneUnit.freeSlots_ne_nil room))).1

/-- With two slots to spare it is not the one in transmission (R137). -/
theorem LaneUnit.chooseSlot_idle {u : LaneUnit} (room : frameCount u.hold < 63) (index : Nat) :
    u.sendingSlot ≠ some (u.chooseSlot index) := by
  have used : (u.sendingSlot.toList ++ heldSlots u.hold).length < 64 := by
    have sending : u.sendingSlot.toList.length ≤ 1 := by cases u.sendingSlot <;> simp
    rw [List.length_append, heldSlots_length]
    omega
  obtain ⟨m, bound, unused⟩ := exists_lt_notMem used
  rw [List.mem_append, not_or, Option.mem_toList] at unused
  obtain ⟨idle, unheld⟩ := unused
  refine (LaneUnit.mem_freeSlots (LaneUnit.chooseSlot_mem index (LaneUnit.freeSlots_ne_nil (by omega)))).2
    ⟨m, (mem_unheldSlots_iff_heldSlots m u.hold).mpr ⟨bound, unheld⟩, idle⟩

/-! ### Admission (R129, R130, R133) -/

/-- An admission changes the lanes and, for an entry that is due, the evidence (R130, R133). -/
theorem State.admitEntry_frame (s : State) (l : LaneId) (e : HoldEntry) :
    (s.lt < e.release → (s.admitEntry l e).evidence = s.evidence) ∧
      s.admitEntry l e = { s with lanes := (s.admitEntry l e).lanes, evidence := (s.admitEntry l e).evidence } := by
  unfold State.admitEntry
  dsimp only
  split
  next due => exact ⟨fun early => absurd (of_decide_eq_true due) (Nat.not_le.mpr early), rfl⟩
  next => exact ⟨fun _ => rfl, rfl⟩

/-- Settles O23: the slot chosen among the free ones, then the admission of the entry. -/
theorem admittedFrameJoinsTail : Obligations.AdmittedFrameJoinsTail := by
  intro l s key book cls captured release f u t
  let drawn : State := { s with freeIndex := s.freeIndex + 1 }
  let entry : HoldEntry := ⟨.frame ⟨key, book, cls, captured, u.chooseSlot s.freeIndex, f⟩, release, false, false⟩
  obtain ⟨joined, lane⟩ := drawn.admitEntry_lane l entry
  obtain ⟨quiet, framed⟩ := drawn.admitEntry_frame l entry
  have expiry : (t.lane l).releaseExpiry =
      if release ≤ s.lt then u.releaseExpiry else some (earlierExpiry u.releaseExpiry release) :=
    congrArg LaneUnit.releaseExpiry lane
  refine ⟨u.chooseSlot s.freeIndex, joined, fun room => LaneUnit.chooseSlot_free room _,
    fun room sent sending free => ?_, ?_, fun due => ?_, fun early => ⟨quiet early, ?_⟩, fun k other => drawn.admitEntry_lane_other other entry, framed⟩
  · refine LaneUnit.chooseSlot_idle room s.freeIndex ?_
    rw [LaneUnit.sendingSlot, sending, Option.bind_some, free]
  · rw [expiry]
    exact lane
  · rw [expiry, if_pos due]
  · rw [expiry, if_neg (Nat.not_le.mpr early)]
    cases u.releaseExpiry <;> rfl

end Sys2Proof.Machine
end

section
/-! PROOFS. The release arbiter's offer, and which entries of a hold list conflict (R128, R130 to R132, R136). -/

namespace Sys2Proof.Machine

/-! ### Eligibility (R130, R132) -/

theorem eligible_iff (lt credits : Nat) (earlier : List HoldEntry) (e : HoldEntry) :
    eligible lt credits earlier e = true ↔
      e.release ≤ lt ∧ (e.isFrame = true → 1 ≤ credits) ∧ ∀ f ∈ earlier, f.conflicts e = false := by
  have credited : e.credited credits = true ↔ (e.isFrame = true → 1 ≤ credits) := by
    cases h : e.isFrame <;> simp [HoldEntry.credited, h]
  simp [eligible, HoldEntry.due, credited, blocked, and_assoc]

/-- No entry of `hold` is eligible behind `passed` and the entries of `hold` before it (R132). -/
def NoneEligible (lt credits : Nat) (passed hold : List HoldEntry) : Prop :=
  ∀ before e behind, hold = before ++ e :: behind → ¬ eligible lt credits (passed ++ before) e = true

@[simp] theorem noneEligible_nil (lt credits : Nat) (passed : List HoldEntry) : NoneEligible lt credits passed [] := by
  simp [NoneEligible]

@[simp] theorem noneEligible_cons (lt credits : Nat) (passed : List HoldEntry) (x : HoldEntry) (rest : List HoldEntry) :
    NoneEligible lt credits passed (x :: rest) ↔
      ¬ eligible lt credits passed x = true ∧ NoneEligible lt credits (passed ++ [x]) rest := by
  constructor
  · intro never
    refine ⟨by simpa using never [] x rest rfl, fun before e behind split => ?_⟩
    simpa using never (x :: before) e behind (by rw [split]; rfl)
  · rintro ⟨first, others⟩ before e behind split
    cases before with
    | nil =>
      cases split
      simpa using first
    | cons y before =>
      cases split
      simpa using others before e behind rfl

/-- The search ends with nothing exactly when no entry is eligible (R136). -/
theorem firstEligible_eq_none_iff {lt credits : Nat} {passed hold : List HoldEntry} :
    firstEligible lt credits passed hold = none ↔ NoneEligible lt credits passed hold := by
  induction hold generalizing passed with
  | nil => simp [firstEligible]
  | cons x rest ih =>
    rw [firstEligible, noneEligible_cons, ← ih]
    by_cases hx : eligible lt credits passed x = true <;> simp [hx]

/-- The search offers an eligible entry that no eligible one precedes, and each such entry is offered (R136). -/
theorem firstEligible_eq_some_iff {lt credits : Nat} {passed hold before behind : List HoldEntry} {e : HoldEntry} :
    firstEligible lt credits passed hold = some (before, e, behind) ↔
      ∃ between, before = passed ++ between ∧ hold = between ++ e :: behind ∧
        eligible lt credits before e = true ∧ NoneEligible lt credits passed between := by
  induction hold generalizing passed with
  | nil => simp [firstEligible]
  | cons x rest ih =>
    rw [firstEligible]
    split
    next hx =>
      constructor
      · rintro ⟨⟩
        exact ⟨[], by simp, rfl, hx, by simp⟩
      · rintro ⟨_ | ⟨y, between⟩, rfl, split, -, never⟩ <;> cases split
        · simp
        · exact absurd hx ((noneEligible_cons ..).mp never).1
    next hx =>
      rw [ih]
      constructor
      · rintro ⟨between, rfl, rfl, ok, never⟩
        exact ⟨x :: between, by simp, rfl, ok, (noneEligible_cons ..).mpr ⟨hx, never⟩⟩
      · rintro ⟨_ | ⟨y, between⟩, rfl, split, ok, never⟩ <;> cases split
        · exact absurd (by simpa using ok) hx
        · exact ⟨between, by simp, rfl, ok, ((noneEligible_cons ..).mp never).2⟩

/-! ### Keys and conflicts (R128, R131) -/

theorem orderKeyOf_eq (h : EntryHeader) :
    orderKeyOf h =
      if h.kind = .new ∨ h.kind = .modify ∨ h.kind = .cancel then some (.order h.session h.clientRef)
      else if h.kind = .massCancel then some (.sessionWide h.session)
      else none := by
  unfold orderKeyOf
  cases h.kind <;> rfl

theorem OrderKey.conflicts_iff (x y : OrderKey) :
    x.conflicts y = true ↔
      (∃ n r, x = .order n r ∧ y = .order n r) ∨ (∃ n r, x = .order n r ∧ y = .sessionWide n) ∨
        (∃ n r, x = .sessionWide n ∧ y = .order n r) ∨ (∃ n, x = .sessionWide n ∧ y = .sessionWide n) := by
  cases x <;> cases y <;> simp [OrderKey.conflicts]
  all_goals exact eq_comm

/-- Two FRAME entries conflict by their keys alone (R131). -/
theorem HoldEntry.conflicts_of_frames {e f : HoldEntry} {a b : HeldFrame} (he : e.body = .frame a)
    (hf : f.body = .frame b) :
    e.conflicts f = true ↔ ∃ x y, a.key = some x ∧ b.key = some y ∧ x.conflicts y = true := by
  have books : e.bookConflict f = false := by simp [HoldEntry.bookConflict, HoldEntry.isFrame, he, hf]
  simp only [HoldEntry.conflicts, books, Bool.or_false, HoldEntry.keyConflict, HoldEntry.key, he, hf]
  cases a.key <;> cases b.key <;> simp

theorem HoldEntry.key_of_isFrame_false {e : HoldEntry} (h : e.isFrame = false) : e.key = none := by
  cases hb : e.body with
  | frame g => simp [HoldEntry.isFrame, hb] at h
  | trigger b i => simp [HoldEntry.key, hb]

/-- Two entries of which one is a TRIGGER conflict when they belong to one book (R131). -/
theorem HoldEntry.conflicts_of_trigger {e f : HoldEntry} (h : e.isFrame = false ∨ f.isFrame = false) :
    e.conflicts f = true ↔ ∃ b, e.book = some b ∧ f.book = some b := by
  have keys : e.keyConflict f = false := by
    unfold HoldEntry.keyConflict
    rcases h with h | h
    · rw [HoldEntry.key_of_isFrame_false h]
    · rw [HoldEntry.key_of_isFrame_false h]
      cases e.key <;> rfl
  have one : (!e.isFrame || !f.isFrame) = true := by simpa using h
  simp only [HoldEntry.conflicts, keys, Bool.false_or, HoldEntry.bookConflict, one, Bool.true_and]
  cases e.book with
  | none => simp
  | some b => simp [eq_comm (a := some b) (b := f.book)]

/-- Settles O28: the search for the earliest eligible entry, then the keys, then the conflicts by the sorts of the two
entries. -/
theorem releaseArbiterOffersEarliestEligible : Obligations.ReleaseArbiterOffersEarliestEligible := by
  refine ⟨fun s l => ?_, orderKeyOf_eq, fun e f => ?_⟩
  · intro u isEligible
    have judged (before : List HoldEntry) (e : HoldEntry) :
        eligible s.lt u.credits before e = true ↔ isEligible before e := eligible_iff ..
    have never (hold : List HoldEntry) : NoneEligible s.lt u.credits [] hold ↔
        ∀ before e behind, hold = before ++ e :: behind → ¬ isEligible before e := by
      simp [NoneEligible, ← judged]
    refine ⟨fun before e behind => ?_, firstEligible_eq_none_iff.trans (never u.hold)⟩
    rw [← never, ← judged]
    exact firstEligible_eq_some_iff.trans (by simp [u])
  · cases he : e.body with
    | frame a =>
      cases hf : f.body with
      | frame b =>
        rw [HoldEntry.conflicts_of_frames he hf]
        simp [OrderKey.conflicts_iff]
      | trigger b i =>
        rw [HoldEntry.conflicts_of_trigger (.inr (by simp [HoldEntry.isFrame, hf]))]
        simp [HoldEntry.book, he, hf]
    | trigger b i =>
      rw [HoldEntry.conflicts_of_trigger (.inl (by simp [HoldEntry.isFrame, he]))]
      cases hf : f.body with
      | frame a => simp [HoldEntry.book, he, hf]
      | trigger c k => simp [HoldEntry.book, he, hf, eq_comm]

end Sys2Proof.Machine
end

section
/-! PROOFS. The ring in its order: what each operation of the Journal does to the numbers and slots it holds (R149,
R157, R158). -/

namespace Sys2Proof.Machine

/-! ### Numbers and slots -/

/-- The order of the ring is a matter of the numbers and the slots it holds and of the counter, not of contents. -/
theorem Journal.ordered_iff (j : Journal) : j.Ordered ↔
    (j.held.map Held.number).Pairwise (· < ·) ∧ (∀ n ∈ j.held.map Held.number, n < j.counter) ∧
      (j.held.map Held.slot).Nodup ∧ ∀ n ∈ j.held.map Held.slot, n < 4096 := by
  simp [Journal.Ordered]

/-- Records that change their contents alone stay in order, and so they do when numbers are only spent. -/
theorem Journal.Ordered.of_same {j k : Journal} (h : j.Ordered)
    (numbers : k.held.map Held.number = j.held.map Held.number) (slots : k.held.map Held.slot = j.held.map Held.slot)
    (counter : j.counter ≤ k.counter) : k.Ordered := by
  rw [Journal.ordered_iff] at h ⊢
  rw [numbers, slots]
  obtain ⟨rising, given, alone, below⟩ := h
  exact ⟨rising, fun n hn => (given n hn).trans_le counter, alone, below⟩

theorem Journal.Ordered.of_held {j k : Journal} (h : j.Ordered) (held : k.held = j.held)
    (counter : j.counter ≤ k.counter) : k.Ordered :=
  h.of_same (by rw [held]) (by rw [held]) counter

/-- A ring that loses records stays in order. -/
theorem Journal.Ordered.of_sublist {j k : Journal} (h : j.Ordered) (held : k.held.Sublist j.held)
    (counter : k.counter = j.counter) : k.Ordered := by
  obtain ⟨rising, given, alone, below⟩ := h
  exact ⟨rising.sublist (held.map _), fun x hx => (given x (held.subset hx)).trans_eq counter.symm,
    alone.sublist (held.map _), fun x hx => below x (held.subset hx)⟩

/-- The record that takes the next number and the lowest free slot joins the ring in order: its number is above all
that were given, and no other record has its slot (R149, R158). -/
theorem Journal.Ordered.append {j k : Journal} (h : j.Ordered) (room : j.held.length < 4096) {content : SlotContent}
    (held : k.held = j.held ++ [⟨j.counter, j.lowestFree, content⟩]) (counter : k.counter = j.counter + 1) :
    k.Ordered := by
  obtain ⟨rising, given, alone, below⟩ := h
  obtain ⟨inRing, unused, -⟩ := j.lowestFree_spec room
  refine ⟨?_, fun x hx => ?_, ?_, fun x hx => ?_⟩
  · rw [held, List.map_append, List.pairwise_append]
    exact ⟨rising, List.pairwise_singleton .., by simpa using given⟩
  · rw [held, List.mem_append, List.mem_singleton] at hx
    rcases hx with old | rfl
    · exact (given x old).trans (counter ▸ Nat.lt_succ_self _)
    · exact counter ▸ Nat.lt_succ_self _
  · rw [held, List.map_append, List.nodup_append']
    exact ⟨alone, List.nodup_singleton _, by simpa using unused⟩
  · rw [held, List.mem_append, List.mem_singleton] at hx
    rcases hx with old | rfl
    · exact below x old
    · exact inRing

/-! ### The operations of the Journal -/

theorem Journal.room_of_freeCount {j : Journal} (h : j.freeCount ≠ 0) : j.held.length < 4096 :=
  not_le.mp (mt j.freeCount_eq_zero_iff.mpr h)

theorem Journal.Ordered.setFlush {j : Journal} (h : j.Ordered) (lt : Nat) : (j.setFlush lt).Ordered :=
  h.of_held (j.setFlush_held lt) (j.setFlush_counter lt).ge

theorem Journal.Ordered.setReservation {j : Journal} (h : j.Ordered) (l : LaneId) (r : Option Reservation) :
    (j.setReservation l r).Ordered := h.of_held rfl le_rfl

/-- An offered record takes the next number and is written in a slot of its own, or it is lost (R149, R158, R159). -/
theorem Journal.Ordered.admitRecord {j : Journal} (h : j.Ordered) (lt : Nat) (r : RecordBody) :
    (j.admitRecord lt r).Ordered := by
  by_cases full : j.freeCount = 0
  · exact h.of_held (j.admitRecord_held_of_full lt r full) (by simp)
  · exact h.append (Journal.room_of_freeCount full) (j.admitRecord_held_of_free lt r full) (by simp)

/-- A reserved number is bound to a slot of its own (R152). -/
theorem Journal.Ordered.bind {j : Journal} (h : j.Ordered) (room : j.freeCount ≠ 0) (l : LaneId) :
    (j.bind l).Ordered := h.append (Journal.room_of_freeCount room) rfl rfl

theorem Journal.Ordered.reserveLost {j : Journal} (h : j.Ordered) (l : LaneId) : (j.reserveLost l).Ordered :=
  h.of_held rfl (Nat.le_succ _)

/-- A record written into a bound slot keeps its number and its slot (R153). -/
theorem Journal.Ordered.fillBound {j : Journal} (h : j.Ordered) (lt number : Nat) (r : RecordBody) :
    (j.fillBound lt number r).Ordered := by
  have same {β : Type} (part : Held → β) (keeps : ∀ (x : Held) c, part { x with content := c } = part x) :
      (j.fillBound lt number r).held.map part = j.held.map part := by
    rw [Journal.fillBound, Journal.syncFlush_held, List.map_map]
    refine List.map_congr_left fun x _ => ?_
    rw [Function.comp_apply]
    split
    · exact keeps ..
    · rfl
  exact h.of_same (same _ fun _ _ => rfl) (same _ fun _ _ => rfl) (by simp [Journal.fillBound])

theorem Journal.Ordered.used {j : Journal} (h : j.Ordered) (l : LaneId) (r : Reservation) (lt : Nat)
    (body : RecordBody) : (j.used l r lt body).Ordered := by
  unfold Journal.used
  split
  · exact h.setReservation l none
  · exact (h.setReservation l none).fillBound ..

/-- A release takes records out of the ring (R166). -/
theorem Journal.Ordered.releaseThrough {j : Journal} (h : j.Ordered) (n : Nat) : (j.releaseThrough n).Ordered :=
  h.of_sublist List.filter_sublist rfl

/-- With a free slot the pending gap takes the next number, and its record is written at the end of the held order in
the lowest free slot (R158, R160). -/
theorem Journal.writeGap_of_gap {j : Journal} {g : Gap} (lt : Nat) (gap : j.gap = some g) (room : j.freeCount ≠ 0) :
    (j.writeGap lt).held = j.held ++ [⟨j.counter, j.lowestFree, .written lt (.gapFull g.first g.count)⟩] ∧
      (j.writeGap lt).counter = j.counter + 1 ∧ (j.writeGap lt).gap = none := by
  unfold Journal.writeGap
  rw [gap]
  dsimp only
  rw [if_neg room]
  simp [Journal.store, Journal.lowestFree]

/-- Without a pending gap, or without a free slot, none is written (R160). -/
theorem Journal.writeGap_of_not {j : Journal} (lt : Nat) (h : j.gap = none ∨ j.freeCount = 0) : j.writeGap lt = j := by
  unfold Journal.writeGap
  split
  · rfl
  · next g gap => exact if_pos (h.resolve_left (by simp [gap]))

/-- A GAP record is written as any other (R160). -/
theorem Journal.Ordered.writeGap {j : Journal} (h : j.Ordered) (lt : Nat) : (j.writeGap lt).Ordered := by
  by_cases idle : j.gap = none ∨ j.freeCount = 0
  · rwa [Journal.writeGap_of_not lt idle]
  · obtain ⟨pending, room⟩ := not_or.mp idle
    obtain ⟨g, gap⟩ := Option.ne_none_iff_exists'.mp pending
    obtain ⟨held, counter, -⟩ := Journal.writeGap_of_gap lt gap room
    exact h.append (Journal.room_of_freeCount room) held counter

/-! ### Exports -/

/-- A record marked EXPORTED keeps its number and its slot (R157, R163). -/
@[simp] theorem Held.markExported_number (h : Held) : h.markExported.number = h.number := by
  unfold Held.markExported
  split <;> rfl

@[simp] theorem Held.markExported_slot (h : Held) : h.markExported.slot = h.slot := by
  unfold Held.markExported
  split <;> rfl

theorem Held.markExported_isExported {h : Held} (written : h.isWritten = true) : h.markExported.isExported = true := by
  cases content : h.content with
  | written w r => simp [Held.markExported, Held.isExported, content]
  | bound => simp [Held.isWritten, content] at written
  | exported w r => simp [Held.isWritten, content] at written

/-- A position of the ring after a normal export frame took the records of `batch` (R163). -/
def Held.sentIn (batch : List Held) (h : Held) : Held :=
  if (batch.map Held.number).contains h.number then h.markExported else h

theorem Held.sentIn_of_mem {batch : List Held} {h : Held} (mem : ∃ r ∈ batch, r.number = h.number) :
    h.sentIn batch = h.markExported := if_pos (by simpa using mem)

theorem Held.sentIn_of_not_mem {batch : List Held} {h : Held} (absent : ∀ r ∈ batch, r.number ≠ h.number) :
    h.sentIn batch = h := if_neg (by simpa using absent)

@[simp] theorem Held.sentIn_number (batch : List Held) (h : Held) : (h.sentIn batch).number = h.number := by
  unfold Held.sentIn
  split <;> simp

@[simp] theorem Held.sentIn_slot (batch : List Held) (h : Held) : (h.sentIn batch).slot = h.slot := by
  unfold Held.sentIn
  split <;> simp

theorem Journal.exported_held (lt : Nat) (j : Journal) :
    (j.exported lt).held = j.held.map (Held.sentIn j.exportBatch.1) := Journal.setFlush_held ..

@[simp] theorem Journal.exported_counter (lt : Nat) (j : Journal) : (j.exported lt).counter = j.counter :=
  Journal.setFlush_counter ..

@[simp] theorem Journal.resent_held (lt : Nat) (j : Journal) : (j.resent lt).held = j.held := Journal.setFlush_held ..

@[simp] theorem Journal.resent_counter (lt : Nat) (j : Journal) : (j.resent lt).counter = j.counter :=
  Journal.setFlush_counter ..

/-- An export frame marks records EXPORTED and moves none (R163, R168). -/
theorem Journal.Ordered.afterExport {j : Journal} (h : j.Ordered) (lt : Nat) : (j.afterExport lt).Ordered := by
  unfold Journal.afterExport
  split
  · exact h.of_held (j.resent_held lt) (j.resent_counter lt).ge
  · refine h.of_same ?_ ?_ (j.exported_counter lt).ge <;> rw [Journal.exported_held, List.map_map]
    · exact List.map_congr_left fun x _ => x.sentIn_number _
    · exact List.map_congr_left fun x _ => x.sentIn_slot _

end Sys2Proof.Machine
end

section
/-! PROOFS. The shared operations keep the ring in order: each offers records, reserves numbers, uses reservations, or
leaves the Journal alone (R149, R152, R153, R158). -/

namespace Sys2Proof.Machine

/-! ### Records -/

theorem Journal.Ordered.of_journal {s t : State} (h : s.journal.Ordered) (same : t.journal = s.journal) :
    t.journal.Ordered := by rwa [same]

/-- Operations that each keep the ring in order keep it so one after another. -/
theorem Journal.Ordered.foldl {α : Type} {f : State → α → State} {s : State} (h : s.journal.Ordered)
    (keeps : ∀ (t : State) (a : α), t.journal.Ordered → (f t a).journal.Ordered) (as : List α) :
    (as.foldl f s).journal.Ordered :=
  List.foldlRecOn as f h fun t ordered a _ => keeps t a ordered

theorem Journal.Ordered.offer {s : State} (h : s.journal.Ordered) (r : RecordBody) : (s.offer r).journal.Ordered :=
  h.admitRecord s.lt r

/-- A record offered after a change of the state that leaves the Journal alone. -/
theorem Journal.Ordered.offered {s t : State} (h : s.journal.Ordered) (r : RecordBody)
    (same : t.journal = s.journal := by rfl) : (t.offer r).journal.Ordered := (h.of_journal same).offer r

theorem Journal.Ordered.reserve {s : State} (h : s.journal.Ordered) (l : LaneId) : (s.reserve l).journal.Ordered := by
  unfold State.reserve
  split
  · exact h
  · split
    · exact h.reserveLost l
    · next room => exact h.bind room l

theorem Journal.Ordered.offerEntry {s : State} (h : s.journal.Ordered) (l : LaneId) (e : EntryRecord) :
    (s.offerEntry l e).journal.Ordered := by
  cases reserved : s.journal.reservation l with
  | none => rw [State.offerEntry_of_none reserved]; exact h.offer _
  | some r => rw [State.offerEntry_of_some reserved]; exact h.used ..

theorem Journal.Ordered.voidReservation {s : State} (h : s.journal.Ordered) (l : LaneId) :
    (s.voidReservation l).journal.Ordered := by
  cases reserved : s.journal.reservation l with
  | none => rwa [State.voidReservation_of_none reserved]
  | some r => rw [State.voidReservation_of_some reserved]; exact h.used ..

theorem Journal.Ordered.judgeGrade {s : State} (h : s.journal.Ordered) : s.judgeGrade.journal.Ordered := by
  unfold State.judgeGrade
  split
  · exact h
  · exact h.offer _

theorem Journal.Ordered.takeSnapshot {s : State} (h : s.journal.Ordered) : s.takeSnapshot.journal.Ordered := h.offer _

theorem Journal.Ordered.setMonitor {s : State} (h : s.journal.Ordered) (ref : RefLine) (m : Monitor) :
    (s.setMonitor ref m).journal.Ordered := h.of_journal (State.setMonitor_journal ..)

theorem Journal.Ordered.placeReply {s : State} (h : s.journal.Ordered) (l : LaneId) (r : Reply) :
    (s.placeReply l r).journal.Ordered := h

/-! ### Lanes -/

theorem Journal.Ordered.placementTest {s : State} (h : s.journal.Ordered) (l : LaneId) :
    (s.placementTest l).journal.Ordered := h.of_journal (State.placementTest_journal ..)

theorem Journal.Ordered.admitEntry {s : State} (h : s.journal.Ordered) (l : LaneId) (e : HoldEntry) :
    (s.admitEntry l e).journal.Ordered := h.of_journal (State.admitEntry_journal ..)

theorem Journal.Ordered.admitFrame {s : State} (h : s.journal.Ordered) (l : LaneId) (key : Option OrderKey)
    (book : Option BookId) (cls : Option ClassId) (captured release : Nat) (frame : Bytes) :
    (s.admitFrame l key book cls captured release frame).journal.Ordered :=
  h.of_journal (State.admitEntry_journal ..)

theorem Journal.Ordered.install {s : State} (h : s.journal.Ordered) (l : LaneId) (c u : Nat) (r : Option Nat) :
    (s.install l c u r).journal.Ordered := (h.offer _).of_journal (State.placementTest_journal ..)

theorem Journal.Ordered.installPending {s : State} (h : s.journal.Ordered) (l : LaneId) :
    (s.installPending l).journal.Ordered := by
  unfold State.installPending
  dsimp only
  split
  · exact Journal.Ordered.install (by exact h) ..
  · exact h

theorem Journal.Ordered.endReception {s : State} (h : s.journal.Ordered) (l : LaneId) :
    (s.endReception l).journal.Ordered := Journal.Ordered.voidReservation (by exact h) l

theorem Journal.Ordered.afterReception {s : State} (h : s.journal.Ordered) (l : LaneId) :
    (s.afterReception l).journal.Ordered := (h.placementTest l).installPending l

theorem Journal.Ordered.probeFail {s : State} (h : s.journal.Ordered) (l : LaneId) :
    (s.probeFail l).journal.Ordered := Journal.Ordered.installPending (by exact h.offer _) l

theorem Journal.Ordered.failProbe {s : State} (h : s.journal.Ordered) (l : LaneId) :
    (s.failProbe l).journal.Ordered := by
  unfold State.failProbe
  split
  · exact h
  · exact h.probeFail l
  · exact h.probeFail l

theorem Journal.Ordered.endDrain {s : State} (h : s.journal.Ordered) (l : LaneId) :
    (s.endDrain l).journal.Ordered := by
  unfold State.endDrain
  split
  · exact h.offer _
  · exact h

theorem Journal.Ordered.dropCredits {s : State} (h : s.journal.Ordered) (l : LaneId) :
    (s.dropCredits l).journal.Ordered := by
  unfold State.dropCredits
  split <;> exact h

theorem Journal.Ordered.abandonReception {s : State} (h : s.journal.Ordered) (l : LaneId) :
    (s.abandonReception l).journal.Ordered := by
  unfold State.abandonReception
  split
  · exact h
  · exact (Journal.Ordered.endReception (by exact h) l).afterReception l

theorem Journal.Ordered.failOutstanding {s : State} (h : s.journal.Ordered) (l : LaneId) :
    (s.failOutstanding l).journal.Ordered := by
  unfold State.failOutstanding
  split
  · exact h.probeFail l
  · exact h
  · exact h

theorem Journal.Ordered.laneOnStep {s : State} (h : s.journal.Ordered) (l : LaneId) :
    (s.laneOnStep l).journal.Ordered := by
  have failed := h.failOutstanding l
  rcases s.laneOnStep_cases l with eq | eq <;> rw [eq] <;> exact failed

theorem Journal.Ordered.emptiedAndDisabled {s : State} (h : s.journal.Ordered) (l : LaneId) :
    (s.emptiedAndDisabled l).journal.Ordered := h.offered _

theorem Journal.Ordered.flushLane {s : State} (h : s.journal.Ordered) (l : LaneId) :
    (s.flushLane l).journal.Ordered :=
  (((h.abandonReception l).failProbe l).of_journal (State.endDrainByReset_journal ..)).emptiedAndDisabled l

theorem Journal.Ordered.flushLanes {s : State} (h : s.journal.Ordered) (ls : List LaneId) :
    (flushLanes ls s).1.journal.Ordered := by
  induction ls generalizing s with
  | nil => exact h
  | cons l ls ih => exact ih (h.flushLane l)

/-! ### Books -/

theorem Journal.Ordered.sendTrigger {s : State} (h : s.journal.Ordered) (b : BookId) (e : Nat) (l : LaneId) :
    (s.sendTrigger b e l).journal.Ordered := h.of_journal (State.placementTest_journal ..)

theorem Journal.Ordered.takeUncross {s : State} (h : s.journal.Ordered) (st : Bool) (b : BookId) (a : Arming)
    (d : Draw) : (s.takeUncross st b a d).journal.Ordered := by
  have entered : (s.setBook b { s.book b with phase := .uncross }).journal.Ordered := h
  exact (entered.foldl (fun t l ordered => ordered.sendTrigger b d.endInstant l) (lanesOf a.lanes)).offer _

theorem Journal.Ordered.takeBoundary {s : State} (h : s.journal.Ordered) (st : Bool) (b : BookId) :
    (s.takeBoundary st b).journal.Ordered := by
  unfold State.takeBoundary
  split
  · exact h.offer _
  · exact h.offer _
  · exact h.offer _
  · exact h.takeUncross ..
  · exact h

theorem Journal.Ordered.takeBoundaries {s : State} (h : s.journal.Ordered) (st : Bool) (limit : Nat) (b : BookId)
    (fuel : Nat) : (State.takeBoundaries st limit b fuel s).journal.Ordered := by
  induction fuel generalizing s with
  | zero => exact h
  | succ fuel ih =>
    unfold State.takeBoundaries
    split
    · exact h
    · split
      · exact ih (h.takeBoundary st b)
      · exact h

theorem Journal.Ordered.serveDraw {s : State} (h : s.journal.Ordered) (b : BookId) :
    (s.serveDraw b).journal.Ordered := by
  unfold State.serveDraw
  split
  · exact h.takeBoundaries ..
  · exact h

theorem Journal.Ordered.takeInTurn {s : State} (h : s.journal.Ordered) (limit : Nat) (b : BookId) :
    (s.takeInTurn limit b).journal.Ordered := by
  refine Journal.Ordered.takeBoundaries ?_ ..
  split
  · exact h.foldl (fun t c ordered => ordered.serveDraw c) _
  · exact h

theorem Journal.Ordered.takeExpiry {s : State} (h : s.journal.Ordered) (p : Phase) (b : BookId) :
    (s.takeExpiry p b).journal.Ordered := by
  unfold State.takeExpiry
  split
  · exact h.takeInTurn ..
  · exact h

theorem Journal.Ordered.takeForQuery {s : State} (h : s.journal.Ordered) (b : BookId) (stamp : Nat) :
    (s.takeForQuery b stamp).journal.Ordered := by
  unfold State.takeForQuery
  split
  · exact h
  · split
    · exact h.takeInTurn ..
    · exact h

theorem Journal.Ordered.bookOnStep {s : State} (h : s.journal.Ordered) (b : BookId) :
    (s.bookOnStep b).journal.Ordered := by
  unfold State.bookOnStep
  split
  · exact h.takeBoundaries ..
  · exact h

theorem Journal.Ordered.confirm {s : State} (h : s.journal.Ordered) (b : BookId) (r : ConfirmResult) :
    (s.confirm b r).journal.Ordered := by
  have unexpected : (s.unexpectedConfirmation b r).journal.Ordered := h.offer _
  unfold State.confirm
  split
  · exact h.offer _
  · split
    · exact h.offer _
    · exact unexpected
  all_goals exact unexpected

/-! ### The time path -/

theorem Journal.Ordered.switchReference {s : State} (h : s.journal.Ordered) : s.switchReference.journal.Ordered := by
  unfold State.switchReference
  dsimp only
  split
  · exact h.offer _
  · exact (h.offer _).offer _

theorem Journal.Ordered.lossOfSelected {s : State} (h : s.journal.Ordered) : s.lossOfSelected.journal.Ordered := by
  have switched := h.switchReference
  unfold State.lossOfSelected
  dsimp only
  split
  · exact h
  · split
    · exact switched
    · exact h
  · split
    · exact switched
    · exact h.offer _
  · split
    · exact switched
    · exact h

theorem Journal.Ordered.becameHealthy {s : State} (h : s.journal.Ordered) (ref : RefLine) :
    (s.becameHealthy ref).journal.Ordered := by
  unfold State.becameHealthy
  split
  · split
    · exact h.offer _
    · exact h
  · split
    · exact h.switchReference
    · exact h

theorem Journal.Ordered.refuseMarker {s : State} (h : s.journal.Ordered) (ref : RefLine) (reason : RefusalReason) :
    (s.refuseMarker ref reason).journal.Ordered := by
  unfold State.refuseMarker
  dsimp only
  have lost (m n : Monitor) (e : EvidenceEvent) :
      ((((s.setMonitor ref m).raise e).setMonitor ref n).offerClock .referenceLost ref).journal.Ordered :=
    Journal.Ordered.offer (Journal.Ordered.setMonitor (by exact h.setMonitor ref m) ref n) _
  split
  · split
    · exact (lost ..).lossOfSelected
    · exact lost ..
  · exact h.setMonitor ref _

theorem Journal.Ordered.lockAfterSlew {s : State} (h : s.journal.Ordered) (theta : Int) :
    (s.lockAfterSlew theta).journal.Ordered := by
  unfold State.lockAfterSlew
  split
  · split
    · split
      · exact h.offer _
      · exact h
    · exact h
  · split
    · exact h.offer _
    · exact h
  · exact h
  · exact h

theorem Journal.Ordered.slew {s : State} (h : s.journal.Ordered) (m : Marker) : (s.slew m).journal.Ordered :=
  (Journal.Ordered.lockAfterSlew (by exact h) m.theta).judgeGrade

theorem Journal.Ordered.deferStep {s : State} (h : s.journal.Ordered) (m : Marker) :
    (s.deferStep m).journal.Ordered := by
  refine Journal.Ordered.judgeGrade ?_
  split
  · exact Journal.Ordered.offer (h.offered _) _
  · exact h.offered _

theorem Journal.Ordered.stepClock {s : State} (h : s.journal.Ordered) (m : Marker) :
    (s.stepClock m).journal.Ordered := by
  refine Journal.Ordered.judgeGrade ?_
  split
  · exact Journal.Ordered.offer (h.offered _) _
  · exact h.offered _

theorem Journal.Ordered.reserveForStep {s : State} (h : s.journal.Ordered) : s.reserveForStep.journal.Ordered := by
  refine h.foldl (fun t l ordered => ?_) _
  split
  · exact ordered.reserve l
  · exact ordered

theorem Journal.Ordered.snapshotOnStep {s : State} (h : s.journal.Ordered) (forward : Bool) :
    (s.snapshotOnStep forward).journal.Ordered := by
  unfold State.snapshotOnStep
  split
  · exact h
  · split
    · split
      · exact h.takeSnapshot
      · exact h
    · exact h

theorem Journal.Ordered.booksStepped {s : State} (h : s.journal.Ordered) (m : Marker) :
    (s.booksStepped m).journal.Ordered := by
  have clocked := h.reserveForStep.stepClock m
  unfold State.booksStepped
  dsimp only
  split
  · exact clocked.foldl (fun t b ordered => ordered.bookOnStep b) _
  · exact clocked

theorem Journal.Ordered.stepLt {s : State} (h : s.journal.Ordered) (m : Marker) : (s.stepLt m).journal.Ordered := by
  have laned : (s.lanesStepped m).journal.Ordered :=
    (h.booksStepped m).foldl (fun t l ordered => ordered.laneOnStep l) _
  rw [State.stepLt_eq]
  exact laned.snapshotOnStep _

theorem Journal.Ordered.evaluate {s : State} (h : s.journal.Ordered) (m : Marker) :
    (s.evaluate m).journal.Ordered := by
  unfold State.evaluate
  split
  · exact h.slew m
  · split
    · exact h.deferStep m
    · exact h.stepLt m

theorem Journal.Ordered.disciplineMarker {s : State} (h : s.journal.Ordered) (m : Marker) :
    (s.disciplineMarker m).journal.Ordered := by
  unfold State.disciplineMarker
  split
  · exact h.evaluate m
  · exact h.evaluate m
  · exact h
  · exact h

/-! ### Markers -/

theorem Journal.Ordered.noteMarker {s : State} (h : s.journal.Ordered) (ref : RefLine) (k : Marker) :
    (s.noteMarker ref k).journal.Ordered := by
  have taken : (s.setMonitor ref { (s.monitor ref).accepted k with
      refState := (s.monitor ref).refState.afterAccepted ((s.monitor ref).accepted k).good }).journal.Ordered :=
    h.setMonitor ..
  unfold State.noteMarker
  dsimp only
  split <;> split
  · exact taken.offered _
  · exact taken
  · exact Journal.Ordered.offer (taken.offered _) _
  · exact taken.offered _

theorem Journal.Ordered.acceptMarker {s : State} (h : s.journal.Ordered) (ref : RefLine) (k : Marker) :
    (s.acceptMarker ref k).journal.Ordered := by
  have noted := h.noteMarker ref k
  have disciplined : (if ref = s.discipline.selected then (s.noteMarker ref k).disciplineMarker k
      else s.noteMarker ref k).journal.Ordered := by
    split
    · exact noted.disciplineMarker k
    · exact noted
  rw [State.acceptMarker_eq]
  dsimp only
  split
  · exact disciplined.becameHealthy ref
  · exact disciplined

theorem Journal.Ordered.judgeEdge {s : State} (h : s.journal.Ordered) (ref : RefLine) (a : Announcement) :
    (s.judgeEdge ref a).journal.Ordered := by
  have guarded : (s.setUnit ref s.guardUnit).journal.Ordered := h.setMonitor ..
  unfold State.judgeEdge
  dsimp only
  split
  · exact guarded.refuseMarker ..
  · split
    · exact guarded.refuseMarker ..
    · exact guarded.acceptMarker ..

end Sys2Proof.Machine
end

section
/-! PROOFS. The commands that are no requests keep the ring in order (R149, R157, R158). -/

namespace Sys2Proof.Machine

/-! ### The time path -/

theorem execAnnouncementReceived_ordered {s t : State} {ref : RefLine} {m : Bytes} (hs : s.journal.Ordered)
    (h : execAnnouncementReceived ref m s = .next t) : t.journal.Ordered := by
  cases h
  split
  · exact hs
  · split
    · exact hs.setMonitor ..
    · unfold State.validAnnouncement
      split
      · exact hs.setMonitor ..
      · have guarded : (s.setUnit ref s.guardUnit).journal.Ordered := hs.setMonitor ..
        exact (guarded.setMonitor ref _).refuseMarker ref .overrun
      · exact hs.setMonitor ..

theorem execMarkerEdge_ordered {s t : State} {ref : RefLine} (hs : s.journal.Ordered)
    (h : execMarkerEdge ref s = .next t) : t.journal.Ordered := by
  cases h
  split
  · exact hs
  · split
    · exact hs.judgeEdge ..
    · exact hs.setMonitor ..
    · exact hs.setMonitor ..

theorem execArmExpiry_ordered {s t : State} {ref : RefLine} (hs : s.journal.Ordered)
    (h : execArmExpiry ref s = .next t) : t.journal.Ordered := by
  cases h
  split
  · split
    · exact (hs.setMonitor ref _).refuseMarker ..
    · exact hs
  · exact hs
  · exact hs

theorem execAnnouncementExpiry_ordered {s t : State} {ref : RefLine} (hs : s.journal.Ordered)
    (h : execAnnouncementExpiry ref s = .next t) : t.journal.Ordered := by
  cases h
  split
  · split
    · exact (hs.setMonitor ref _).refuseMarker ..
    · exact hs
  all_goals exact hs

theorem execGuardExpiry_ordered {s t : State} {ref : RefLine} (hs : s.journal.Ordered)
    (h : execGuardExpiry ref s = .next t) : t.journal.Ordered := by
  cases h
  split
  · split
    · exact hs.setMonitor ..
    · exact hs
  · exact hs
  · exact hs

theorem execGrowthExpiry_ordered {s t : State} (hs : s.journal.Ordered) (h : execGrowthExpiry s = .next t) :
    t.journal.Ordered := by
  cases h
  split
  · exact hs
  · split
    · exact Journal.Ordered.judgeGrade (by exact hs)
    · exact hs

/-! ### Links -/

theorem execALinkLost_ordered {s t : State} {l : LaneId} (hs : s.journal.Ordered)
    (h : execALinkLost l s = .next t) : t.journal.Ordered := by
  cases h
  split
  · exact hs
  · have down : (s.setLane l { s.lane l with aLink := .down, aTx := none }).journal.Ordered := hs
    exact ((down.abandonReception l).failProbe l).offer _

theorem execALinkReturned_ordered {s t : State} {l : LaneId} (hs : s.journal.Ordered)
    (h : execALinkReturned l s = .next t) : t.journal.Ordered := by
  cases h
  split
  · exact hs
  · exact hs.offered _

theorem execBLinkLost_ordered {s t : State} {l : LaneId} {r : Bool} (hs : s.journal.Ordered)
    (h : execBLinkLost l r s = .next t) : t.journal.Ordered := by
  cases h
  split
  · exact hs
  · dsimp only
    split <;> exact (Journal.Ordered.dropCredits (by exact hs) l).offer _

theorem execBLinkReturned_ordered {s t : State} {l : LaneId} (hs : s.journal.Ordered)
    (h : execBLinkReturned l s = .next t) : t.journal.Ordered := by
  cases h
  split
  · exact hs
  · exact hs.offered _

/-! ### The A port -/

theorem execStartOfFrame_ordered {s t : State} {l : LaneId} (hs : s.journal.Ordered)
    (h : execStartOfFrame l s = .next t) : t.journal.Ordered := by
  cases h
  split <;> exact hs

/-- A frame that ends keeps the ring in order where its handling does. -/
theorem Journal.Ordered.frameEnds {s : State} (h : s.journal.Ordered) (l : LaneId) (f : Bytes) (k : APortFrame)
    {handle : Reception → State → State} (keeps : ∀ rx, (handle rx s).journal.Ordered) :
    (s.frameEnds l f k handle).journal.Ordered := by
  unfold State.frameEnds
  split
  · exact h
  · split
    · exact ((keeps _).endReception l).afterReception l
    · exact h

theorem Journal.Ordered.handleForeign {s : State} (h : s.journal.Ordered) (l : LaneId) (f : Bytes) (rx : Reception) :
    (s.handleForeign l f rx).journal.Ordered := by
  unfold State.handleForeign
  dsimp only
  split
  · exact h
  · split
    · exact Journal.Ordered.admitFrame (by exact h) ..
    · exact h

theorem Journal.Ordered.refuseEntry {s : State} (h : s.journal.Ordered) (l : LaneId) (rx : Reception) (j : Judged)
    (r : EntryRefusal) : (s.refuseEntry l rx j r).journal.Ordered := by
  unfold State.refuseEntry
  dsimp only
  split <;> exact h.offerEntry l _

theorem Journal.Ordered.forwardEntry {s : State} (h : s.journal.Ordered) (l : LaneId) (f : Bytes) (rx : Reception)
    (j : Judged) (c : ClassId) (r : ClassRecord) : (s.forwardEntry l f rx j c r).journal.Ordered := by
  have recorded := h.offerEntry l (entryRecord l rx j none)
  exact Journal.Ordered.admitFrame (by exact recorded) ..

theorem Journal.Ordered.queryGating {s : State} (h : s.journal.Ordered) (l : LaneId) (b : Option BookId)
    (stamp : Nat) : (s.queryGating l b stamp).1.journal.Ordered := by
  unfold State.queryGating
  split
  · exact h
  · exact h.takeForQuery ..

theorem Journal.Ordered.handleWellFormed {s : State} (h : s.journal.Ordered) (l : LaneId) (f : Bytes) (rx : Reception)
    (e : EntryHeader) : (s.handleWellFormed l f rx e).journal.Ordered := by
  have queried := h.queryGating l (s.classTable[(s.classify e).val]).book rx.stamp
  unfold State.handleWellFormed
  dsimp only
  split
  · exact queried.refuseEntry ..
  · exact queried.forwardEntry ..
  · exact queried.forwardEntry ..

theorem Journal.Ordered.handleEntry {s : State} (h : s.journal.Ordered) (l : LaneId) (f : Bytes) (rx : Reception) :
    (s.handleEntry l f rx).journal.Ordered := by
  unfold State.handleEntry
  dsimp only
  split
  · exact h
  · exact h.refuseEntry ..
  · exact h.refuseEntry ..
  · split
    · exact h.handleWellFormed ..
    · exact h.refuseEntry ..

theorem execAFrameDiscarded_ordered {s t : State} {l : LaneId} {f : Bytes} (hs : s.journal.Ordered)
    (h : execAFrameDiscarded l f s = .next t) : t.journal.Ordered := by
  cases h
  split <;> exact hs.frameEnds _ _ _ fun _ => hs

theorem Journal.Ordered.probeDone {s : State} (h : s.journal.Ordered) (l : LaneId) (roundTrip : Nat) :
    (s.probeDone l roundTrip).journal.Ordered :=
  h.install l (probeC roundTrip) (probeU roundTrip (s.lane l).allowance) (some roundTrip)

theorem execProbeReturn_ordered {s t : State} {l : LaneId} {f : Bytes} (hs : s.journal.Ordered)
    (h : execProbeReturn l f s = .next t) : t.journal.Ordered := by
  cases h
  split
  · exact hs
  · split
    · split
      · exact ((hs.endReception l).probeDone l _).afterReception l
      · exact (Journal.Ordered.endReception (by exact hs) l).afterReception l
    · exact hs

theorem execProbeTimeout_ordered {s t : State} {l : LaneId} (hs : s.journal.Ordered)
    (h : execProbeTimeout l s = .next t) : t.journal.Ordered := by
  cases h
  split
  · split
    · exact hs.probeFail l
    · exact hs
  · exact hs
  · exact hs

/-! ### The B port -/

theorem Journal.Ordered.bFrameEnds {s : State} (h : s.journal.Ordered) (l : LaneId) (f : Bytes) (k : BPortFrame)
    {handle : State → State} (keeps : (handle s).journal.Ordered) : (s.bFrameEnds l f k handle).journal.Ordered := by
  unfold State.bFrameEnds
  split
  · exact h
  · split
    · exact keeps
    · exact h

theorem execBFrameDiscarded_ordered {s t : State} {l : LaneId} {f : Bytes} (hs : s.journal.Ordered)
    (h : execBFrameDiscarded l f s = .next t) : t.journal.Ordered := by
  cases h
  split <;> exact hs.bFrameEnds _ _ _ (by exact hs)

theorem Journal.Ordered.offerReport {s : State} (h : s.journal.Ordered) (l : LaneId) (f : Bytes) :
    (s.offerReport l f).journal.Ordered := by
  unfold State.offerReport
  split <;> exact h

theorem Journal.Ordered.offerRequest {s : State} (h : s.journal.Ordered) (l : LaneId) (f : Bytes) :
    (s.offerRequest l f).journal.Ordered := by
  unfold State.offerRequest
  dsimp only
  split
  · exact h
  · split <;> exact h

theorem Journal.Ordered.grant {s : State} (h : s.journal.Ordered) (l : LaneId) (n : Nat) :
    (s.grant l n).journal.Ordered := by
  unfold State.grant
  dsimp only
  split <;> split <;> exact h

theorem execCreditGrant_ordered {s t : State} {l : LaneId} {f : Bytes} (hs : s.journal.Ordered)
    (h : execCreditGrant l f s = .next t) : t.journal.Ordered := by
  cases h
  refine hs.bFrameEnds _ _ _ ?_
  split
  · exact hs
  · exact hs.grant ..

theorem execUncrossDone_ordered {s t : State} {l : LaneId} {f : Bytes} (hs : s.journal.Ordered)
    (h : execUncrossDone l f s = .next t) : t.journal.Ordered := by
  cases h
  refine hs.bFrameEnds _ _ _ ?_
  dsimp only
  split
  · exact hs
  · exact hs.confirm ..

/-! ### What leaves a lane -/

theorem execReleaseExpiry_ordered {s t : State} {l : LaneId} (hs : s.journal.Ordered)
    (h : execReleaseExpiry l s = .next t) : t.journal.Ordered := by
  cases h
  split
  · exact hs
  · split <;> exact hs

theorem execPlacementExpiry_ordered {s t : State} {l : LaneId} {b : BookId} (hs : s.journal.Ordered)
    (h : execPlacementExpiry l b s = .next t) : t.journal.Ordered := by
  cases h
  split
  · exact Journal.Ordered.placementTest (by exact hs) l
  · exact hs

theorem Journal.Ordered.releaseEntry {s : State} (h : s.journal.Ordered) (l : LaneId) (earlier : List HoldEntry)
    (e : HoldEntry) (later : List HoldEntry) : (s.releaseEntry l earlier e later).journal.Ordered := by
  refine Journal.Ordered.endDrain ?_ l
  split
  · exact h
  · exact h.offered _

theorem execEngineEgressChoice_ordered {s t : State} {l : LaneId} (hs : s.journal.Ordered)
    (h : execEngineEgressChoice l s = .next t) : t.journal.Ordered := by
  cases h
  split
  · exact hs
  · split
    · exact hs
    · exact hs.releaseEntry ..
    · exact hs
    · exact hs.afterExport s.lt

theorem execGatewayEgressChoice_ordered {s t : State} {l : LaneId} (hs : s.journal.Ordered)
    (h : execGatewayEgressChoice l s = .next t) : t.journal.Ordered := by
  cases h
  dsimp only
  split
  · exact hs
  · split
    · exact hs
    · exact hs.offered _
    · exact hs
    · exact hs

/-! ### Books, the exporter, the evidence -/

theorem execUncrossTimeout_ordered {s t : State} {b : BookId} (hs : s.journal.Ordered)
    (h : execUncrossTimeout b s = .next t) : t.journal.Ordered := by
  cases h
  split
  · exact hs.offered _
  · exact hs

theorem execFlushExpiry_ordered {s t : State} (hs : s.journal.Ordered) (h : execFlushExpiry s = .next t) :
    t.journal.Ordered := by
  cases h
  split
  · exact hs
  · split <;> exact hs

theorem execSnapshotExpiry_ordered {s t : State} (hs : s.journal.Ordered) (h : execSnapshotExpiry s = .next t) :
    t.journal.Ordered := by
  cases h
  split
  · exact hs
  · split
    · exact hs.takeSnapshot
    · exact hs

end Sys2Proof.Machine
end

section
/-! PROOFS. The requests keep the ring in order (R149, R157, R158). -/

namespace Sys2Proof.Machine

/-- A request whose judgement keeps the ring in order keeps it so: the taking and the reply leave the Journal alone. -/
theorem Journal.Ordered.takeRequest {s : State} (h : s.journal.Ordered) (row : Instr)
    {serve : LaneId → Bytes → State → Answer}
    (keeps : ∀ {u : State}, u.journal.Ordered → ∀ l p, (serve l p u).1.journal.Ordered) :
    (s.takeRequest row serve).journal.Ordered := by
  unfold State.takeRequest
  split
  · exact h
  · next l frame _ =>
    dsimp only
    have popped : (s.popRequest l).journal.Ordered := h
    split
    · split
      · exact popped
      · exact keeps popped l _
    · exact h

theorem ordered_of_request {s t : State} {row : Instr} {serve : LaneId → Bytes → State → Answer}
    (h : (.next (s.takeRequest row serve) : Result) = .next t) (hs : s.journal.Ordered)
    (keeps : ∀ {u : State}, u.journal.Ordered → ∀ l p, (serve l p u).1.journal.Ordered) : t.journal.Ordered := by
  cases h
  exact hs.takeRequest row keeps

/-! ### Table writes -/

theorem serveMatch_ordered {s : State} (h : s.journal.Ordered) (l : LaneId) (p : Bytes) :
    (serveMatch l p s).1.journal.Ordered := by
  unfold serveMatch
  dsimp only
  split
  · exact h
  · split
    · exact h
    · split
      · exact h
      · split
        · exact h
        · exact h.offered _

theorem serveClass_ordered {s : State} (h : s.journal.Ordered) (l : LaneId) (p : Bytes) :
    (serveClass l p s).1.journal.Ordered := by
  unfold serveClass
  split
  · exact h
  · split
    · exact h
    · split
      · exact h
      · exact h.offered _

theorem serveLaneWrite_ordered {s : State} (h : s.journal.Ordered) (l : LaneId) (p : Bytes) :
    (serveLaneWrite l p s).1.journal.Ordered := by
  unfold serveLaneWrite
  dsimp only
  split
  · exact h
  · next k _ =>
    repeat' split
    · exact h
    · exact h
    · exact h
    · exact h
    · exact Journal.Ordered.installPending (h.offered _) k

/-- The tests of a STAMPING write change nothing. -/
theorem stampingTests_ordered {s : State} (h : s.journal.Ordered) (known : Bool) {judge : State → Answer}
    (keeps : (judge s).1.journal.Ordered) (p : Bytes) : (stampingTests known judge p s).1.journal.Ordered := by
  unfold stampingTests
  split
  · exact h
  · split
    · exact h
    · split
      · exact h
      · exact keeps

theorem stampingRange_ordered {s : State} (h : s.journal.Ordered) (low high value : Nat) (t : Stamping)
    {after : State → State} (keeps : ∀ {u : State}, u.journal.Ordered → (after u).journal.Ordered) :
    (stampingRange low high value t after s).1.journal.Ordered := by
  unfold stampingRange
  split
  · exact keeps (h.offered _)
  · exact h

theorem serveEntryFrameType_ordered {s : State} (h : s.journal.Ordered) (l : LaneId) (p : Bytes) :
    (serveEntryFrameType l p s).1.journal.Ordered := by
  refine stampingTests_ordered h _ ?_ p
  split
  · exact h
  · exact stampingRange_ordered h _ _ _ _ id

theorem serveClockSetting_ordered {s : State} (h : s.journal.Ordered) (l : LaneId) (p : Bytes) :
    (serveClockSetting l p s).1.journal.Ordered := by
  unfold serveClockSetting
  split
  · exact h
  · split
    · exact h
    · exact h.offered _

theorem serveAutoSwitch_ordered {s : State} (h : s.journal.Ordered) (l : LaneId) (p : Bytes) :
    (serveAutoSwitch l p s).1.journal.Ordered := by
  unfold serveAutoSwitch
  split
  · exact h
  · split
    · exact h
    · exact h.offered _

theorem Journal.Ordered.afterEnable {s : State} (h : s.journal.Ordered) (ref : RefLine) (on changed : Bool) :
    (s.afterEnable ref on changed).journal.Ordered := by
  unfold State.afterEnable
  split
  · exact h
  · split
    · exact h.offer _
    · dsimp only
      split
      · exact Journal.Ordered.lossOfSelected (h.offer _)
      · exact h.offer _

theorem serveReferenceEnable_ordered {s : State} (h : s.journal.Ordered) (l : LaneId) (p : Bytes) :
    (serveReferenceEnable l p s).1.journal.Ordered := by
  unfold serveReferenceEnable
  split
  · exact h
  · split
    · exact h
    · exact Journal.Ordered.afterEnable (Journal.Ordered.offer (h.setMonitor ..) _) ..

theorem acceptJournal_ordered {j : Journal} (h : j.Ordered) (s : State) : (acceptJournal j s).1.journal.Ordered :=
  h.admitRecord s.lt _

theorem serveExportLane_ordered {s : State} (h : s.journal.Ordered) (l : LaneId) (p : Bytes) :
    (serveExportLane l p s).1.journal.Ordered := by
  unfold serveExportLane
  split
  · exact h
  · split
    · exact h
    · split
      · exact h
      · exact acceptJournal_ordered (by exact h) s

theorem serveFlushInterval_ordered {s : State} (h : s.journal.Ordered) (l : LaneId) (p : Bytes) :
    (serveFlushInterval l p s).1.journal.Ordered := by
  unfold serveFlushInterval
  dsimp only
  split
  · exact h
  · split
    · exact acceptJournal_ordered (Journal.Ordered.setFlush (by exact h) s.lt) s
    · exact h

theorem serveCounter_ordered {s : State} (h : s.journal.Ordered) (l : LaneId) (p : Bytes) :
    (serveCounter l p s).1.journal.Ordered := by
  unfold serveCounter
  split
  · exact h
  · split
    · exact h
    · exact h.offered _

theorem serveSnapshotPeriod_ordered {s : State} (h : s.journal.Ordered) (l : LaneId) (p : Bytes) :
    (serveSnapshotPeriod l p s).1.journal.Ordered := by
  unfold serveSnapshotPeriod
  split
  · exact h
  · exact h.offered _

theorem serveTableRead_ordered {s : State} (h : s.journal.Ordered) (l : LaneId) (p : Bytes) :
    (serveTableRead l p s).1.journal.Ordered := by
  unfold serveTableRead
  split
  · exact h
  · split <;> exact h

/-! ### Books -/

theorem Journal.Ordered.judgeArm {s : State} (h : s.journal.Ordered) (b : BookId) (p : Bytes) :
    (s.judgeArm b p).1.journal.Ordered := by
  unfold State.judgeArm
  dsimp only
  repeat' split
  · exact h
  · exact h
  · exact h
  · exact h
  · exact h.offered _

theorem serveBookArm_ordered {s : State} (h : s.journal.Ordered) (l : LaneId) (p : Bytes) :
    (serveBookArm l p s).1.journal.Ordered := by
  unfold serveBookArm
  split
  · exact h
  · split
    iterate 5 exact h
    · exact h.judgeArm ..
    · exact h.judgeArm ..

theorem serveBookDisarm_ordered {s : State} (h : s.journal.Ordered) (l : LaneId) (p : Bytes) :
    (serveBookDisarm l p s).1.journal.Ordered := by
  unfold serveBookDisarm
  split
  · exact h
  · next b _ =>
    have disarmed : (s.disarm b).1.journal.Ordered := h.offered _
    split
    · exact disarmed
    · split
      · exact h
      · exact disarmed
    all_goals exact h

theorem Journal.Ordered.judgeExtend {s : State} (h : s.journal.Ordered) (b : BookId) (ext : Nat) :
    (s.judgeExtend b ext).1.journal.Ordered := by
  unfold State.judgeExtend
  split
  iterate 5 exact h
  · exact h.offered _
  · exact h.offered _
  all_goals exact h

theorem serveBookExtend_ordered {s : State} (h : s.journal.Ordered) (l : LaneId) (p : Bytes) :
    (serveBookExtend l p s).1.journal.Ordered := by
  unfold serveBookExtend
  split
  · exact h
  · split
    · exact h
    · exact h.judgeExtend ..

/-! ### Clock commands -/

theorem Journal.Ordered.enterAcquire {s : State} (h : s.journal.Ordered) : s.enterAcquire.journal.Ordered := by
  unfold State.enterAcquire
  dsimp only
  split
  · exact h.switchReference
  · exact h.offered _

theorem serveAcquire_ordered {s : State} (h : s.journal.Ordered) (l : LaneId) (p : Bytes) :
    (serveAcquire l p s).1.journal.Ordered := by
  have commanded : s.commandAcquire.journal.Ordered := by
    unfold State.commandAcquire
    split
    · exact h.enterAcquire
    · exact h.enterAcquire
    · exact h
    · exact h
  unfold serveAcquire
  split
  · exact h
  · exact commanded

theorem serveRelease_ordered {s : State} (h : s.journal.Ordered) (l : LaneId) (p : Bytes) :
    (serveRelease l p s).1.journal.Ordered := by
  have entered : s.enterFree.journal.Ordered := Journal.Ordered.judgeGrade (h.offered _)
  unfold serveRelease
  split
  · exact h
  all_goals exact entered

theorem Journal.Ordered.select {s : State} (h : s.journal.Ordered) (ref : RefLine) :
    (s.select ref).journal.Ordered := by
  unfold State.select
  split
  · exact h
  · dsimp only
    split
    · exact Journal.Ordered.offer (h.offered _) _
    · exact h.offered _

theorem Journal.Ordered.clearMissingOf {s : State} (h : s.journal.Ordered) (ref : RefLine) :
    (s.clearMissingOf ref).journal.Ordered := by
  unfold State.clearMissingOf
  dsimp only
  split
  · exact Journal.Ordered.offer (h.setMonitor ..) _
  · exact h.setMonitor ..

/-! ### Lane commands -/

theorem onCommandedLane_ordered {s : State} (h : s.journal.Ordered) (code : Nat) (p : Bytes) {take : LaneId → Answer}
    (keeps : ∀ l, (take l).1.journal.Ordered) : (onCommandedLane code p s take).1.journal.Ordered := by
  unfold onCommandedLane
  split
  · exact h
  · split
    · exact h
    · exact keeps _

theorem Journal.Ordered.enterState {s : State} (h : s.journal.Ordered) (l : LaneId) (state : LaneState)
    (event : LaneEvent) : (s.enterState l state event).journal.Ordered := h.offered _

theorem serveEnable_ordered {s : State} (h : s.journal.Ordered) (l : LaneId) (p : Bytes) :
    (serveEnable l p s).1.journal.Ordered := by
  refine onCommandedLane_ordered h _ p fun k => ?_
  have entered := h.enterState k .active .enabled
  split
  · exact entered
  · exact h
  · exact entered
  · exact h

theorem serveDrain_ordered {s : State} (h : s.journal.Ordered) (l : LaneId) (p : Bytes) :
    (serveDrain l p s).1.journal.Ordered := by
  refine onCommandedLane_ordered h _ p fun k => ?_
  split
  · exact h
  · unfold State.startDrain
    split
    · exact h.enterState k .disabled .disabled
    · exact h.enterState k .draining .drainStarted
  · exact h
  · exact h

theorem serveDisable_ordered {s : State} (h : s.journal.Ordered) (l : LaneId) (p : Bytes) :
    (serveDisable l p s).1.journal.Ordered := by
  refine onCommandedLane_ordered h _ p fun k => ?_
  have entered := h.enterState k .disabled .disabled
  split
  · exact h
  · exact entered
  · exact entered
  · exact h

theorem Journal.Ordered.startProbing {s : State} (h : s.journal.Ordered) (l : LaneId) (ret : ReturnState) :
    (s.startProbing l ret).1.journal.Ordered := by
  have probing : (s.enterProbing l ret).journal.Ordered := h.offered _
  unfold State.startProbing
  split
  · exact h
  · split
    · exact probing
    · exact probing.probeFail l

theorem serveProbe_ordered {s : State} (h : s.journal.Ordered) (l : LaneId) (p : Bytes) :
    (serveProbe l p s).1.journal.Ordered := by
  refine onCommandedLane_ordered h _ p fun k => ?_
  split
  · exact h.startProbing ..
  · exact h.startProbing ..
  · exact h
  · exact h

/-! ### Journal requests and the datapath reset -/

theorem Journal.Ordered.releaseRecords {s : State} (h : s.journal.Ordered) (n : Nat) :
    (s.releaseRecords n).journal.Ordered := by
  have released := h.releaseThrough n
  unfold State.releaseRecords
  dsimp only
  split
  · exact released
  · exact released.writeGap s.lt

theorem serveJournalRelease_ordered {s : State} (h : s.journal.Ordered) (l : LaneId) (p : Bytes) :
    (serveJournalRelease l p s).1.journal.Ordered := by
  unfold serveJournalRelease
  dsimp only
  split
  · exact h
  · exact h.releaseRecords _

theorem serveJournalResend_ordered {s : State} (h : s.journal.Ordered) (l : LaneId) (p : Bytes) :
    (serveJournalResend l p s).1.journal.Ordered := by
  unfold serveJournalResend
  dsimp only
  split <;> exact h

theorem serveDatapathReset_ordered {s : State} (h : s.journal.Ordered) (l : LaneId) (p : Bytes) :
    (serveDatapathReset l p s).1.journal.Ordered := by
  unfold serveDatapathReset
  split
  · exact h
  · exact h.flushLanes allLanes

end Sys2Proof.Machine
end

section
/-! PROOFS. Every step keeps the ring in order (R149, R157, R158). -/

namespace Sys2Proof.Machine

/-- The reset input leaves an empty ring, whatever came before (R42). -/
theorem execPowerOnReset_ordered {s t : State} (h : execPowerOnReset s = .next t) : t.journal.Ordered := by
  obtain ⟨-, -, ordered, -⟩ := resetMeetsInvariants
  cases h
  exact ordered

theorem exec_ordered {c : Instr} {s t : State} (hs : s.journal.Ordered) (h : exec c s = .next t) :
    t.journal.Ordered := by
  cases c with
  | powerOnReset => exact execPowerOnReset_ordered h
  | markerEdge ref => exact execMarkerEdge_ordered hs h
  | tableWriteLane => exact ordered_of_request h hs serveLaneWrite_ordered
  | announcementReceived ref m => exact execAnnouncementReceived_ordered hs h
  | armExpiry ref => exact execArmExpiry_ordered hs h
  | announcementExpiry ref => exact execAnnouncementExpiry_ordered hs h
  | guardExpiry ref => exact execGuardExpiry_ordered hs h
  | growthExpiry => exact execGrowthExpiry_ordered hs h
  | aLinkLost l => exact execALinkLost_ordered hs h
  | aLinkReturned l => exact execALinkReturned_ordered hs h
  | bLinkLost l r => exact execBLinkLost_ordered hs h
  | bLinkReturned l => exact execBLinkReturned_ordered hs h
  | startOfFrame l => exact execStartOfFrame_ordered hs h
  | aFrameDiscarded l f => exact execAFrameDiscarded_ordered hs h
  | entryFrame l f => cases h; exact hs.frameEnds _ _ _ fun rx => hs.handleEntry l f rx
  | foreignFrame l f => cases h; exact hs.frameEnds _ _ _ fun rx => hs.handleForeign l f rx
  | aControlFrame l f => cases h; exact hs.frameEnds _ _ _ fun _ => hs
  | probeReturn l f => exact execProbeReturn_ordered hs h
  | probeTimeout l => exact execProbeTimeout_ordered hs h
  | bFrameDiscarded l f => exact execBFrameDiscarded_ordered hs h
  | reportFrame l f => cases h; exact hs.bFrameEnds _ _ _ (hs.offerReport l f)
  | controlRequestArrival l f => cases h; exact hs.bFrameEnds _ _ _ (hs.offerRequest l f)
  | shortControlFrame l f => cases h; exact hs.bFrameEnds _ _ _ (by exact hs)
  | bControlDiscarded l f => cases h; exact hs.bFrameEnds _ _ _ (by exact hs)
  | creditGrant l f => exact execCreditGrant_ordered hs h
  | uncrossDone l f => exact execUncrossDone_ordered hs h
  | releaseExpiry l => exact execReleaseExpiry_ordered hs h
  | placementExpiry l b => exact execPlacementExpiry_ordered hs h
  | engineEgressChoice l => exact execEngineEgressChoice_ordered hs h
  | gatewayEgressChoice l => exact execGatewayEgressChoice_ordered hs h
  | tcExpiry b => cases h; exact hs.takeExpiry _ b
  | twExpiry b => cases h; exact hs.takeExpiry _ b
  | eExpiry b => cases h; exact hs.takeExpiry _ b
  | uncrossExpiry b => cases h; exact hs.takeExpiry _ b
  | uncrossTimeout b => exact execUncrossTimeout_ordered hs h
  | flushExpiry => exact execFlushExpiry_ordered hs h
  | snapshotExpiry => exact execSnapshotExpiry_ordered hs h
  | tableWriteMatch => exact ordered_of_request h hs serveMatch_ordered
  | tableWriteClass => exact ordered_of_request h hs serveClass_ordered
  | tableWriteH =>
    exact ordered_of_request h hs fun hu _ p =>
      stampingTests_ordered hu _ (stampingRange_ordered hu _ _ _ _ Journal.Ordered.judgeGrade) p
  | tableWriteL =>
    exact ordered_of_request h hs fun hu _ p =>
      stampingTests_ordered hu _ (stampingRange_ordered hu _ _ _ _ Journal.Ordered.judgeGrade) p
  | tableWriteDayOrigin =>
    exact ordered_of_request h hs fun hu _ p => stampingTests_ordered hu _ (stampingRange_ordered hu _ _ _ _ id) p
  | tableWriteEntryFrameType => exact ordered_of_request h hs serveEntryFrameType_ordered
  | tableWriteQ =>
    exact ordered_of_request h hs fun hu _ p => stampingTests_ordered hu _ (stampingRange_ordered hu _ _ _ _ id) p
  | tableWriteClockSetting => exact ordered_of_request h hs serveClockSetting_ordered
  | tableWriteAutoSwitch => exact ordered_of_request h hs serveAutoSwitch_ordered
  | tableWriteReferenceEnable => exact ordered_of_request h hs serveReferenceEnable_ordered
  | tableWriteExportLane => exact ordered_of_request h hs serveExportLane_ordered
  | tableWriteFlushInterval => exact ordered_of_request h hs serveFlushInterval_ordered
  | tableWriteCounter => exact ordered_of_request h hs serveCounter_ordered
  | tableWriteSnapshotPeriod => exact ordered_of_request h hs serveSnapshotPeriod_ordered
  | tableRead => exact ordered_of_request h hs serveTableRead_ordered
  | bookArm => exact ordered_of_request h hs serveBookArm_ordered
  | bookDisarm => exact ordered_of_request h hs serveBookDisarm_ordered
  | bookExtend => exact ordered_of_request h hs serveBookExtend_ordered
  | bookSeed => exact ordered_of_request h hs fun hu _ _ => hu.offered _
  | acquire => exact ordered_of_request h hs serveAcquire_ordered
  | release => exact ordered_of_request h hs serveRelease_ordered
  | selectA => exact ordered_of_request h hs fun hu _ _ => hu.select .a
  | selectB => exact ordered_of_request h hs fun hu _ _ => hu.select .b
  | clearMissing => exact ordered_of_request h hs fun hu _ _ => (hu.clearMissingOf .a).clearMissingOf .b
  | enable => exact ordered_of_request h hs serveEnable_ordered
  | drain => exact ordered_of_request h hs serveDrain_ordered
  | disable => exact ordered_of_request h hs serveDisable_ordered
  | probe => exact ordered_of_request h hs serveProbe_ordered
  | journalRelease => exact ordered_of_request h hs serveJournalRelease_ordered
  | journalResend => exact ordered_of_request h hs serveJournalResend_ordered
  | counterRead => exact ordered_of_request h hs fun hu _ _ => hu
  | counterClear => exact ordered_of_request h hs fun hu _ _ => hu.offered _
  | statusRead => exact ordered_of_request h hs fun hu _ _ => hu
  | datapathReset => exact ordered_of_request h hs serveDatapathReset_ordered
  | unknownRequest => exact ordered_of_request h hs fun hu _ _ => hu

/-- Settles O56: the tick leaves the Journal alone, and every command keeps the ring in order. -/
theorem stepKeepsJournalOrdered : Obligations.StepKeepsJournalOrdered := by
  intro s t hs h
  rcases step_cases h with ⟨-, rfl⟩ | ⟨c, rest, -, executed⟩
  · exact hs
  · exact exec_ordered (by exact hs) executed

end Sys2Proof.Machine
end

section
/-! PROOFS. Exports (R161 to R163, R168), offered records (R149, R158, R159), and the requests on the Journal (R160,
R166, R168, R195). -/

namespace Sys2Proof.Machine

/-! ### The flush after an export frame (R162) -/

/-- The flush as the first record of the export run sets it: no expiry without one, due where its instant is reached,
else the expiry stands at that instant (R162). -/
theorem Journal.setFlush_flush (lt : Nat) (j : Journal) :
    (j.exportRun.head? = none → (j.setFlush lt).flushDue = j.flushDue ∧ (j.setFlush lt).flushExpiry = none) ∧
    (∀ h w r, j.exportRun.head? = some h → h.content = .written w r →
      let instant := w + j.flushInterval * 1000000
      (instant ≤ lt → (j.setFlush lt).flushDue = true ∧ (j.setFlush lt).flushExpiry = none) ∧
      (lt < instant → (j.setFlush lt).flushDue = j.flushDue ∧ (j.setFlush lt).flushExpiry = some instant)) := by
  unfold Journal.setFlush Journal.runHead
  refine ⟨fun empty => by simp [empty], fun h w r first written => ?_⟩
  have at_w : h.writeLt = w := by simp [Held.writeLt, written]
  simp only [first, Option.map_some, at_w, Config.milli]
  exact ⟨fun reached => by simp [reached], fun ahead => by simp [Nat.not_le.mpr ahead]⟩

@[simp] theorem Journal.setFlush_exportRun (lt : Nat) (j : Journal) : (j.setFlush lt).exportRun = j.exportRun := by
  simp [Journal.exportRun]

/-- An export frame, normal or of a resend, clears the note and sets the flush from what remains (R162, log 13). -/
theorem Journal.afterExport_flush (lt : Nat) (j : Journal) :
    let after := j.afterExport lt
    (after.exportRun.head? = none → after.flushDue = false ∧ after.flushExpiry = none) ∧
    (∀ h w r, after.exportRun.head? = some h → h.content = .written w r →
      let instant := w + j.flushInterval * 1000000
      (instant ≤ lt → after.flushDue = true ∧ after.flushExpiry = none) ∧
      (lt < instant → after.flushDue = false ∧ after.flushExpiry = some instant)) := by
  have set : ∃ sent : Journal,
      j.afterExport lt = sent.setFlush lt ∧ sent.flushDue = false ∧ sent.flushInterval = j.flushInterval := by
    unfold Journal.afterExport
    split <;> exact ⟨_, rfl, rfl, rfl⟩
  obtain ⟨sent, eq, note, interval⟩ := set
  have flush := sent.setFlush_flush lt
  rw [note, interval, ← Journal.setFlush_exportRun lt sent, ← eq] at flush
  exact flush

/-! ### Export frames -/

theorem Journal.exportReady_iff (j : Journal) : j.exportReady = true ↔
    j.resend ≠ none ∨ (j.exportRun ≠ [] ∧ (16 ≤ j.exportRun.length ∨ j.flushDue = true)) := by
  simp only [Journal.exportReady, Bool.or_eq_true, Bool.and_eq_true, decide_eq_true_eq]
  simp [Config.exportMax, Option.isSome_iff_ne_none]

theorem Journal.afterExport_of_normal {j : Journal} (lt : Nat) (h : j.resend = none) :
    j.afterExport lt = j.exported lt := by simp [Journal.afterExport, h]

theorem Journal.afterExport_of_resend {j : Journal} {c : Nat} (lt : Nat) (h : j.resend = some c) :
    j.afterExport lt = j.resent lt := by simp [Journal.afterExport, h]

theorem Journal.exportBatch_of_normal {j : Journal} (h : j.resend = none) :
    j.exportBatch = (j.exportRun.take 16, false) := by simp [Journal.exportBatch, h, Config.exportMax]

theorem Journal.exportBatch_of_resend {j : Journal} {c : Nat} (h : j.resend = some c) :
    j.exportBatch = (((j.held.dropWhile fun h => h.number < c).takeWhile Held.isExported).take 16, true) := by
  simp [Journal.exportBatch, h, Journal.resendRun, Config.exportMax]

theorem Journal.exported_highestExported (lt : Nat) {j : Journal} (h : j.exportBatch.1 ≠ []) :
    (j.exported lt).highestExported = j.exportBatch.1.getLast?.map Held.number := by
  have last : (lastNumber j.exportBatch.1).isSome = true := by simpa [lastNumber] using h
  obtain ⟨n, hn⟩ := Option.isSome_iff_exists.mp last
  simp only [Journal.exported, Journal.setFlush_highestExported]
  rw [hn, Option.some_or, ← hn, lastNumber]

/-- The cursor goes on to the position after a number, where that is EXPORTED (R168, R169). -/
theorem Journal.cursorAfter_eq (j : Journal) (n : Nat) : j.cursorAfter n =
    (((j.held.dropWhile fun g => g.number ≤ n).head?).filter Held.isExported).map Held.number := by
  unfold Journal.cursorAfter
  cases (j.held.dropWhile fun g => g.number ≤ n) with
  | nil => rfl
  | cons g rest => cases exported : g.isExported <;> simp [exported, Option.filter]

/-- Settles O30: the readiness, the flush from what remains, then the normal frame and the resend frame. -/
theorem exportFrameTakesRun : Obligations.ExportFrameTakesRun := by
  intro j lt run after whole
  refine ⟨j.exportReady_iff, fun _ => j.afterExport_flush lt, fun normal some_run => ?_, fun c resend => ?_⟩
  · have batch : j.exportBatch = (run, false) := Journal.exportBatch_of_normal normal
    have taken : j.exportBatch.1 = run := congrArg Prod.fst batch
    rw [Journal.afterExport_of_normal lt normal, Journal.exported_highestExported lt (taken ▸ some_run),
      Journal.exported_held, taken]
    refine ⟨batch, rfl, fun h mem => ⟨_, List.mem_map_of_mem mem, ?_, ?_, fun sent written => ?_, ?_⟩, ?_, ?_⟩
    · exact h.sentIn_number run
    · exact h.sentIn_slot run
    · rw [Held.sentIn_of_mem sent]
      exact Held.markExported_isExported written
    · exact Held.sentIn_of_not_mem
    · exact List.length_map _
    · exact j.exported_counter lt
  · rw [Journal.afterExport_of_resend lt resend]
    refine ⟨Journal.exportBatch_of_resend resend, j.resent_held lt, Journal.setFlush_highestExported ..,
      fun h last => ?_⟩
    rw [← Journal.cursorAfter_eq]
    simp [Journal.resent, lastNumber, last]

/-! ### Offered records -/

/-- A written record leaves the gap and the lost total alone (R158). -/
theorem Journal.admitRecord_gap_of_free (lt : Nat) (r : RecordBody) (j : Journal) (h : j.freeCount ≠ 0) :
    (j.admitRecord lt r).lostTotal = j.lostTotal ∧ (j.admitRecord lt r).gap = j.gap := by
  unfold Journal.admitRecord
  dsimp only
  rw [if_neg h]
  simp [Journal.store]

/-- Settles O35: a free slot takes the record, and without one its number is lost. -/
theorem offeredRecordIsWrittenOrLost : Obligations.OfferedRecordIsWrittenOrLost := by
  intro s r j t
  refine ⟨s.offer_eq r, s.offer_counter r, fun room => ?_, fun full => ?_⟩
  · have free : j.freeCount ≠ 0 := mt j.freeCount_eq_zero_iff.mp (Nat.not_le.mpr room)
    obtain ⟨below, unused, least⟩ := j.lowestFree_spec room
    obtain ⟨lostTotal, gap⟩ := j.admitRecord_gap_of_free s.lt r free
    exact ⟨j.lowestFree, j.admitRecord_held_of_free s.lt r free, below, unused, least, lostTotal, gap,
      s.offer_evidence_of_free r free⟩
  · have lost := j.freeCount_eq_zero_iff.mpr full
    refine ⟨j.admitRecord_of_full s.lt r lost, ?_⟩
    refine (if_pos lost).trans (congrArg s.evidence.apply ?_)
    cases r <;> rfl

/-! ### JOURNAL_RELEASE and JOURNAL_RESEND -/

/-- A release through `n` at LT, with the pending gap written where a slot was freed (R160, R166). -/
def Journal.released (n lt : Nat) (j : Journal) : Journal :=
  if j.freedCount n = 0 then j.releaseThrough n else (j.releaseThrough n).writeGap lt

theorem State.releaseRecords_eq (s : State) (n : Nat) :
    s.releaseRecords n = { s with journal := s.journal.released n s.lt } := rfl

/-- A release that frees nothing, or that finds no pending gap, takes the freed records out of the ring and does no more
(R160, R166). -/
theorem Journal.released_of_no_gap {j : Journal} {n : Nat} (lt : Nat) (h : j.gap = none ∨ j.freedCount n = 0) :
    j.released n lt = j.releaseThrough n := by
  unfold Journal.released
  split
  · rfl
  · next freed => exact Journal.writeGap_of_not lt (.inl (h.resolve_right freed))

/-- Once a release has freed a record of the ring a slot is free (R157, R166). -/
theorem Journal.freeCount_releaseThrough {j : Journal} {n : Nat} (fits : j.held.length ≤ 4096)
    (freed : 0 < j.freedCount n) : (j.releaseThrough n).freeCount ≠ 0 := by
  have parts : j.held.length = j.freedCount n + (j.releaseThrough n).held.length := by
    rw [Journal.freedCount, Journal.releaseThrough, ← List.countP_eq_length_filter]
    simpa using List.length_eq_countP_add_countP (Held.freedBy n) (l := j.held)
  rw [ne_eq, Journal.freeCount_eq_zero_iff]
  omega

/-- A release that frees a slot writes the pending gap, which takes the next number (R160). -/
theorem Journal.released_of_gap {j : Journal} {n : Nat} {g : Gap} (lt : Nat) (gap : j.gap = some g)
    (freed : 0 < j.freedCount n) (fits : j.held.length ≤ 4096) :
    (j.released n lt).gap = none ∧ (j.released n lt).counter = j.counter + 1 ∧
      ∃ slot, (j.released n lt).held = j.held.filter (fun h => !h.freedBy n) ++
        [⟨j.counter, slot, .written lt (.gapFull g.first g.count)⟩] := by
  have written : j.released n lt = (j.releaseThrough n).writeGap lt := if_neg freed.ne'
  obtain ⟨held, counter, cleared⟩ :=
    Journal.writeGap_of_gap (j := j.releaseThrough n) lt gap (Journal.freeCount_releaseThrough fits freed)
  rw [written]
  exact ⟨cleared, counter, _, held⟩

/-- Neither a release nor the gap it may write changes the highest exported number or the lost total (R159, R166). -/
theorem Journal.released_keeps (n lt : Nat) (j : Journal) :
    (j.released n lt).highestExported = j.highestExported ∧ (j.released n lt).lostTotal = j.lostTotal := by
  unfold Journal.released Journal.writeGap
  split
  · exact ⟨rfl, rfl⟩
  · split
    · exact ⟨rfl, rfl⟩
    · dsimp only
      split
      · exact ⟨rfl, rfl⟩
      · exact ⟨Journal.syncFlush_highestExported .., Journal.syncFlush_lostTotal ..⟩

/-- What a served JOURNAL_RELEASE comes to: nothing was exported, or it is limited to the highest exported (R166). -/
theorem serveJournalRelease_cases (l : LaneId) (p : Bytes) (s : State) :
    (s.journal.highestExported = none →
      serveJournalRelease l p s = (s, .completed .okClamped (fill 9 ++ uField 4 0))) ∧
    (∀ top, s.journal.highestExported = some top → serveJournalRelease l p s =
      ({ s with journal := s.journal.released (min (field p 3 8) top) s.lt },
        .completed (if field p 3 8 ≤ top then .ok else .okClamped)
          ((1 :: uField 8 (min (field p 3 8) top)) ++ uField 4 (s.journal.freedCount (min (field p 3 8) top))))) := by
  unfold serveJournalRelease
  exact ⟨fun unset => by rw [unset]; rfl, fun top set => by rw [set]; rfl⟩

/-- What a served JOURNAL_RESEND comes to: the cursor is set on an EXPORTED record (R168, R169). -/
theorem serveJournalResend_cases (l : LaneId) (p : Bytes) (s : State) :
    let n := field p 3 8
    ((∃ h ∈ s.journal.held, h.number = n ∧ h.isExported = true) → serveJournalResend l p s =
      okWith (uField 4 (s.journal.exportedFrom n)) { s with journal := { s.journal with resend := some n } }) ∧
    ((∀ h ∈ s.journal.held, h.number = n → h.isExported = false) →
      serveJournalResend l p s = refuseWith .badIndex s) := by
  intro n
  have holds : s.journal.holdsExported n = true ↔ ∃ h ∈ s.journal.held, h.number = n ∧ h.isExported = true := by
    simp [Journal.holdsExported]
  refine ⟨fun held => if_pos (holds.mpr held), fun absent => if_neg fun held => ?_⟩
  obtain ⟨h, mem, number, exported⟩ := holds.mp held
  exact absurd exported (by simp [absent h mem number])

/-- Settles O49: the release by what it frees and by the pending gap, then the resend by what the ring holds. -/
theorem journalReleaseAndResend : Obligations.JournalReleaseAndResend := by
  intro s l p q j n freed
  obtain ⟨unexported, limited⟩ := serveJournalRelease_cases l p q
  obtain ⟨listed, unlisted⟩ := serveJournalResend_cases l p q
  refine ⟨fun h => ⟨fun unset => exec_of_serves rfl h (unexported unset), fun top set => ?_⟩,
    fun h => ⟨fun ⟨r, mem, number, exported⟩ => exec_of_serves rfl h (listed ⟨r, mem, number, exported⟩),
      fun absent => exec_of_serves rfl h (unlisted absent)⟩⟩
  intro m
  obtain ⟨highest, lost⟩ := j.released_keeps m s.lt
  refine ⟨{ q with journal := j.released m s.lt }, exec_of_serves rfl h (limited top set), fun quiet => ?_,
    fun g gap some_freed fits => Journal.released_of_gap s.lt gap some_freed fits, highest, lost, rfl⟩
  rw [Journal.released_of_no_gap s.lt quiet]
  exact ⟨rfl, rfl⟩

end Sys2Proof.Machine
end

section
/-! PROOFS. Evidence events (R171 to R177) and the requests on the Evidence Unit's values (R181, R182). -/

namespace Sys2Proof.Machine

/-! ### Filters (R174) -/

/-- A lane filter passes an event with ANY, or with a set that has the event's lane (R174). -/
theorem passesLane_iff (filter : Option LaneSet) (lane : Option LaneId) :
    passesLane filter lane = true ↔
      filter = none ∨ ∃ set l, filter = some set ∧ lane = some l ∧ set.has l = true := by
  cases filter with
  | none => simp [passesLane]
  | some set => cases lane <;> simp [passesLane]

/-- A class or book filter passes an event with ANY, or with the event's own value (R174). -/
theorem passesField_iff {α : Type} [DecidableEq α] (filter value : Option α) :
    passesField filter value = true ↔ filter = none ∨ filter = value := by
  cases filter with
  | none => simp [passesField]
  | some x => cases value <;> simp [passesField]

/-! ### Counters and monitors under an event (R174 to R177) -/

/-- What a counter's setting asks of an event: its kind and its three filters (R174). -/
def Counter.Meets (c : Counter) (e : EvidenceEvent) : Prop :=
  c.kind = e.kind ∧ (c.lanes = none ∨ ∃ set l, c.lanes = some set ∧ e.lane = some l ∧ set.has l = true) ∧
    (c.cls = none ∨ c.cls = e.cls) ∧ (c.book = none ∨ c.book = e.book)

theorem Counter.selects_iff (c : Counter) (e : EvidenceEvent) : c.selects e = true ↔ c.Meets e := by
  simp only [Counter.selects, Bool.and_eq_true, beq_iff_eq, passesLane_iff, passesField_iff, Counter.Meets, and_assoc]

theorem Counter.take_of_meets {c : Counter} {e : EvidenceEvent} (h : c.Meets e) :
    c.take e = { c with value := min (c.value + 1) (2 ^ 48 - 1) } :=
  if_pos ((c.selects_iff e).mpr h)

theorem Counter.take_of_not_meets {c : Counter} {e : EvidenceEvent} (h : ¬ c.Meets e) : c.take e = c :=
  if_neg (mt (c.selects_iff e).mp h)

/-- What a residence monitor's setting asks of an event: a released frame that meets its two filters (R177). -/
def ResidenceMonitor.Meets (m : ResidenceMonitor) (e : EvidenceEvent) : Prop :=
  e.kind = .frameReleased ∧ (m.lanes = none ∨ ∃ set l, m.lanes = some set ∧ e.lane = some l ∧ set.has l = true) ∧
    (m.cls = none ∨ m.cls = e.cls)

theorem ResidenceMonitor.measures_iff (m : ResidenceMonitor) (e : EvidenceEvent) :
    (e.kind == .frameReleased && passesLane m.lanes e.lane && passesField m.cls e.cls) = true ↔ m.Meets e := by
  simp only [Bool.and_eq_true, beq_iff_eq, passesLane_iff, passesField_iff, ResidenceMonitor.Meets, and_assoc]

/-- A measured residence moves the count, the sum and the maximum, each held at its limit (R177). -/
theorem ResidenceMonitor.take_of_meets {m : ResidenceMonitor} {e : EvidenceEvent} {r : Nat}
    (residence : e.residence = some r) (h : m.Meets e) :
    m.take e = { m with values :=
      ⟨min (m.values.count + 1) (2 ^ 48 - 1), min (m.values.sum + r) (2 ^ 64 - 1),
        min (max m.values.maximum r) (2 ^ 32 - 1)⟩ } := by
  unfold ResidenceMonitor.take
  rw [residence]
  exact if_pos ((m.measures_iff e).mpr h)

/-- Without a residence, or past an event its setting does not meet, a monitor stays (R177). -/
theorem ResidenceMonitor.take_of_not_measured {m : ResidenceMonitor} {e : EvidenceEvent}
    (h : e.residence = none ∨ ¬ m.Meets e) : m.take e = m := by
  unfold ResidenceMonitor.take
  cases residence : e.residence with
  | none => rfl
  | some r =>
    have unmet : ¬ m.Meets e := h.resolve_left (by simp [residence])
    exact if_neg (mt (m.measures_iff e).mp unmet)

/-! ### The Evidence Unit as a whole (R171, R182) -/

@[simp] theorem getElem_mapVector {α : Type} {n i : Nat} (f : α → α) (v : Vector α n) (h : i < n) :
    (mapVector f v)[i] = f v[i] := by
  simp [mapVector]

/-- Each counter judges a raised event by itself (R171, R175). -/
theorem State.raise_counter (s : State) (e : EvidenceEvent) (i : Fin 8) :
    (s.raise e).evidence.counters[i.val] = s.evidence.counters[i.val].take e := getElem_mapVector _ _ i.isLt

/-- Each monitor judges a raised event by itself (R171, R177). -/
theorem State.raise_residenceMonitor (s : State) (e : EvidenceEvent) (m : Fin 2) :
    (s.raise e).evidence.monitors[m.val] = s.evidence.monitors[m.val].take e := getElem_mapVector _ _ m.isLt

/-- A clear takes each counter's value to 0 and keeps its setting (R182). -/
theorem Evidence.cleared_counter (u : Evidence) (i : Fin 8) :
    u.cleared.counters[i.val] = { u.counters[i.val] with value := 0 } := getElem_mapVector _ _ i.isLt

/-- A clear takes each monitor's values to 0 and keeps its setting (R182). -/
theorem Evidence.cleared_monitor (u : Evidence) (m : Fin 2) :
    u.cleared.monitors[m.val] = { u.monitors[m.val] with values := ⟨0, 0, 0⟩ } := getElem_mapVector _ _ m.isLt

/-- The values as bytes: each counter's value, then each monitor's count, sum and maximum (R180, R181). -/
theorem Evidence.valuesOf_bytes (u : Evidence) :
    u.valuesOf.bytes = (u.counters.toList.flatMap fun c => uField 6 c.value) ++
      u.monitors.toList.flatMap fun m =>
        uField 6 m.values.count ++ uField 8 m.values.sum ++ uField 4 m.values.maximum := by
  simp only [EvidenceValues.bytes, Evidence.valuesOf, List.flatMap_map]

/-- Settles O36: each counter and each monitor by whether the event meets its setting; the rest of the state stays. -/
theorem evidenceEventIsCounted : Obligations.EvidenceEventIsCounted := by
  intro s e i m
  refine ⟨fun met => ?_, fun unmet => ?_, fun r residence met => ?_, fun unmeasured => ?_, rfl⟩
  · exact (s.raise_counter e i).trans (Counter.take_of_meets met)
  · exact (s.raise_counter e i).trans (Counter.take_of_not_meets unmet)
  · exact (s.raise_residenceMonitor e m).trans (ResidenceMonitor.take_of_meets residence met)
  · exact (s.raise_residenceMonitor e m).trans (ResidenceMonitor.take_of_not_measured unmeasured)

/-- Settles O50: a read answers with the bytes of the values and gives back the state it got. -/
theorem counterReadReturnsValues : Obligations.CounterReadReturnsValues := by
  intro s l p h
  rw [← s.evidence.valuesOf_bytes]
  exact exec_of_serves rfl h rfl

/-- Settles O51: the Evidence Unit after the clear is `Evidence.cleared`. -/
theorem counterClearZeroesValues : Obligations.CounterClearZeroesValues := by
  intro s l p h
  exact ⟨s.evidence.cleared, exec_of_serves rfl h rfl, s.evidence.cleared_counter, s.evidence.cleared_monitor,
    rfl, rfl⟩

end Sys2Proof.Machine
end

section
/-! PROOFS. What the Control Handler and the queues it serves hold, and the shared operations that leave it alone
(R184 to R187). -/

namespace Sys2Proof.Machine

/-- Each lane's requests and how many replies it holds, the pointer, and the commands waiting (R184 to R186). -/
def State.handlerPart (s : State) : (LaneId → List Bytes × Nat) × LaneId × List Instr :=
  (fun l => ((s.lane l).requests, (s.lane l).replies.length), s.pointer, s.pending)

theorem State.handlerPart_ext {s t : State} (h : s.handlerPart = t.handlerPart) :
    (∀ l, (s.lane l).requests = (t.lane l).requests ∧ (s.lane l).replies.length = (t.lane l).replies.length) ∧
      s.pointer = t.pointer ∧ s.pending = t.pending := by
  simp only [State.handlerPart, Prod.mk.injEq] at h
  obtain ⟨queues, rest⟩ := h
  exact ⟨fun l => Prod.mk.inj (congrFun queues l), rest⟩

/-- An operation of the lanes leaves the handler alone where it leaves the queues of each lane (R184, R185). -/
theorem State.handlerPart_of_queues {s t : State} (fixed : t.fixedPart = s.fixedPart)
    (queues : ∀ l, (t.lane l).requests = (s.lane l).requests ∧
      (t.lane l).replies.length = (s.lane l).replies.length) : t.handlerPart = s.handlerPart := by
  obtain ⟨-, -, -, -, -, -, -, -, -, pointer, pending⟩ := State.fixedPart_ext fixed
  simp only [State.handlerPart, queues, pointer, pending]

theorem State.handlerPart_of_lanes {s t : State} (fixed : t.fixedPart = s.fixedPart) (lanes : t.lanes = s.lanes) :
    t.handlerPart = s.handlerPart :=
  State.handlerPart_of_queues fixed fun l => by simp [State.lane, lanes]

/-- Placed triggers touch no queue of the handler (R139 to R141). -/
theorem State.PlacedIn.handlerPart {s t : State} (h : s.PlacedIn t) (fixed : t.fixedPart = s.fixedPart) :
    t.handlerPart = s.handlerPart :=
  State.handlerPart_of_queues fixed fun l => by
    obtain ⟨-, rest⟩ := h l
    rw [rest]
    exact ⟨rfl, rfl⟩

/-! ### Records and monitors -/

@[simp] theorem State.handlerPart_setMonitor (s : State) (r : RefLine) (m : Monitor) :
    (s.setMonitor r m).handlerPart = s.handlerPart := by cases r <;> rfl
@[simp] theorem State.handlerPart_offer (s : State) (r : RecordBody) : (s.offer r).handlerPart = s.handlerPart := rfl

@[simp] theorem State.handlerPart_voidReservation (s : State) (l : LaneId) :
    (s.voidReservation l).handlerPart = s.handlerPart :=
  State.handlerPart_of_lanes (s.fixedPart_voidReservation l) (s.voidReservation_lanes l)

/-! ### Lanes -/

/-- A lane may change in all but its queues. -/
@[simp] theorem State.handlerPart_setLane (s : State) (l : LaneId) (u : LaneUnit)
    (requests : u.requests = (s.lane l).requests) (replies : u.replies = (s.lane l).replies) :
    (s.setLane l u).handlerPart = s.handlerPart := by
  refine State.handlerPart_of_queues rfl fun k => ?_
  rw [State.lane_setLane]
  split
  · next same => rw [same, requests, replies]; exact ⟨rfl, rfl⟩
  · exact ⟨rfl, rfl⟩

/-- A deferred reply is completed in its place (R185, R194). -/
@[simp] theorem State.handlerPart_completeReply (s : State) (l : LaneId) (c : LaneCommand) (st : Status) (b : Bytes) :
    (s.completeReply l c st b).handlerPart = s.handlerPart :=
  State.handlerPart_of_queues rfl fun k => by simp

@[simp] theorem State.handlerPart_judgeWaits (s : State) (l : LaneId) :
    (s.judgeWaits l).handlerPart = s.handlerPart := (s.judgeWaits_placed l).handlerPart (s.fixedPart_judgeWaits l)

@[simp] theorem State.handlerPart_placementTest (s : State) (l : LaneId) :
    (s.placementTest l).handlerPart = s.handlerPart :=
  (s.placementTest_placed l).handlerPart (s.fixedPart_placementTest l)

@[simp] theorem State.handlerPart_install (s : State) (l : LaneId) (c u : Nat) (r : Option Nat) :
    (s.install l c u r).handlerPart = s.handlerPart :=
  (State.handlerPart_placementTest ..).trans (State.handlerPart_setLane _ _ _ rfl rfl)

@[simp] theorem State.handlerPart_installPending (s : State) (l : LaneId) :
    (s.installPending l).handlerPart = s.handlerPart := by
  unfold State.installPending
  dsimp only
  split <;> simp

@[simp] theorem State.handlerPart_probeFail (s : State) (l : LaneId) :
    (s.probeFail l).handlerPart = s.handlerPart := by simp [State.probeFail]

@[simp] theorem State.handlerPart_failProbe (s : State) (l : LaneId) :
    (s.failProbe l).handlerPart = s.handlerPart := by
  unfold State.failProbe
  split
  · rfl
  all_goals exact s.handlerPart_probeFail l

@[simp] theorem State.handlerPart_abandonReception (s : State) (l : LaneId) :
    (s.abandonReception l).handlerPart = s.handlerPart := by
  unfold State.abandonReception State.afterReception State.endReception State.countLane
  split
  · rfl
  · simp

/-- The datapath reset leaves every request queue, and how many replies each lane holds (R74, R184, R185). -/
@[simp] theorem State.handlerPart_flushLane (s : State) (l : LaneId) :
    (s.flushLane l).handlerPart = s.handlerPart := by
  unfold State.flushLane State.endDrainByReset State.supersedeDrain State.zeroCredits State.emptyLane
  split <;> simp

@[simp] theorem handlerPart_flushLanes (ls : List LaneId) (s : State) :
    (flushLanes ls s).1.handlerPart = s.handlerPart := by
  induction ls generalizing s with
  | nil => rfl
  | cons l ls ih => rw [flushLanes, ih, State.handlerPart_flushLane]

/-! ### The time path -/

@[simp] theorem State.handlerPart_judgeGrade (s : State) : s.judgeGrade.handlerPart = s.handlerPart := by
  unfold State.judgeGrade
  split <;> rfl

@[simp] theorem State.handlerPart_switchReference (s : State) : s.switchReference.handlerPart = s.handlerPart := by
  rw [s.switchReference_eq.1]
  rfl

@[simp] theorem State.handlerPart_lossOfSelected (s : State) : s.lossOfSelected.handlerPart = s.handlerPart := by
  rw [s.lossOfSelected_eq]
  rfl

end Sys2Proof.Machine
end

section
/-! PROOFS. The judgement of every request leaves the handler alone: what a request changes of it is the taking's
(R187). -/

namespace Sys2Proof.Machine

/-! ### Table requests -/

theorem serveMatch_handlerPart (l : LaneId) (p : Bytes) (s : State) :
    (serveMatch l p s).1.handlerPart = s.handlerPart := by
  unfold serveMatch
  split
  · rfl
  · split
    · rfl
    · dsimp only
      split
      · rfl
      · split <;> rfl

theorem serveClass_handlerPart (l : LaneId) (p : Bytes) (s : State) :
    (serveClass l p s).1.handlerPart = s.handlerPart := by
  unfold serveClass
  split
  · rfl
  · split
    · rfl
    · split <;> rfl

theorem serveLaneWrite_handlerPart (l : LaneId) (p : Bytes) (s : State) :
    (serveLaneWrite l p s).1.handlerPart = s.handlerPart := by
  unfold serveLaneWrite
  split
  · rfl
  · dsimp only
    split
    · rfl
    split
    · rfl
    split
    · rfl
    split
    · rfl
    · exact (State.handlerPart_installPending _ _).trans (State.handlerPart_setLane s _ _ rfl rfl)

/-- A STAMPING write leaves the handler alone where the judgement behind its first tests does. -/
theorem stampingTests_handlerPart {known : Bool} {judge : State → Answer} {p : Bytes} {s : State}
    (h : (judge s).1.handlerPart = s.handlerPart) : (stampingTests known judge p s).1.handlerPart = s.handlerPart := by
  unfold stampingTests
  split
  · rfl
  · split
    · rfl
    · split
      · rfl
      · exact h

theorem stampingRange_handlerPart (low high v : Nat) (w : Stamping) {after : State → State}
    (h : ∀ t : State, (after t).handlerPart = t.handlerPart) (s : State) :
    (stampingRange low high v w after s).1.handlerPart = s.handlerPart := by
  unfold stampingRange
  split
  · exact h _
  · rfl

theorem serveH_handlerPart (l : LaneId) (p : Bytes) (s : State) : (serveH l p s).1.handlerPart = s.handlerPart :=
  stampingTests_handlerPart (stampingRange_handlerPart _ _ _ _ State.handlerPart_judgeGrade s)

theorem serveL_handlerPart (l : LaneId) (p : Bytes) (s : State) : (serveL l p s).1.handlerPart = s.handlerPart :=
  stampingTests_handlerPart (stampingRange_handlerPart _ _ _ _ State.handlerPart_judgeGrade s)

theorem serveDayOrigin_handlerPart (l : LaneId) (p : Bytes) (s : State) :
    (serveDayOrigin l p s).1.handlerPart = s.handlerPart :=
  stampingTests_handlerPart (stampingRange_handlerPart _ _ _ _ (fun _ => rfl) s)

theorem serveEntryFrameType_handlerPart (l : LaneId) (p : Bytes) (s : State) :
    (serveEntryFrameType l p s).1.handlerPart = s.handlerPart := by
  refine stampingTests_handlerPart ?_
  dsimp only
  split
  · rfl
  · exact stampingRange_handlerPart _ _ _ _ (fun _ => rfl) s

theorem serveQ_handlerPart (l : LaneId) (p : Bytes) (s : State) : (serveQ l p s).1.handlerPart = s.handlerPart :=
  stampingTests_handlerPart (stampingRange_handlerPart _ _ _ _ (fun _ => rfl) s)

theorem serveClockSetting_handlerPart (l : LaneId) (p : Bytes) (s : State) :
    (serveClockSetting l p s).1.handlerPart = s.handlerPart := by
  unfold serveClockSetting
  split
  · rfl
  · split <;> rfl

theorem serveAutoSwitch_handlerPart (l : LaneId) (p : Bytes) (s : State) :
    (serveAutoSwitch l p s).1.handlerPart = s.handlerPart := by
  unfold serveAutoSwitch
  split
  · rfl
  · split <;> rfl

theorem State.afterEnable_handlerPart (s : State) (ref : RefLine) (on changed : Bool) :
    (s.afterEnable ref on changed).handlerPart = s.handlerPart := by
  unfold State.afterEnable
  split
  · rfl
  · split
    · rfl
    · dsimp only
      split
      · exact State.handlerPart_lossOfSelected _
      · rfl

theorem serveReferenceEnable_handlerPart (l : LaneId) (p : Bytes) (s : State) :
    (serveReferenceEnable l p s).1.handlerPart = s.handlerPart := by
  unfold serveReferenceEnable
  split
  · rfl
  · split
    · rfl
    · exact (State.afterEnable_handlerPart _ _ _ _).trans (s.handlerPart_setMonitor _ _)

theorem serveExportLane_handlerPart (l : LaneId) (p : Bytes) (s : State) :
    (serveExportLane l p s).1.handlerPart = s.handlerPart := by
  unfold serveExportLane
  split
  · rfl
  · split
    · rfl
    · split <;> rfl

theorem serveFlushInterval_handlerPart (l : LaneId) (p : Bytes) (s : State) :
    (serveFlushInterval l p s).1.handlerPart = s.handlerPart := by
  unfold serveFlushInterval
  dsimp only
  split
  · rfl
  · split <;> rfl

theorem serveCounter_handlerPart (l : LaneId) (p : Bytes) (s : State) :
    (serveCounter l p s).1.handlerPart = s.handlerPart := by
  unfold serveCounter
  split
  · rfl
  · split <;> rfl

theorem serveSnapshotPeriod_handlerPart (l : LaneId) (p : Bytes) (s : State) :
    (serveSnapshotPeriod l p s).1.handlerPart = s.handlerPart := by
  unfold serveSnapshotPeriod
  split <;> rfl

theorem serveTableRead_handlerPart (l : LaneId) (p : Bytes) (s : State) :
    (serveTableRead l p s).1.handlerPart = s.handlerPart := by rw [serveTableRead_state]

/-! ### Book requests -/

theorem State.judgeArm_handlerPart (s : State) (b : BookId) (p : Bytes) :
    (s.judgeArm b p).1.handlerPart = s.handlerPart := by
  unfold State.judgeArm
  dsimp only
  split
  · rfl
  · split
    · rfl
    · split
      · rfl
      · split <;> rfl

theorem serveBookArm_handlerPart (l : LaneId) (p : Bytes) (s : State) :
    (serveBookArm l p s).1.handlerPart = s.handlerPart := by
  unfold serveBookArm
  split
  · rfl
  · split
    case h_6 | h_7 => exact s.judgeArm_handlerPart _ _
    all_goals rfl

theorem serveBookDisarm_handlerPart (l : LaneId) (p : Bytes) (s : State) :
    (serveBookDisarm l p s).1.handlerPart = s.handlerPart := by
  unfold serveBookDisarm
  split
  · rfl
  · split
    case h_2 => split <;> rfl
    all_goals rfl

theorem serveBookExtend_handlerPart (l : LaneId) (p : Bytes) (s : State) :
    (serveBookExtend l p s).1.handlerPart = s.handlerPart := by
  unfold serveBookExtend
  split
  · rfl
  · split
    · rfl
    · unfold State.judgeExtend
      split <;> rfl

/-! ### Clock commands -/

theorem State.commandAcquire_handlerPart (s : State) : s.commandAcquire.handlerPart = s.handlerPart := by
  have entered : s.enterAcquire.handlerPart = s.handlerPart := by
    unfold State.enterAcquire
    dsimp only
    split
    · exact s.handlerPart_switchReference
    · rfl
  unfold State.commandAcquire
  split
  · exact entered
  · exact entered
  · rfl
  · rfl

theorem serveAcquire_handlerPart (l : LaneId) (p : Bytes) (s : State) :
    (serveAcquire l p s).1.handlerPart = s.handlerPart := by
  unfold serveAcquire
  split
  · rfl
  · exact s.commandAcquire_handlerPart

theorem serveRelease_handlerPart (l : LaneId) (p : Bytes) (s : State) :
    (serveRelease l p s).1.handlerPart = s.handlerPart := by
  have freed : s.enterFree.handlerPart = s.handlerPart := State.handlerPart_judgeGrade _
  unfold serveRelease
  split
  · rfl
  all_goals exact freed

theorem State.select_handlerPart (s : State) (ref : RefLine) : (s.select ref).handlerPart = s.handlerPart := by
  unfold State.select
  split
  · rfl
  · dsimp only
    split <;> rfl

theorem State.clearMissingOf_handlerPart (s : State) (ref : RefLine) :
    (s.clearMissingOf ref).handlerPart = s.handlerPart := by
  unfold State.clearMissingOf
  dsimp only
  split <;> exact s.handlerPart_setMonitor _ _

/-! ### Lane commands -/

/-- A lane command leaves the handler alone where the lane that takes it does. -/
theorem onCommandedLane_handlerPart {code : Nat} {p : Bytes} {s : State} {take : LaneId → Answer}
    (h : ∀ k, (take k).1.handlerPart = s.handlerPart) :
    (onCommandedLane code p s take).1.handlerPart = s.handlerPart := by
  unfold onCommandedLane
  split
  · rfl
  · split
    · rfl
    · exact h _

theorem State.enterState_handlerPart (s : State) (l : LaneId) (st : LaneState) (e : LaneEvent) :
    (s.enterState l st e).handlerPart = s.handlerPart := s.handlerPart_setLane l _ rfl rfl

/-- A superseded DRAIN reply is completed in its place, not taken from it (R43, R185). -/
theorem State.supersedeDrain_handlerPart (s : State) (l : LaneId) :
    (s.supersedeDrain l).handlerPart = s.handlerPart := s.handlerPart_completeReply ..

theorem serveEnable_handlerPart (l : LaneId) (p : Bytes) (s : State) :
    (serveEnable l p s).1.handlerPart = s.handlerPart := by
  refine onCommandedLane_handlerPart fun k => ?_
  split
  · exact s.enterState_handlerPart _ _ _
  · rfl
  · exact (State.supersedeDrain_handlerPart _ _).trans (s.enterState_handlerPart _ _ _)
  · rfl

theorem serveDrain_handlerPart (l : LaneId) (p : Bytes) (s : State) :
    (serveDrain l p s).1.handlerPart = s.handlerPart := by
  refine onCommandedLane_handlerPart fun k => ?_
  split
  · rfl
  · unfold State.startDrain
    split <;> exact s.enterState_handlerPart _ _ _
  · rfl
  · rfl

theorem serveDisable_handlerPart (l : LaneId) (p : Bytes) (s : State) :
    (serveDisable l p s).1.handlerPart = s.handlerPart := by
  refine onCommandedLane_handlerPart fun k => ?_
  split
  · rfl
  · exact s.enterState_handlerPart _ _ _
  · exact (State.supersedeDrain_handlerPart _ _).trans (s.enterState_handlerPart _ _ _)
  · rfl

theorem State.startProbing_handlerPart (s : State) (l : LaneId) (ret : ReturnState) :
    (s.startProbing l ret).1.handlerPart = s.handlerPart := by
  have entered : (s.enterProbing l ret).handlerPart = s.handlerPart := s.handlerPart_setLane l _ rfl rfl
  unfold State.startProbing
  split
  · rfl
  · split
    · exact entered
    · exact (State.handlerPart_probeFail _ _).trans entered

theorem serveProbe_handlerPart (l : LaneId) (p : Bytes) (s : State) :
    (serveProbe l p s).1.handlerPart = s.handlerPart := by
  refine onCommandedLane_handlerPart fun k => ?_
  split
  · exact s.startProbing_handlerPart _ _
  · exact s.startProbing_handlerPart _ _
  · rfl
  · rfl

/-! ### Journal requests and the datapath reset -/

theorem serveJournalRelease_handlerPart (l : LaneId) (p : Bytes) (s : State) :
    (serveJournalRelease l p s).1.handlerPart = s.handlerPart := by
  unfold serveJournalRelease
  dsimp only
  split <;> rfl

theorem serveJournalResend_handlerPart (l : LaneId) (p : Bytes) (s : State) :
    (serveJournalResend l p s).1.handlerPart = s.handlerPart := by
  unfold serveJournalResend
  dsimp only
  split <;> rfl

theorem serveDatapathReset_handlerPart (l : LaneId) (p : Bytes) (s : State) :
    (serveDatapathReset l p s).1.handlerPart = s.handlerPart := by
  unfold serveDatapathReset
  split
  · rfl
  · exact handlerPart_flushLanes _ _

end Sys2Proof.Machine
end

section
/-! PROOFS. The rows a request can belong to, and the taking of any request by the command of its row (R186, R187). -/

namespace Sys2Proof.Machine

/-! ### The commands that take requests -/

/-- The command takes the next request of its row, judged by `serve`, which leaves the handler to the taking (R187). -/
structure TakenBy (row : Instr) (serve : LaneId → Bytes → State → Answer) : Prop where
  exec_eq : ∀ s, exec row s = .next (s.takeRequest row serve)
  handlerPart : ∀ l p s, (serve l p s).1.handlerPart = s.handlerPart

/-- The command is one that takes requests. -/
def TakesRequests (row : Instr) : Prop := ∃ serve, TakenBy row serve

theorem TakesRequests.ite {c : Prop} [Decidable c] {a b : Instr} (ha : TakesRequests a) (hb : TakesRequests b) :
    TakesRequests (if c then a else b) := by
  split
  · exact ha
  · exact hb

/-- Every TABLE_WRITE is taken by a command, whatever its table and setting codes (R189, log 4). -/
theorem writeRow_takesRequests (p : Bytes) : TakesRequests (writeRow p) := by
  unfold writeRow
  split
  · exact ⟨serveMatch, fun _ => rfl, serveMatch_handlerPart⟩
  · exact ⟨serveClass, fun _ => rfl, serveClass_handlerPart⟩
  · exact ⟨serveLaneWrite, fun _ => rfl, serveLaneWrite_handlerPart⟩
  · split
    · exact ⟨serveDayOrigin, fun _ => rfl, serveDayOrigin_handlerPart⟩
    · exact ⟨serveL, fun _ => rfl, serveL_handlerPart⟩
    · exact ⟨serveQ, fun _ => rfl, serveQ_handlerPart⟩
    · exact ⟨serveEntryFrameType, fun _ => rfl, serveEntryFrameType_handlerPart⟩
    · exact ⟨serveH, fun _ => rfl, serveH_handlerPart⟩
  · split
    · exact ⟨serveAutoSwitch, fun _ => rfl, serveAutoSwitch_handlerPart⟩
    · exact ⟨serveReferenceEnable, fun _ => rfl, serveReferenceEnable_handlerPart⟩
    · exact ⟨serveReferenceEnable, fun _ => rfl, serveReferenceEnable_handlerPart⟩
    · exact ⟨serveClockSetting, fun _ => rfl, serveClockSetting_handlerPart⟩
  · split
    · exact ⟨serveFlushInterval, fun _ => rfl, serveFlushInterval_handlerPart⟩
    · exact ⟨serveExportLane, fun _ => rfl, serveExportLane_handlerPart⟩
  · split
    · exact ⟨serveSnapshotPeriod, fun _ => rfl, serveSnapshotPeriod_handlerPart⟩
    · exact ⟨serveCounter, fun _ => rfl, serveCounter_handlerPart⟩
  · exact ⟨serveMatch, fun _ => rfl, serveMatch_handlerPart⟩

theorem clockCommandRow_takesRequests (p : Bytes) : TakesRequests (clockCommandRow p) := by
  unfold clockCommandRow
  split
  · exact ⟨serveRelease, fun _ => rfl, serveRelease_handlerPart⟩
  · exact ⟨_, fun _ => rfl, fun _ _ t => t.select_handlerPart .a⟩
  · exact ⟨_, fun _ => rfl, fun _ _ t => t.select_handlerPart .b⟩
  · exact ⟨_, fun _ => rfl, fun _ _ t =>
      (State.clearMissingOf_handlerPart _ .b).trans (t.clearMissingOf_handlerPart .a)⟩
  · exact ⟨serveAcquire, fun _ => rfl, serveAcquire_handlerPart⟩

theorem laneCommandRow_takesRequests (p : Bytes) : TakesRequests (laneCommandRow p) := by
  unfold laneCommandRow
  split
  · exact ⟨serveDrain, fun _ => rfl, serveDrain_handlerPart⟩
  · exact ⟨serveDisable, fun _ => rfl, serveDisable_handlerPart⟩
  · exact ⟨serveProbe, fun _ => rfl, serveProbe_handlerPart⟩
  · exact ⟨serveEnable, fun _ => rfl, serveEnable_handlerPart⟩

/-- The row of every request, of an unknown kind too, is a command that takes it (R187, R204). -/
theorem requestRow_takesRequests (p : Bytes) : TakesRequests (requestRow p) := by
  have counterRead : TakesRequests .counterRead := ⟨_, fun _ => rfl, fun _ _ _ => rfl⟩
  have counterClear : TakesRequests .counterClear := ⟨_, fun _ => rfl, fun _ _ _ => rfl⟩
  have statusRead : TakesRequests .statusRead := ⟨_, fun _ => rfl, fun _ _ _ => rfl⟩
  have unknown : TakesRequests .unknownRequest := ⟨_, fun _ => rfl, fun _ _ _ => rfl⟩
  unfold requestRow
  exact .ite (writeRow_takesRequests p) <|
    .ite ⟨serveTableRead, fun _ => rfl, serveTableRead_handlerPart⟩ <|
    .ite ⟨serveBookArm, fun _ => rfl, serveBookArm_handlerPart⟩ <|
    .ite ⟨serveBookDisarm, fun _ => rfl, serveBookDisarm_handlerPart⟩ <|
    .ite ⟨serveBookExtend, fun _ => rfl, serveBookExtend_handlerPart⟩ <|
    .ite ⟨serveBookSeed, fun _ => rfl, fun _ _ _ => rfl⟩ <|
    .ite (clockCommandRow_takesRequests p) <|
    .ite (laneCommandRow_takesRequests p) <|
    .ite ⟨serveJournalRelease, fun _ => rfl, serveJournalRelease_handlerPart⟩ <|
    .ite ⟨serveJournalResend, fun _ => rfl, serveJournalResend_handlerPart⟩ <|
    .ite counterRead <| .ite counterClear <| .ite statusRead <|
    .ite ⟨serveDatapathReset, fun _ => rfl, serveDatapathReset_handlerPart⟩ unknown

/-! ### One reply -/

/-- The lanes once the reply is placed: it is the last of the requesting lane's, and nothing else differs (R187). -/
theorem State.replied_lane (t : State) (l k : LaneId) (p : Bytes) (body : ReplyBody) :
    (t.replied l p body).lane k =
      if k = l then { t.lane l with replies := (t.lane l).replies ++ [⟨field p 1 2, field p 0 1, body⟩] }
      else t.lane k := State.lane_setLane ..

/-- Settles O38: the judgement leaves the queues to the taking, which takes the request and places the reply. -/
theorem everyTakenRequestGetsOneReply : Obligations.EveryTakenRequestGetsOneReply := by
  intro s row l p h
  obtain ⟨serve, taken⟩ := requestRow_takesRequests p
  have isRow : requestRow p = row := h.2.1
  rw [isRow] at taken
  have kept := taken.handlerPart l p (s.popRequest l)
  rcases answered : serve l p (s.popRequest l) with ⟨t, body⟩
  rw [answered] at kept
  obtain ⟨queues, pointer, pending⟩ := State.handlerPart_ext kept
  have requesting := (t.replied_lane l l p body).trans (if_pos rfl)
  obtain ⟨requests, replies⟩ := queues l
  rw [State.popRequest_lane, if_pos rfl] at requests replies
  refine ⟨t.replied l p body, body, exec_of_serves (taken.exec_eq s) h answered, ?_, ?_, ?_, pointer,
    fun k other => ?_, pending⟩
  · rw [requesting, List.getLast?_concat]
  · rw [requesting, List.length_append, replies, List.length_singleton]
  · rw [requesting, requests]
  · rw [State.replied_lane, if_neg other]
    simpa only [State.popRequest_lane, if_neg other] using queues k

/-! ### Which request is next -/

/-- A queue head is servable where there is one and its reply has a place (R186). -/
theorem LaneUnit.servable_iff (u : LaneUnit) : u.servable = true ↔ u.requests ≠ [] ∧ u.replies.length < 8 := by
  rw [LaneUnit.servable, Bool.and_eq_true, decide_eq_true_eq]
  exact and_congr_left' (by simp)

/-- The lanes are looked at from the pointer on, four of them, in ascending order (R186). -/
theorem State.servedLane_eq (s : State) :
    s.servedLane = (List.ofFn fun i : Fin 4 => s.pointer + i).find? fun l => (s.lane l).servable := by
  simp [State.servedLane, List.ofFn_succ]

/-- The lane served is the first servable one from the pointer on (R186). -/
theorem State.servedLane_eq_some_iff (s : State) (l : LaneId) :
    s.servedLane = some l ↔ (s.lane l).servable = true ∧
      ∀ i j : Fin 4, s.pointer + i = l → j < i → ¬ (s.lane (s.pointer + j)).servable = true := by
  rw [State.servedLane_eq, List.find?_eq_some_iff_getElem]
  refine and_congr_right' ?_
  simp only [List.getElem_ofFn, List.length_ofFn, Bool.not_eq_true', Bool.not_eq_true]
  constructor
  · rintro ⟨n, inside, isLane, before⟩ i j same earlier
    have position : i = ⟨n, inside⟩ := add_left_cancel (same.trans isLane.symm)
    subst position
    exact before j earlier
  · intro before
    have found : s.pointer + (l - s.pointer) = l := add_sub_cancel _ _
    exact ⟨(l - s.pointer).val, (l - s.pointer).isLt, found, fun j earlier =>
      before (l - s.pointer) ⟨j, earlier.trans (l - s.pointer).isLt⟩ found earlier⟩

theorem State.servedLane_eq_none_iff (s : State) : s.servedLane = none ↔ ∀ k, ¬ (s.lane k).servable = true := by
  rw [State.servedLane_eq, List.find?_eq_none]
  refine ⟨fun none k => none k ?_, fun none k _ => none k⟩
  exact (List.mem_ofFn).mpr ⟨k - s.pointer, add_sub_cancel _ _⟩

/-- The request taken is the head of the lane served (R186). -/
theorem State.nextRequest_eq_some_iff (s : State) (l : LaneId) (f : Bytes) :
    s.nextRequest = some (l, f) ↔ s.servedLane = some l ∧ (s.lane l).requests.head? = some f := by
  simp only [State.nextRequest, Option.bind_eq_some_iff, Option.map_eq_some_iff, Prod.mk.injEq]
  constructor
  · rintro ⟨k, served, g, head, rfl, rfl⟩
    exact ⟨served, head⟩
  · rintro ⟨served, head⟩
    exact ⟨l, served, f, head, rfl, rfl⟩

/-- A lane served has a request at the head of its queue, so none is next only where no lane is (R186). -/
theorem State.nextRequest_eq_none_iff (s : State) : s.nextRequest = none ↔ s.servedLane = none := by
  refine ⟨fun none => ?_, fun none => by rw [State.nextRequest, none]; rfl⟩
  cases served : s.servedLane with
  | none => rfl
  | some l =>
    have servable := ((s.servedLane_eq_some_iff l).mp served).1
    obtain ⟨f, rest, queue⟩ := List.exists_cons_of_ne_nil ((s.lane l).servable_iff.mp servable).1
    have next : s.nextRequest = some (l, f) := (s.nextRequest_eq_some_iff l f).mpr ⟨served, by rw [queue]; rfl⟩
    rw [none] at next
    exact absurd next nofun

/-- Settles O37: the search of the handler from its pointer on, and the two answers it gives without a judgement. -/
theorem requestsOutOfLine : Obligations.RequestsOutOfLine := by
  refine ⟨fun s l f => ⟨?_, ?_⟩, fun s row l p f => ⟨fun h => ?_, ?_, fun none => ?_⟩⟩
  · simp only [State.nextRequest_eq_some_iff, State.servedLane_eq_some_iff, LaneUnit.servable_iff]
    rw [and_assoc, and_comm (b := _ = some f)]
  · simp only [State.nextRequest_eq_none_iff, State.servedLane_eq_none_iff, LaneUnit.servable_iff]
  · exact exec_of_serves rfl h rfl
  · rintro next rfl rfl short
    obtain ⟨serve, taken⟩ := requestRow_takesRequests (payload f)
    rw [taken.exec_eq, State.takeRequest_short next rfl short]
    rfl
  · have idle (row : Instr) (serve : LaneId → Bytes → State → Answer) :
        (.next (s.takeRequest row serve) : Result) = .next s := by rw [State.takeRequest_none none]
    exact ⟨idle _ _, idle _ _, idle _ _, idle _ _, idle _ _⟩

end Sys2Proof.Machine
end

section
/-! PROOFS. The step of a queue that is not empty. -/

namespace Sys2Proof.Machine

/-- Settles O1: with the queue known, the step's split is decided for its second case, execution on the queue's rest. -/
theorem stepRunsFrontCommand : Obligations.StepRunsFrontCommand := by
  intro s c rest front
  unfold step
  rw [front]

end Sys2Proof.Machine
end
